-- ==== Sys2Proof/Config.lean ====
section
/-! DEFINITION. What the spec leaves open and no rule fixes: the free values. -/

namespace Sys2Proof

/-- FREE VALUE (assumption 2). What is left in a page whose write was cut off or given up, wherever the
spec names two outcomes and does not say which comes about: R162 ("Torn or blank, by how far the erase had
gone"; "Torn, unless the marker reads as set, when valid with the new image"; "Blank or torn") and R159
("it may still be a page that reads valid with the retired record's old image"). The argument is a counter
in the state that every use advances, so each use is a fresh choice. -/
opaque Config.pageRemains : Nat → Bool

end Sys2Proof
end

