-- ==== Sys2Proof/Word.lean ====
section
/-! DEFINITION. The byte: the unit of both kinds of link (spec 1.7, "Byte order").

Quantities of the records (lengths, money, times, tags) are natural numbers with the ranges the chapters
state; only what crosses a link is bits. -/

namespace Sys2Proof

/-- One byte on the request port or on a station line. -/
abbrev Byte := BitVec 8

end Sys2Proof
end

