-- ==== Sys2Proof/Syntax.lean ====
section
/-! DEFINITION. The commands of the block: one constructor of `Instr` per row of spec/opcode_table.json.

Operands are what the command brings from outside. A request brings its echo byte and its fields as sent
(R169, R189): each field is the natural number its bytes spell, so an "absent" value is still the number
that marks absence. A report of a station line brings the line, the noise mark, the toggle and the payload
fields (R65 to R67, R190). Timer events name the unit whose timer expires. The verification of a start bit brings `samples`, the LRXn samples since the receiver's last command (R52,
assumption 7). -/

namespace Sys2Proof

/-- The settings record of R176: operand of SET_SETTINGS and, clamped, the stored record. -/
structure Settings where
  /-- mc/s, per station -/
  stationRate : Vector Nat 4
  /-- passes, per station; 0 turns PROGRESS off -/
  progressInterval : Vector Nat 4
  /-- ms -/
  replyTimeout : Nat
  /-- ms -/
  silenceLimit : Nat
  /-- mm/min -/
  feedStep : Nat
  badFrameLimit : Nat
  /-- per line (R51) -/
  rateDivisor : Vector Nat 5
  /-- ms -/
  staleLimit : Nat
  /-- ms -/
  pressStartTimeout : Nat
  /-- ms -/
  valveSettleTime : Nat
  /-- mc/L drawn by the saws -/
  waterRate : Nat
  /-- mc/L of make-up water -/
  freshRate : Nat
  deriving DecidableEq, Repr

/-- The samples of a character from its verified start bit to its decision (R52 to R54): samples 6 to 16 of the start
bit, 1 to 16 of each data bit, LSB first, and 1 to 9 of the stop bit, each bit time's first sample as bit 0. -/
structure CharSamples where
  start : BitVec 11
  data : Vector (BitVec 16) 8
  stop : BitVec 9
  deriving DecidableEq, Repr

/-- The payload of a plant LEVELS (R67). -/
structure LevelsReport where
  clear : Nat
  settling : Nat
  /-- fresh meter, cumulative litres -/
  meter : Nat
  /-- litres drawn by each saw since the last report -/
  draw : Vector Nat 4
  /-- the valve byte of R190 -/
  valves : Byte
  deriving DecidableEq, Repr

/-- The messages the saws and the plant send to the part (R66, R67), payload fields as sent. -/
inductive Message where
  | accept (cut : Nat)
  | pass (cut passIndex seconds : Nat)
  | finish (cut : Nat)
  | state (mode table passesDone : Nat)
  | fault (code cut : Nat)
  | levels (report : LevelsReport)
  | pressState (report cake : Nat)
  deriving DecidableEq, Repr

/-- A request frame less its length and check bytes, which follow from the rest (R169). -/
structure Request where
  kind : Byte
  echo : Byte
  fields : List Byte
  deriving DecidableEq, Repr

/-- A SEND: the bytes behind its operation byte, and how many of all its bytes had begun before the last change of
the port status (R168, assumption 8). -/
structure SendTransfer where
  early : Nat
  frame : List Byte
  deriving DecidableEq, Repr

/-- A FETCH: how many bytes were clocked behind its operation byte, and `early` as in a SEND. -/
structure FetchTransfer where
  early : Nat
  clocked : Nat
  deriving DecidableEq, Repr

/-- A transfer with another operation byte, or a FETCH with nothing waiting (R168). -/
structure PollTransfer where
  operation : Byte
  early : Nat
  clocked : Nat
  deriving DecidableEq, Repr

/-- The commands: one constructor per row of spec/opcode_table.json, in the table's order. -/
inductive Instr where
  -- power, reset and the request port
  | powerOn
  | resetNAssert
  | resetNRelease
  | startUpRestoreEnd
  | send (transfer : SendTransfer)
  | fetch (transfer : FetchTransfer)
  | pollTransfer (transfer : PollTransfer)
  -- stock and materials
  | admitSlab (echo : Byte) (tag material length width thickness cost rack : Nat)
  | readSlab (echo : Byte) (tag : Nat)
  | listStock (echo : Byte) (cursor material slabState : Nat)
  | findSlab (echo : Byte) (material thickness minLength minWidth : Nat)
  | moveSlab (echo : Byte) (tag rack : Nat)
  | amendSlab (echo : Byte) (tag length width cost : Nat)
  | retireSlab (echo : Byte) (tag reason : Nat)
  | setMaterial (echo : Byte)
      (code veined density baseFeed minFeed hardness minRemLength minRemWidth valueFactor : Nat)
  | clearMaterial (echo : Byte) (code : Nat)
  | readMaterial (echo : Byte) (code : Nat)
  -- plans
  | openPlan (echo : Byte) (tag kerf : Nat)
  | addCut (echo : Byte) (plan piece axis offset : Nat)
  | undoCut (echo : Byte) (plan : Nat)
  | markPiece (echo : Byte) (plan piece designation job line : Nat)
  | lockPlan (echo : Byte) (plan : Nat)
  | unlockPlan (echo : Byte) (plan : Nat)
  | dropPlan (echo : Byte) (plan : Nat)
  | readPlan (echo : Byte) (plan start : Nat)
  | abandonPlan (echo : Byte) (plan : Nat)
  -- lines and stations
  | readLine (echo : Byte) (line : Nat)
  | mapLines (echo : Byte) (lines : Vector Nat 5)
  | attachStation (echo : Byte) (station : Nat)
  | detachStation (echo : Byte) (station : Nat)
  | startPlan (echo : Byte) (plan station : Nat)
  | stopStation (echo : Byte) (station : Nat)
  | resumeStation (echo : Byte) (station : Nat)
  | readStation (echo : Byte) (station : Nat)
  -- blades
  | fitBlade (echo : Byte)
      (station serial kerf maxPassDepth maxDepth life costPerUnit lowMark wear : Nat)
  | removeBlade (echo : Byte) (station : Nat)
  | readBlade (echo : Byte) (station : Nat)
  -- water
  | attachPlant (echo : Byte)
  | detachPlant (echo : Byte)
  | pressNow (echo : Byte)
  | resetPeriod (echo : Byte) (allowance : Nat)
  | setWater (echo : Byte)
      (hold low fill full pressLevel slow stop resumeFactor autoPress : Nat)
  | readWater (echo : Byte)
  -- jobs
  | openJob (echo : Byte) (job : Nat)
  | setLine (echo : Byte) (job line target : Nat)
  | readJob (echo : Byte) (job : Nat)
  | closeJob (echo : Byte) (job : Nat)
  | retireJob (echo : Byte) (job : Nat)
  | readOverhead (echo : Byte)
  | clearOverhead (echo : Byte)
  -- retention, settings, device, notices
  | retentionStatus (echo : Byte)
  | setSettings (echo : Byte) (record : Settings)
  | readSettings (echo : Byte)
  | readDevice (echo : Byte)
  | nextNotice (echo : Byte)
  | noticeDone (echo : Byte)
  | setNotice (echo : Byte) (source enable level : Nat)
  -- line events
  | character (line : Fin 5) (samples : CharSamples)
  | breakCharacter (line : Fin 5)
  | idleRun (line : Fin 5)
  | gapTimerExpiry (line : Fin 5)
  | accept (line : Fin 5) (noise toggle : Bool) (cut : Nat)
  | pass (line : Fin 5) (noise toggle : Bool) (cut passIndex seconds : Nat)
  | finish (line : Fin 5) (noise toggle : Bool) (cut : Nat)
  | state (line : Fin 5) (noise toggle : Bool) (mode table passesDone : Nat)
  | fault (line : Fin 5) (noise toggle : Bool) (code cut : Nat)
  | levels (line : Fin 5) (noise toggle : Bool) (report : LevelsReport)
  | pressState (line : Fin 5) (noise toggle : Bool) (report cake : Nat)
  | transmitStart (line : Fin 5)
  | frameSent (line : Fin 5)
  -- timers of the stations and the plant
  | acceptWaitExpiry (station : Fin 4)
  | holdWaitExpiry (station : Fin 4)
  | listeningReplyTimerExpiry (station : Fin 4)
  | silenceTimerExpiry (station : Fin 4)
  | stationQueryTimerExpiry (station : Fin 4)
  | plantQueryTimerExpiry
  | staleTimerExpiry
  | pressStartTimerExpiry
  | settleTimerExpiry (valve : Fin 5)
  -- the write unit
  | pageWriteStart
  | eraseDone
  | programDone
  | verifyDone (agrees markerSet : Bool)
  -- the receiver's start bit and the supply
  | startBitVerified (line : Fin 5) (samples : List Bool)
  | powerFailure
  deriving DecidableEq, Repr

end Sys2Proof
end

