-- ==== Sys2Proof/WellFormed.lean ====
section
/-! DEFINITION. Well-formed commands: every operand fits the bytes that carry it (R189, R190), a report's
pass index and the like included. A value that fits its bytes and is out of its own range is well formed:
the block that owns the field judges it (R57, R175). -/

namespace Sys2Proof

/-- A value that `n` bytes can carry. -/
def fits (n v : Nat) : Bool := decide (v < 256 ^ n)

/-- Every field of a settings record fits its bytes (R189, 11.2). -/
def Settings.fitsWire (r : Settings) : Bool :=
  r.stationRate.all (fits 3) && r.progressInterval.all (fits 1) && fits 2 r.replyTimeout
    && fits 2 r.silenceLimit && fits 2 r.feedStep && fits 1 r.badFrameLimit
    && r.rateDivisor.all (fits 2) && fits 2 r.staleLimit && fits 2 r.pressStartTimeout
    && fits 2 r.valveSettleTime && fits 3 r.waterRate && fits 3 r.freshRate

/-- Every field of a LEVELS payload fits its bytes (R190). -/
def LevelsReport.fitsWire (r : LevelsReport) : Bool :=
  fits 2 r.clear && fits 2 r.settling && fits 2 r.meter && r.draw.all (fits 1)

/-- Every payload field fits its bytes (R190, 11.6.1). -/
def Message.fitsWire : Message → Bool
  | .accept cut => fits 1 cut
  | .pass cut passIndex seconds => fits 1 cut && fits 1 passIndex && fits 2 seconds
  | .finish cut => fits 1 cut
  | .state mode table passesDone => fits 1 mode && fits 1 table && fits 1 passesDone
  | .fault code cut => fits 1 code && fits 1 cut
  | .levels report => report.fitsWire
  | .pressState report cake => fits 1 report && fits 3 cake

/-- A command whose operands the links can carry. -/
def Instr.wellFormed : Instr → Bool
  | .powerOn | .resetNAssert | .resetNRelease | .startUpRestoreEnd => true
  | .send _ | .fetch _ => true
  | .pollTransfer transfer => decide (transfer.operation ≠ 161)
  | .admitSlab _ tag material length width thickness cost rack =>
    fits 3 tag && fits 1 material && fits 2 length && fits 2 width && fits 2 thickness && fits 3 cost
      && fits 1 rack
  | .readSlab _ tag => fits 3 tag
  | .listStock _ cursor material slabState => fits 2 cursor && fits 1 material && fits 1 slabState
  | .findSlab _ material thickness minLength minWidth =>
    fits 1 material && fits 2 thickness && fits 2 minLength && fits 2 minWidth
  | .moveSlab _ tag rack => fits 3 tag && fits 1 rack
  | .amendSlab _ tag length width cost => fits 3 tag && fits 2 length && fits 2 width && fits 3 cost
  | .retireSlab _ tag reason => fits 3 tag && fits 1 reason
  | .setMaterial _ code veined density baseFeed minFeed hardness minRemLength minRemWidth valueFactor =>
    fits 1 code && fits 1 veined && fits 2 density && fits 2 baseFeed && fits 2 minFeed
      && fits 1 hardness && fits 2 minRemLength && fits 2 minRemWidth && fits 2 valueFactor
  | .clearMaterial _ code | .readMaterial _ code => fits 1 code
  | .openPlan _ tag kerf => fits 3 tag && fits 1 kerf
  | .addCut _ plan piece axis offset => fits 1 plan && fits 1 piece && fits 1 axis && fits 2 offset
  | .undoCut _ plan | .lockPlan _ plan | .unlockPlan _ plan | .dropPlan _ plan
  | .abandonPlan _ plan => fits 1 plan
  | .markPiece _ plan piece designation job line =>
    fits 1 plan && fits 1 piece && fits 1 designation && fits 2 job && fits 1 line
  | .readPlan _ plan start => fits 1 plan && fits 1 start
  | .readLine _ line => fits 1 line
  | .mapLines _ lines => lines.all (fits 1)
  | .attachStation _ station | .detachStation _ station | .stopStation _ station
  | .resumeStation _ station | .readStation _ station | .removeBlade _ station
  | .readBlade _ station => fits 1 station
  | .startPlan _ plan station => fits 1 plan && fits 1 station
  | .fitBlade _ station serial kerf maxPassDepth maxDepth life costPerUnit lowMark wear =>
    fits 1 station && fits 3 serial && fits 1 kerf && fits 2 maxPassDepth && fits 2 maxDepth
      && fits 3 life && fits 2 costPerUnit && fits 2 lowMark && fits 3 wear
  | .attachPlant _ | .detachPlant _ | .pressNow _ | .readWater _ => true
  | .resetPeriod _ allowance => fits 4 allowance
  | .setWater _ hold low fill full pressLevel slow stop resumeFactor autoPress =>
    fits 2 hold && fits 2 low && fits 2 fill && fits 2 full && fits 3 pressLevel && fits 3 slow
      && fits 3 stop && fits 2 resumeFactor && fits 1 autoPress
  | .openJob _ job | .readJob _ job | .closeJob _ job | .retireJob _ job => fits 2 job
  | .setLine _ job line target => fits 2 job && fits 1 line && fits 1 target
  | .readOverhead _ | .clearOverhead _ | .retentionStatus _ => true
  | .setSettings _ record => record.fitsWire
  | .readSettings _ | .readDevice _ | .nextNotice _ | .noticeDone _ => true
  | .setNotice _ source enable level => fits 1 source && fits 1 enable && fits 1 level
  | .character _ _ | .breakCharacter _ | .idleRun _ | .gapTimerExpiry _ => true
  | .accept _ _ _ cut => (Message.accept cut).fitsWire
  | .pass _ _ _ cut passIndex seconds => (Message.pass cut passIndex seconds).fitsWire
  | .finish _ _ _ cut => (Message.finish cut).fitsWire
  | .state _ _ _ mode table passesDone => (Message.state mode table passesDone).fitsWire
  | .fault _ _ _ code cut => (Message.fault code cut).fitsWire
  | .levels _ _ _ report => (Message.levels report).fitsWire
  | .pressState _ _ _ report cake => (Message.pressState report cake).fitsWire
  | .transmitStart _ | .frameSent _ => true
  | .acceptWaitExpiry _ | .holdWaitExpiry _ | .listeningReplyTimerExpiry _ | .silenceTimerExpiry _
  | .stationQueryTimerExpiry _ | .plantQueryTimerExpiry | .staleTimerExpiry
  | .pressStartTimerExpiry | .settleTimerExpiry _ => true
  | .pageWriteStart | .eraseDone | .programDone | .verifyDone _ _ => true
  | .startBitVerified _ _ | .powerFailure => true

end Sys2Proof
end

