-- ==== Sys2Proof/Decode.lean ====
section
/-! DEFINITION. Bytes on the two kinds of link: little-endian fields (1.7, R189), the request frame and the
kinds' codes and lengths (11.1, 11.2), the station-line frame and the messages it carries (11.6, R190), the
samples of a received character (R52, R53), and
`decodeTableWord`, which is `none` everywhere because no row of the opcode table gives bits. -/

namespace Sys2Proof

/-- `n` bytes of `v`, least significant first (1.7, "Byte order"). -/
def leBytes : Nat → Nat → List Byte
  | 0, _ => []
  | n + 1, v => BitVec.ofNat 8 v :: leBytes n (v / 256)

/-- The number little-endian bytes spell. -/
def leNat : List Byte → Nat
  | [] => 0
  | b :: bs => b.toNat + 256 * leNat bs

/-- The sum of bytes modulo 256. -/
def byteSum (bs : List Byte) : Byte := bs.foldl (· + ·) 0

/-- The bytes with the check byte behind them that makes the sum 0 modulo 256 (R169, R172, 3.3). -/
def withCheck (bs : List Byte) : List Byte := bs ++ [-(byteSum bs)]

/-- A fixed row of fields, each with its width. -/
def leFields : List (Nat × Nat) → List Byte
  | [] => []
  | (n, v) :: rest => leBytes n v ++ leFields rest

/-! ### The request port (11.1, 11.2) -/

/-- The fields of SET_SETTINGS in the row order of the settings table (11.2). -/
def Settings.bytes (r : Settings) : List Byte :=
  leFields (r.stationRate.toList.map (fun v => (3, v)))
    ++ leFields (r.progressInterval.toList.map (fun v => (1, v)))
    ++ leFields [(2, r.replyTimeout), (2, r.silenceLimit), (2, r.feedStep), (1, r.badFrameLimit)]
    ++ leFields (r.rateDivisor.toList.map (fun v => (2, v)))
    ++ leFields [(2, r.staleLimit), (2, r.pressStartTimeout), (2, r.valveSettleTime),
        (3, r.waterRate), (3, r.freshRate)]

/-- The request a command stands for: its kind's code (11.2), its echo byte and its fields in the order the
request's rule names them, each of the width R189 gives. `none` for a command that is not a request. -/
def Instr.request? : Instr → Option Request
  | .admitSlab echo tag material length width thickness cost rack =>
    some ⟨16, echo, leFields [(3, tag), (1, material), (2, length), (2, width), (2, thickness),
      (3, cost), (1, rack)]⟩
  | .readSlab echo tag => some ⟨17, echo, leFields [(3, tag)]⟩
  | .listStock echo cursor material slabState =>
    some ⟨18, echo, leFields [(2, cursor), (1, material), (1, slabState)]⟩
  | .findSlab echo material thickness minLength minWidth =>
    some ⟨19, echo, leFields [(1, material), (2, thickness), (2, minLength), (2, minWidth)]⟩
  | .moveSlab echo tag rack => some ⟨20, echo, leFields [(3, tag), (1, rack)]⟩
  | .amendSlab echo tag length width cost =>
    some ⟨21, echo, leFields [(3, tag), (2, length), (2, width), (3, cost)]⟩
  | .retireSlab echo tag reason => some ⟨22, echo, leFields [(3, tag), (1, reason)]⟩
  | .setMaterial echo code veined density baseFeed minFeed hardness minRemLength minRemWidth valueFactor =>
    some ⟨23, echo, leFields [(1, code), (1, veined), (2, density), (2, baseFeed), (2, minFeed),
      (1, hardness), (2, minRemLength), (2, minRemWidth), (2, valueFactor)]⟩
  | .clearMaterial echo code => some ⟨24, echo, leFields [(1, code)]⟩
  | .readMaterial echo code => some ⟨25, echo, leFields [(1, code)]⟩
  | .openPlan echo tag kerf => some ⟨32, echo, leFields [(3, tag), (1, kerf)]⟩
  | .addCut echo plan piece axis offset =>
    some ⟨33, echo, leFields [(1, plan), (1, piece), (1, axis), (2, offset)]⟩
  | .undoCut echo plan => some ⟨34, echo, leFields [(1, plan)]⟩
  | .markPiece echo plan piece designation job line =>
    some ⟨35, echo, leFields [(1, plan), (1, piece), (1, designation), (2, job), (1, line)]⟩
  | .lockPlan echo plan => some ⟨36, echo, leFields [(1, plan)]⟩
  | .unlockPlan echo plan => some ⟨37, echo, leFields [(1, plan)]⟩
  | .dropPlan echo plan => some ⟨38, echo, leFields [(1, plan)]⟩
  | .readPlan echo plan start => some ⟨39, echo, leFields [(1, plan), (1, start)]⟩
  | .abandonPlan echo plan => some ⟨40, echo, leFields [(1, plan)]⟩
  | .readLine echo line => some ⟨48, echo, leFields [(1, line)]⟩
  | .mapLines echo lines => some ⟨49, echo, leFields (lines.toList.map (fun v => (1, v)))⟩
  | .attachStation echo station => some ⟨56, echo, leFields [(1, station)]⟩
  | .detachStation echo station => some ⟨57, echo, leFields [(1, station)]⟩
  | .startPlan echo plan station => some ⟨58, echo, leFields [(1, plan), (1, station)]⟩
  | .stopStation echo station => some ⟨59, echo, leFields [(1, station)]⟩
  | .resumeStation echo station => some ⟨60, echo, leFields [(1, station)]⟩
  | .readStation echo station => some ⟨61, echo, leFields [(1, station)]⟩
  | .fitBlade echo station serial kerf maxPassDepth maxDepth life costPerUnit lowMark wear =>
    some ⟨64, echo, leFields [(1, station), (3, serial), (1, kerf), (2, maxPassDepth), (2, maxDepth),
      (3, life), (2, costPerUnit), (2, lowMark), (3, wear)]⟩
  | .removeBlade echo station => some ⟨65, echo, leFields [(1, station)]⟩
  | .readBlade echo station => some ⟨66, echo, leFields [(1, station)]⟩
  | .attachPlant echo => some ⟨72, echo, []⟩
  | .detachPlant echo => some ⟨73, echo, []⟩
  | .pressNow echo => some ⟨74, echo, []⟩
  | .resetPeriod echo allowance => some ⟨75, echo, leFields [(4, allowance)]⟩
  | .setWater echo hold low fill full pressLevel slow stop resumeFactor autoPress =>
    some ⟨76, echo, leFields [(2, hold), (2, low), (2, fill), (2, full), (3, pressLevel), (3, slow),
      (3, stop), (2, resumeFactor), (1, autoPress)]⟩
  | .readWater echo => some ⟨77, echo, []⟩
  | .openJob echo job => some ⟨80, echo, leFields [(2, job)]⟩
  | .setLine echo job line target => some ⟨81, echo, leFields [(2, job), (1, line), (1, target)]⟩
  | .readJob echo job => some ⟨82, echo, leFields [(2, job)]⟩
  | .closeJob echo job => some ⟨83, echo, leFields [(2, job)]⟩
  | .retireJob echo job => some ⟨84, echo, leFields [(2, job)]⟩
  | .readOverhead echo => some ⟨85, echo, []⟩
  | .clearOverhead echo => some ⟨86, echo, []⟩
  | .retentionStatus echo => some ⟨88, echo, []⟩
  | .setSettings echo record => some ⟨96, echo, record.bytes⟩
  | .readSettings echo => some ⟨97, echo, []⟩
  | .readDevice echo => some ⟨98, echo, []⟩
  | .nextNotice echo => some ⟨104, echo, []⟩
  | .noticeDone echo => some ⟨105, echo, []⟩
  | .setNotice echo source enable level =>
    some ⟨106, echo, leFields [(1, source), (1, enable), (1, level)]⟩
  | .powerOn | .resetNAssert | .resetNRelease | .startUpRestoreEnd => none
  | .send _ | .fetch _ | .pollTransfer _ => none
  | .character _ _ | .breakCharacter _ | .idleRun _ | .gapTimerExpiry _ => none
  | .accept _ _ _ _ | .pass _ _ _ _ _ _ | .finish _ _ _ _ | .state _ _ _ _ _ _ | .fault _ _ _ _ _
  | .levels _ _ _ _ | .pressState _ _ _ _ _ => none
  | .transmitStart _ | .frameSent _ => none
  | .acceptWaitExpiry _ | .holdWaitExpiry _ | .listeningReplyTimerExpiry _ | .silenceTimerExpiry _
  | .stationQueryTimerExpiry _ | .plantQueryTimerExpiry | .staleTimerExpiry
  | .pressStartTimerExpiry | .settleTimerExpiry _ => none
  | .pageWriteStart | .eraseDone | .programDone | .verifyDone _ _ => none
  | .startBitVerified _ _ | .powerFailure => none

/-- The field length of each request kind (11.2); `none` for a code that is no request kind. -/
def requestLength : Nat → Option Nat
  | 16 => some 14 | 17 => some 3 | 18 => some 4 | 19 => some 7 | 20 => some 4 | 21 => some 10
  | 22 => some 4 | 23 => some 15 | 24 => some 1 | 25 => some 1
  | 32 => some 4 | 33 => some 5 | 34 => some 1 | 35 => some 6 | 36 => some 1 | 37 => some 1
  | 38 => some 1 | 39 => some 2 | 40 => some 1
  | 48 => some 1 | 49 => some 5
  | 56 => some 1 | 57 => some 1 | 58 => some 2 | 59 => some 1 | 60 => some 1 | 61 => some 1
  | 64 => some 19 | 65 => some 1 | 66 => some 1
  | 72 => some 0 | 73 => some 0 | 74 => some 0 | 75 => some 4 | 76 => some 20 | 77 => some 0
  | 80 => some 2 | 81 => some 4 | 82 => some 2 | 83 => some 2 | 84 => some 2 | 85 => some 0
  | 86 => some 0 | 88 => some 0
  | 96 => some 45 | 97 => some 0 | 98 => some 0
  | 104 => some 0 | 105 => some 0 | 106 => some 3
  | _ => none

/-- The bytes of a request frame, as a SEND transfer carries them behind the operation byte (R169, R189). -/
def Request.frame (q : Request) : List Byte :=
  withCheck (q.kind :: q.echo :: leBytes 2 q.fields.length ++ q.fields)

/-! ### Station-line frames (R190) -/

/-- The kind code of a message to the part (R190). -/
def Message.kindCode : Message → Nat
  | .accept _ => 8
  | .pass _ _ _ => 9
  | .finish _ => 10
  | .state _ _ _ => 11
  | .fault _ _ => 12
  | .levels _ => 13
  | .pressState _ _ => 14

/-- The payload bytes of a message (11.6.1). -/
def Message.payload : Message → List Byte
  | .accept cut => leFields [(1, cut)]
  | .pass cut passIndex seconds => leFields [(1, cut), (1, passIndex), (2, seconds)]
  | .finish cut => leFields [(1, cut)]
  | .state mode table passesDone => leFields [(1, mode), (1, table), (1, passesDone)]
  | .fault code cut => leFields [(1, code), (1, cut)]
  | .levels r => leFields ([(2, r.clear), (2, r.settling), (2, r.meter)]
      ++ r.draw.toList.map (fun v => (1, v))) ++ [r.valves]
  | .pressState report cake => leFields [(1, report), (3, cake)]

/-- The message a kind code and a payload of that kind's length spell; `none` for a kind that neither the
saws nor the plant send, or for a payload of another length (R57, R190). -/
def Message.ofPayload : Nat → List Byte → Option Message
  | 8, [a] => some (.accept a.toNat)
  | 9, [a, b, c, d] => some (.pass a.toNat b.toNat (leNat [c, d]))
  | 10, [a] => some (.finish a.toNat)
  | 11, [a, b, c] => some (.state a.toNat b.toNat c.toNat)
  | 12, [a, b] => some (.fault a.toNat b.toNat)
  | 13, [a, b, c, d, e, f, g, h, i, j, k] =>
    some (.levels ⟨leNat [a, b], leNat [c, d], leNat [e, f],
      #v[g.toNat, h.toNat, i.toNat, j.toNat], k⟩)
  | 14, [a, b, c, d] => some (.pressState a.toNat (leNat [b, c, d]))
  | _, _ => none

/-- The lead byte: kind code in bits 0 to 3, toggle in bit 6, direction in bit 7 (R190). -/
def leadByte (kindCode : Nat) (toggle direction : Bool) : Byte :=
  BitVec.ofNat 8 (kindCode % 16 + (if toggle then 64 else 0) + (if direction then 128 else 0))

/-- A whole station-line frame: lead, length, payload, check (3.3, R190). -/
def lineFrame (kindCode : Nat) (toggle direction : Bool) (payload : List Byte) : List Byte :=
  withCheck (leadByte kindCode toggle direction :: leBytes 1 payload.length ++ payload)

/-- The frame a saw or the plant sends for a message: direction bit 0 (3.3). -/
def Message.frame (m : Message) (toggle : Bool) : List Byte :=
  lineFrame m.kindCode toggle false m.payload

/-- The toggle and the message of a complete received frame, `none` when its sum is not 0 modulo 256, its
direction bit is 1, its kind is none that is sent to the part or its length is not that of its kind (R57).
The frame assembler hands over frames that are as long as their length byte says (R56).
Bits 4 and 5 of the lead byte are ignored on receipt (R190). -/
def decodeFrame (bs : List Byte) : Option (Bool × Message) :=
  match bs with
  | lead :: len :: rest =>
    if byteSum bs = 0 ∧ lead.getLsbD 7 = false ∧ len.toNat + 1 = rest.length then
      (Message.ofPayload (lead.toNat % 16) rest.dropLast).map (fun m => (lead.getLsbD 6, m))
    else none
  | _ => none

/-- The coded payload fields hold values their kind defines (R57, R190): a mode to 3, a table state to 1, a
reported press state to 3, a FAULT code other than 0, a LEVELS valve byte with bits 5 to 7 clear. -/
def Message.codedFieldsDefined : Message → Bool
  | .state mode table _ => decide (mode ≤ 3 ∧ table ≤ 1)
  | .fault code _ => decide (code ≠ 0)
  | .levels r => decide (r.valves.toNat < 32)
  | .pressState report _ => decide (report ≤ 3)
  | .accept _ | .pass _ _ _ | .finish _ => true

/-- A saw's kinds (R66); the others are the plant's (R67). -/
def Message.fromSaw : Message → Bool
  | .accept _ | .pass _ _ _ | .finish _ | .state _ _ _ | .fault _ _ => true
  | .levels _ | .pressState _ _ => false

/-- The kinds whose toggle the line compares (R58). -/
def Message.answersOrder : Message → Bool
  | .accept _ | .pass _ _ _ | .finish _ => true
  | _ => false

/-! ### Samples (R52 to R54) -/

/-- How many of three samples are 0. -/
def zeros (x : BitVec 3) : Nat :=
  (if x.getLsbD 0 then 0 else 1) + (if x.getLsbD 1 then 0 else 1) + (if x.getLsbD 2 then 0 else 1)

/-- The majority of three samples (R53). -/
def majority (x : BitVec 3) : Bool := decide (zeros x ≤ 1)

/-- Three samples not all alike: a noise mark (R52, R53). -/
def uneven (x : BitVec 3) : Bool := x != 0 && x != 7

/-- Samples 7, 8 and 9 of a bit time, which decide it (R53). -/
def deciding {w : Nat} (x : BitVec w) : BitVec 3 := x.extractLsb' 6 3

/-- The data byte, LSB first (R51, R53). -/
def CharSamples.byte (c : CharSamples) : Byte :=
  BitVec.ofNat 8 (c.data.toList.foldr (fun x acc => (majority (deciding x)).toNat + 2 * acc) 0)

/-- A framing error: the stop majority is 0 (R53). -/
def CharSamples.framing (c : CharSamples) : Bool := !majority (deciding c.stop)

def CharSamples.noisy (c : CharSamples) : Bool :=
  c.data.any (fun x => uneven (deciding x)) || uneven (deciding c.stop)

/-- A break character: data bits and stop bit all 0 (R53). -/
def CharSamples.isBreak (c : CharSamples) : Bool := c.framing && decide (c.byte = 0)

/-- The samples of a bit time, or of a part of one, in the order they are taken. -/
def bitSamples {w : Nat} (x : BitVec w) : List Bool := (List.range w).map x.getLsbD

/-- All samples of a character, in the order they are taken. -/
def CharSamples.samples (c : CharSamples) : List Bool :=
  bitSamples c.start ++ c.data.toList.flatMap bitSamples ++ bitSamples c.stop

/-- The samples of an undisturbed byte with a good stop bit. -/
def CharSamples.clean (b : Byte) : CharSamples where
  start := 0
  data := Vector.ofFn fun i => if b.getLsbD i.val then BitVec.allOnes 16 else 0
  stop := BitVec.allOnes 9

/-- The run of consecutive 1-samples behind one more sample, counted to 160 (R54). -/
def onesOn (n : Nat) (x : Bool) : Nat := if x then min 160 (n + 1) else 0

/-- The run of consecutive 1-samples behind more samples (R54). -/
def onesRun (n : Nat) (samples : List Bool) : Nat := samples.foldl onesOn n

/-! ### The opcode table -/

/-- The command a word of the opcode table spells: none, since the table gives no row any bits. -/
def decodeTableWord (_nbits _w : Nat) : Option Instr := none

end Sys2Proof
end

