-- ==== Sys2Proof/Machine/State.lean ====
section
/-! DEFINITION. The state of the block: every record, queue, timer and mode the chapters give it, as plain
data, and `State.reset`.

Numbered units are indexed by `Fin` (stations 0 to 3, lines 0 to 4, plans 0 to 11, slots, pages), so a
number out of range can stand only in a request's fields. A running timer holds the period it was started
with (R177). Pins that the spec defines by other state (REPLY, NOTICE_N, LDE0 to LDE4) are read off in
Machine/Flags.lean and have no field of their own. -/

namespace Sys2Proof.Machine

/-! ### Stock (chapter 1) -/

/-- A DEFINED Material Table entry (R1). -/
structure Material where
  density : Nat
  hardness : Nat
  veined : Bool
  minRemLength : Nat
  minRemWidth : Nat
  /-- remnant value factor q, in 256ths -/
  valueFactor : Nat
  baseFeed : Nat
  minFeed : Nat
  deriving DecidableEq, Repr

inductive SlabKind where
  | full | remnant
  deriving DecidableEq, Repr

inductive SlabState where
  | available | held | cutting
  deriving DecidableEq, Repr

/-- A slab record (R4). -/
structure Slab where
  tag : Nat
  kind : SlabKind
  material : Fin 32
  length : Nat
  width : Nat
  thickness : Nat
  /-- cents -/
  cost : Nat
  parent : Option Nat
  rack : Option (Fin 120)
  state : SlabState
  holder : Option (Fin 12)
  interrupted : Bool
  deriving DecidableEq, Repr

/-- The Stock Table (R6), the Rack Map (R9), the Material Table (R1), the reservation count (R7) and the
remnant tag counter (R8). -/
structure Stock where
  slabs : Vector (Option Slab) 512
  /-- position to tag -/
  rackMap : Vector (Option Nat) 120
  materials : Vector (Option Material) 32
  reserved : Nat
  tagCounter : Nat
  deriving DecidableEq, Repr

/-! ### Plans (chapter 2) -/

inductive Axis where
  | rip | cross
  deriving DecidableEq, Repr

/-- A rectangle in slab coordinates (R27). -/
structure Rect where
  x : Nat
  y : Nat
  length : Nat
  width : Nat
  deriving DecidableEq, Repr

/-- The piece a piece was cut from and the cut that made it (R27); absent for piece 0. -/
structure Origin where
  parent : Nat
  cut : Nat
  deriving DecidableEq, Repr

/-- A designation (R33); `line` is the line number less one. -/
inductive Designation where
  | part (job : Nat) (line : Fin 8)
  | remnant
  | scrap
  deriving DecidableEq, Repr

/-- A piece-table entry (R27): UNUSED, LEAF or SPLIT. -/
inductive Piece where
  | unused
  | leaf (rect : Rect) (origin : Option Origin) (designation : Option Designation)
  | split (rect : Rect) (origin : Option Origin)
  deriving DecidableEq, Repr

inductive CutState where
  | pending | done
  deriving DecidableEq, Repr

/-- A cut of the cut list (R28). -/
structure Cut where
  target : Fin 64
  axis : Axis
  offset : Nat
  travel : Nat
  startX : Nat
  startY : Nat
  state : CutState
  deriving DecidableEq, Repr

inductive PlanState where
  | opened | locked | bound
  deriving DecidableEq, Repr

/-- The material snapshot (R38): the entry with its code. -/
structure Snapshot where
  code : Fin 32
  entry : Material
  deriving DecidableEq, Repr

/-- The yield figures (R40). -/
structure Yield where
  parts : Nat
  remnant : Nat
  scrap : Nat
  kerf : Nat
  /-- per-mille -/
  perMille : Nat
  deriving DecidableEq, Repr

/-- An occupied plan slot (R24), with the pool-saturated mark of R142. -/
structure Plan where
  state : PlanState
  slabTag : Nat
  kerf : Nat
  station : Option (Fin 4)
  snapshot : Option Snapshot
  pieces : Vector Piece 64
  cuts : List Cut
  cutsDone : Nat
  passCount : Option Nat
  passDepth : Option Nat
  remainingTravel : Option Nat
  passesReported : Nat
  touched : Bool
  /-- millicents -/
  pool : Nat
  poolSaturated : Bool
  reservedRemnants : Nat
  yields : Option Yield
  deriving DecidableEq, Repr

/-! ### Station lines (chapter 3) -/

/-- The fields of an ORDER (R65). -/
structure OrderInfo where
  plan : Fin 12
  cut : Nat
  axis : Axis
  startX : Nat
  startY : Nat
  travel : Nat
  totalDepth : Nat
  passCount : Nat
  firstPass : Nat
  passDepth : Nat
  feedLimit : Nat
  deriving DecidableEq, Repr

/-- The messages the part sends (R65, R67). Valve values are `true` for OPEN: the make-up valve first, then
the supply valves of stations 0 to 3. -/
inductive TxMessage where
  | order (info : OrderInfo)
  | hold
  | feed (limit : Nat)
  | query
  | valves (commanded : Vector Bool 5)
  | press
  deriving DecidableEq, Repr

/-- A frame to be sent: its message and its toggle bit (R61). -/
structure TxFrame where
  toggle : Bool
  message : TxMessage
  deriving DecidableEq, Repr

/-- The receiver (R50, R52, R53): in its start search, with the consecutive 1-samples it has counted toward the four
needed and the consecutive 0-samples toward a break character; in the start check, with the samples of the start bit taken so far; or in a
character whose start bit is verified, with the noise mark the start check set. -/
inductive Receiver where
  | search (ones zeros : Nat)
  | startCheck (samples : List Bool)
  | inCharacter (noise : Bool)
  deriving DecidableEq, Repr

/-- The start search as it begins: nothing counted yet (R52, R53). -/
abbrev Receiver.startSearch : Receiver := .search 0 0

/-- The frame assembler (R56); in ASSEMBLING the bytes taken so far, in order, and whether one of their
characters carried a noise mark. -/
inductive Assembler where
  | settling
  | ready
  | assembling (bytes : List Byte) (noise : Bool)
  | separating
  | discarding
  deriving DecidableEq, Repr

/-- The gap timer (R55): `stopped` from a start bit verified before expiry to the decision of its character,
and during BREAK. -/
inductive GapTimer where
  | stopped | running | expired
  deriving DecidableEq, Repr

/-- The transmitter (R61): off while the line is disabled, in the opening idle character, with a frame on the
wire, or in the separating idle behind a frame. -/
inductive Transmitter where
  | off
  | openingIdle
  | sending (frame : TxFrame)
  | separatingIdle
  deriving DecidableEq, Repr

/-- A line interface (R50). -/
structure Line where
  enabled : Bool
  /-- the rate divisor in use (R51); kept from the last enabling while disabled -/
  divisor : Nat
  receiver : Receiver
  /-- the consecutive 1-samples seen, in a search, a start check or a character, counted to 160 (R54) -/
  onesSeen : Nat
  breakRun : Bool
  inBreak : Bool
  assembler : Assembler
  gap : GapTimer
  badCount : Nat
  queue : List TxFrame
  transmitter : Transmitter
  takenFrames : Nat
  badFrames : Nat
  noisyFrames : Nat
  staleReports : Nat
  deriving DecidableEq, Repr

/-- The user of a line (R64). -/
inductive User where
  | station (i : Fin 4)
  | plant
  deriving DecidableEq, Repr

/-! ### Stations (chapter 4) and blades (chapter 5) -/

inductive StationState where
  | detached | listening | ready | staged | cutting | holding | paused | faulted
  deriving DecidableEq, Repr

/-- The condition of a station (R68, R70). -/
inductive Condition where
  | none | hostStop | waterHold | dryCut | bladeWorn | noAccept | noHold | silent | estop | sawFault
  | lineNoise
  deriving DecidableEq, Repr

inductive SawMode where
  | idle | cutting | held | fault
  deriving DecidableEq, Repr

/-- The station record (R68) and its three timers; `replyTimer` times the LISTENING repeat, the ACCEPT wait
or the hold wait by the station's state (R71, R79, R87). -/
structure Station where
  state : StationState
  plan : Option (Fin 12)
  toggle : Bool
  orderOutstanding : Bool
  passesTaken : Nat
  tableLoaded : Bool
  loadedSinceStaging : Bool
  sawMode : Option SawMode
  sawPassesDone : Nat
  condition : Condition
  faultCode : Option Nat
  /-- the cut index kept with the fault code; 255 for none -/
  faultCut : Nat
  lastFeedLimit : Option Nat
  progressCount : Nat
  replyTimer : Option Nat
  silenceTimer : Option Nat
  queryTimer : Option Nat
  deriving DecidableEq, Repr

/-- A present blade record (R98). -/
structure Blade where
  serial : Nat
  kerf : Nat
  maxPassDepth : Nat
  maxDepth : Nat
  fittedLife : Nat
  wearRemaining : Nat
  wearCarry : Nat
  costPerUnit : Nat
  lowMark : Nat
  lowRaised : Bool
  deriving DecidableEq, Repr

/-! ### The water loop (chapter 6) -/

inductive PlantLink where
  | detached | listening | live | stale
  deriving DecidableEq, Repr

inductive Press where
  | idle | requested | running | suspended
  deriving DecidableEq, Repr

inductive SettleTimer where
  | stopped
  | running (period : Nat)
  | expired
  deriving DecidableEq, Repr

/-- The water threshold record with auto-press (R109). -/
structure Thresholds where
  hold : Nat
  low : Nat
  fill : Nat
  full : Nat
  press : Nat
  slow : Nat
  stop : Nat
  resume : Nat
  autoPress : Bool
  deriving DecidableEq, Repr

/-- What the water page keeps (R129). -/
structure WaterRetained where
  solids : Nat
  solidsCarry : Nat
  periodUsed : Nat
  allowance : Option Nat
  thresholds : Thresholds
  deriving DecidableEq, Repr

/-- The Water Supervisor's record (R108). Valves are indexed make-up first, then stations 0 to 3, and are
`true` for OPEN. -/
structure Water where
  link : PlantLink
  /-- λ -/
  clear : Option Nat
  /-- σ -/
  settling : Option Nat
  meterBaseline : Option Nat
  reported : Option (Vector Bool 5)
  commanded : Vector Bool 5
  settle : Vector SettleTimer 5
  /-- G, the solids carry, period used, allowance and thresholds -/
  kept : WaterRetained
  allowanceReached : Bool
  press : Press
  fClear : Nat
  fSettle : Nat
  fSolids : Nat
  /-- F -/
  factor : Nat
  staleTimer : Option Nat
  queryTimer : Option Nat
  pressTimer : Option Nat
  deriving DecidableEq, Repr

/-! ### Jobs (chapter 7) -/

/-- A present job line (R131). -/
structure JobLine where
  target : Nat
  delivered : Nat
  designated : Nat
  materialCents : Nat
  processCents : Nat
  deriving DecidableEq, Repr

/-- A live job record (R130). -/
structure Job where
  number : Nat
  closed : Bool
  lines : Vector (Option JobLine) 8
  materialTotal : Nat
  processTotal : Nat
  saturated : Bool
  deriving DecidableEq, Repr

/-- The overhead account (R133). -/
structure Overhead where
  materialTotal : Nat
  processTotal : Nat
  carry : Nat
  saturated : Bool
  deriving DecidableEq, Repr

/-! ### Retention (chapter 8) -/

/-- The image a page carries (R154). -/
inductive Image where
  | slab (record : Slab)
  | job (record : Job)
  | overhead (record : Overhead)
  | material (record : Material)
  | blade (record : Blade)
  | water (record : WaterRetained)
  | settings (record : Settings) (lineMap : Vector (Fin 5) 5)
  | counters (tagCounter : Nat)
  deriving DecidableEq, Repr

/-- The condition of a page (R154), with the image of a valid one. -/
inductive Page where
  | blank
  | torn
  | valid (image : Image)
  deriving DecidableEq, Repr

inductive WritePhase where
  | erasing | programming | verifying
  deriving DecidableEq, Repr

/-- A page write in flight: the page, its buffered image (`none` for an erase-only write), the step in hand
and whether it is the retry (R156, R157, R159). `before` is the model's own: what the page held when it was
taken, which a failed erase may leave (R159). -/
structure PageWrite where
  page : Fin 648
  image : Option Image
  phase : WritePhase
  retry : Bool
  before : Page
  deriving DecidableEq, Repr

/-- The Retention Array with its queue, its unsaved marks and its write unit; no write means IDLE. -/
structure Retention where
  pages : Vector Page 648
  queue : List (Fin 648)
  unsaved : Vector Bool 648
  write : Option PageWrite
  deriving DecidableEq, Repr

/-! ### The request port (chapter 9) and the notices (chapter 10) -/

inductive PortStatus where
  | starting | idle | working | reply
  deriving DecidableEq, Repr

inductive ResetCause where
  | power | pin
  deriving DecidableEq, Repr

/-- The reply codes, in the order of 11.3. -/
inductive ReplyCode where
  | ok | badCheck | badLength | unknownRequest | badValue | noSuch | duplicate
  | wrongState | full | noRoom | occupied | inUse | sliver | notLeaf
  | designated | undesignated | tooSmall | lineFull | jobClosed | jobBusy | noBlade
  | bladeWorn | kerf | depth | waterHold | nothingOpen | nothing | ended
  deriving DecidableEq, Repr

/-- A reply frame less its length and check bytes (R172). -/
structure Reply where
  code : ReplyCode
  echo : Byte
  fields : List Byte
  deriving DecidableEq, Repr

/-- The Request Port (R167). `before` is the status before the last change that came of no transfer (STARTING
before a restore's end, WORKING before a reply) while no transfer has ended since: what a transfer in progress at
that change met with its earlier bytes (R168). `sdo` is what SDO carried in the last transfer, byte by byte. -/
structure Port where
  status : PortStatus
  before : Option PortStatus
  request : Option Request
  reply : Option Reply
  resetCause : ResetCause
  sdo : List Byte
  deriving DecidableEq, Repr

inductive Crossing where
  | fellToZero | reachedResume
  deriving DecidableEq, Repr

inductive PlantEvent where
  | stale | live | lineBreak | lineNoise
  deriving DecidableEq, Repr

inductive StaleCause where
  | silence | lineBreak
  deriving DecidableEq, Repr

inductive PressEvent where
  | startTimeout | idle | done | failed
  deriving DecidableEq, Repr

inductive RecordKind where
  | slab | job | overhead | material | blade | water | settings | counters
  deriving DecidableEq, Repr

/-- A notice's detail, one constructor per kind of notice (R183). -/
inductive Detail where
  | estop (state : StationState) (plan : Option (Fin 12)) (cut : Option Nat)
  | halt (condition : Condition) (state : StationState) (faultCode : Option Nat)
      (plan : Option (Fin 12)) (cut : Option Nat) (faultCut : Option Nat)
  | planDone (plan : Fin 12) (slabTag : Nat)
  | progress (plan : Fin 12) (cut passIndex remainingTravel : Nat)
  | water (crossing : Crossing) (factor fClear fSettle fSolids : Nat)
  | valve (valve : Fin 5) (commanded reported : Bool)
  | plant (event : PlantEvent) (cause : Option StaleCause) (link : PlantLink)
  | press (event : PressEvent) (cake : Option Nat) (solids : Nat) (press : Press)
  | allowance (periodUsed allowance : Nat)
  | bladeLow (station : Fin 4) (serial wearRemaining : Nat)
  | retention (page : Fin 648) (kind : RecordKind) (eraseOnly : Bool)
  | startUp (cause : ResetCause) (torn interrupted duplicates : Nat)
  deriving DecidableEq, Repr

/-- A pending record (R181): the latest detail and the repeat count. -/
structure PendingNotice where
  detail : Detail
  count : Nat
  deriving DecidableEq, Repr

/-- A notice source (R181). -/
structure NoticeSource where
  pending : Option PendingNotice
  enabled : Bool
  level : Nat
  deriving DecidableEq, Repr

/-- The Notice Unit: the 24 sources and the floor stack, top first (R181, R185). -/
structure NoticeUnit where
  sources : Vector NoticeSource 24
  floors : List Nat
  deriving DecidableEq, Repr

/-! ### The whole block -/

/-- Supply and RESET_N: without supply, with RESET_N held low, or running. `off` keeps the level of the pin;
`held` keeps whether the supply came while the pin was low (R167). -/
inductive Supply where
  | off (pinLow : Bool)
  | held (fromPowerOn : Bool)
  | running
  deriving DecidableEq, Repr

structure State where
  supply : Supply
  port : Port
  notices : NoticeUnit
  stock : Stock
  plans : Vector (Option Plan) 12
  lines : Vector Line 5
  /-- the line of stations 0 to 3, then of the plant (R64) -/
  lineMap : Vector (Fin 5) 5
  stations : Vector Station 4
  blades : Vector (Option Blade) 4
  water : Water
  jobs : Vector (Option Job) 96
  overhead : Overhead
  settings : Settings
  retention : Retention
  /-- the model's own: uses made so far of `Config.pageRemains` -/
  freeUses : Nat
  /-- the model's own: the commands waiting, first in, first out -/
  pending : List Instr
  deriving DecidableEq, Repr

/-- No command faults: where the spec gives a command no effect in a state, the block stays as it is. The
type has no constructor. -/
inductive Fault where
  deriving DecidableEq, Repr

/-- Refusals. -/
inductive Refusal where
  /-- Raised by `exec` alone, for a command that has no meaning in the model yet; no arm raises it now.
  Safe: the model stops where the block goes on. -/
  | notModelled (mnemonic : String)
  deriving DecidableEq, Repr

/-! ### The state after reset -/

/-- The settings record of a blank array (R176). -/
def Settings.blank : Settings where
  stationRate := Vector.replicate 4 0
  progressInterval := Vector.replicate 4 0
  replyTimeout := 500
  silenceLimit := 3000
  feedStep := 50
  badFrameLimit := 4
  rateDivisor := Vector.replicate 5 104
  staleLimit := 5000
  pressStartTimeout := 10000
  valveSettleTime := 3000
  waterRate := 0
  freshRate := 0

/-- The thresholds of a blank array (R109). -/
def Thresholds.blank : Thresholds where
  hold := 150
  low := 400
  fill := 300
  full := 700
  press := 30000
  slow := 40000
  stop := 60000
  resume := 400
  autoPress := true

/-- The water page of a blank array (R129). -/
def WaterRetained.blank : WaterRetained where
  solids := 0
  solidsCarry := 0
  periodUsed := 0
  allowance := none
  thresholds := Thresholds.blank

/-- The default Line Map: station s on line s, the plant on line 4 (R64). -/
def defaultLineMap : Vector (Fin 5) 5 := #v[0, 1, 2, 3, 4]

/-- A line after a device reset (R50). -/
def Line.afterReset : Line where
  enabled := false
  divisor := 104
  receiver := .startSearch
  onesSeen := 0
  breakRun := false
  inBreak := false
  assembler := .settling
  gap := .expired
  badCount := 0
  queue := []
  transmitter := .off
  takenFrames := 0
  badFrames := 0
  noisyFrames := 0
  staleReports := 0

/-- A station record after a device reset (R68). -/
def Station.afterReset : Station where
  state := .detached
  plan := none
  toggle := false
  orderOutstanding := false
  passesTaken := 0
  tableLoaded := false
  loadedSinceStaging := false
  sawMode := none
  sawPassesDone := 0
  condition := .none
  faultCode := none
  faultCut := 255
  lastFeedLimit := none
  progressCount := 0
  replyTimer := none
  silenceTimer := none
  queryTimer := none

/-- The Water Supervisor after a device reset (R108), before the restore reads the water page. -/
def Water.afterReset : Water where
  link := .detached
  clear := none
  settling := none
  meterBaseline := none
  reported := none
  commanded := Vector.replicate 5 false
  settle := Vector.replicate 5 .stopped
  kept := WaterRetained.blank
  allowanceReached := false
  press := .idle
  fClear := 0
  fSettle := 0
  fSolids := 1000
  factor := 0
  staleTimer := none
  queryTimer := none
  pressTimer := none

/-- The overhead account of a blank array (R133). -/
def Overhead.blank : Overhead where
  materialTotal := 0
  processTotal := 0
  carry := 0
  saturated := false

/-- The default level of a notice source (R181). -/
def defaultLevel (source : Nat) : Nat :=
  if source < 4 then 3
  else if source < 8 then 2
  else if source < 12 then 1
  else if source < 16 then 0
  else if source < 19 ∨ source = 22 then 2
  else 1

/-- The Notice Unit after a device reset (R181, R185). -/
def NoticeUnit.afterReset : NoticeUnit where
  sources := Vector.ofFn fun i => { pending := none, enabled := true, level := defaultLevel i.val }
  floors := []

/-- The stock of a blank array (R1, R6, R8, R9). -/
def Stock.blank : Stock where
  slabs := Vector.replicate 512 none
  rackMap := Vector.replicate 120 none
  materials := Vector.replicate 32 none
  reserved := 0
  tagCounter := 8388608

/-- The machine right after power-on with a blank array: every volatile record as the chapters give it after
a device reset, STARTING, the start-up restore in progress (R163, R167). The records the restore is yet to
read stand at their blank-array values (assumption 1). -/
def State.reset : State where
  supply := .running
  port := { status := .starting, before := none, request := none, reply := none, resetCause := .power, sdo := [] }
  notices := NoticeUnit.afterReset
  stock := Stock.blank
  plans := Vector.replicate 12 none
  lines := Vector.replicate 5 Line.afterReset
  lineMap := defaultLineMap
  stations := Vector.replicate 4 Station.afterReset
  blades := Vector.replicate 4 none
  water := Water.afterReset
  jobs := Vector.replicate 96 none
  overhead := Overhead.blank
  settings := Settings.blank
  retention :=
    { pages := Vector.replicate 648 .blank
      queue := []
      unsaved := Vector.replicate 648 false
      write := none }
  freeUses := 0
  pending := []

end Sys2Proof.Machine
end

