-- ==== Sys2Proof/Machine/Ops.lean ====
section
/-! DEFINITION. Operations every block uses: tables indexed by number, clamping and saturating (1.7), the
write-back queue (R155), raising a notice (R182), the overhead account's bookings (R132 to R134), the stock
and job records and the transmit queues (R62, R63). -/

namespace Sys2Proof.Machine

/-! ### Tables -/

/-- The entry at index `i`. -/
def slot {α : Type} {n : Nat} (v : Vector α n) (i : Fin n) : α := v[i.val]

/-- The table with entry `i` replaced. -/
def put {α : Type} {n : Nat} (v : Vector α n) (i : Fin n) (x : α) : Vector α n := v.set i.val x i.isLt

/-- The lowest index whose entry passes the test. -/
def lowest {α : Type} {n : Nat} (v : Vector α n) (p : α → Bool) : Option (Fin n) :=
  (List.finRange n).find? fun i => p (slot v i)

/-- How many entries pass the test. -/
def countWhere {α : Type} {n : Nat} (v : Vector α n) (p : α → Bool) : Nat := v.toList.countP p

/-- A number as an index, when it lies below the bound. -/
def index? (n v : Nat) : Option (Fin n) := if h : v < n then some ⟨v, h⟩ else none

/-- The value replaced by the nearest end of its range (1.7, "Clamping"). -/
def clamp (lo hi v : Nat) : Nat := max lo (min hi v)

/-- A total that stops at the end of its range (1.7, "saturates"). -/
def satAdd (limit a b : Nat) : Nat := min limit (a + b)

/-! ### Records by number -/

def State.station (s : State) (i : Fin 4) : Station := slot s.stations i

def State.setStation (s : State) (i : Fin 4) (st : Station) : State :=
  { s with stations := put s.stations i st }

def State.plan (s : State) (k : Fin 12) : Option Plan := slot s.plans k

def State.setPlan (s : State) (k : Fin 12) (p : Option Plan) : State :=
  { s with plans := put s.plans k p }

/-- Applies `f` to the plan in slot `k`, if the slot is occupied. -/
def State.updatePlan (s : State) (k : Fin 12) (f : Plan → Plan) : State :=
  s.setPlan k ((s.plan k).map f)

def State.line (s : State) (l : Fin 5) : Line := slot s.lines l

def State.setLine (s : State) (l : Fin 5) (x : Line) : State := { s with lines := put s.lines l x }

def State.blade (s : State) (i : Fin 4) : Option Blade := slot s.blades i

def State.setBlade (s : State) (i : Fin 4) (b : Option Blade) : State :=
  { s with blades := put s.blades i b }

def State.slab (s : State) (n : Fin 512) : Option Slab := slot s.stock.slabs n

def State.setSlab (s : State) (n : Fin 512) (r : Option Slab) : State :=
  { s with stock := { s.stock with slabs := put s.stock.slabs n r } }

def State.material (s : State) (c : Fin 32) : Option Material := slot s.stock.materials c

def State.setMaterial (s : State) (c : Fin 32) (m : Option Material) : State :=
  { s with stock := { s.stock with materials := put s.stock.materials c m } }

def State.job (s : State) (n : Fin 96) : Option Job := slot s.jobs n

def State.setJob (s : State) (n : Fin 96) (j : Option Job) : State := { s with jobs := put s.jobs n j }

/-- The water thresholds in force (R109). -/
def State.thresholds (s : State) : Thresholds := s.water.kept.thresholds

/-- The Water Supervisor's record changed (R108). -/
def State.onWater (s : State) (f : Water → Water) : State := { s with water := f s.water }

def State.setKept (s : State) (k : WaterRetained) : State := s.onWater fun w => { w with kept := k }

/-! ### The write-back queue (R154, R155) -/

def slabPage (n : Fin 512) : Fin 648 := ⟨n.val, by omega⟩
def jobPage (n : Fin 96) : Fin 648 := ⟨512 + n.val, by omega⟩
def overheadPage : Fin 648 := 608
def materialPage (c : Fin 32) : Fin 648 := ⟨609 + c.val, by omega⟩
def bladePage (i : Fin 4) : Fin 648 := ⟨641 + i.val, by omega⟩
def waterPage : Fin 648 := 645
def settingsPage : Fin 648 := 646
def countersPage : Fin 648 := 647

/-- A page joins the queue at the tail unless it is already there (R155). -/
def queueWith (q : List (Fin 648)) (p : Fin 648) : List (Fin 648) := if p ∈ q then q else q ++ [p]

def State.enqueue (s : State) (p : Fin 648) : State :=
  { s with retention := { s.retention with queue := queueWith s.retention.queue p } }

/-! ### Notices (R181, R182) -/

def estopSource (i : Fin 4) : Fin 24 := ⟨i.val, by omega⟩
def haltSource (i : Fin 4) : Fin 24 := ⟨4 + i.val, by omega⟩
def planDoneSource (i : Fin 4) : Fin 24 := ⟨8 + i.val, by omega⟩
def progressSource (i : Fin 4) : Fin 24 := ⟨12 + i.val, by omega⟩
def waterSource : Fin 24 := 16
def valveSource : Fin 24 := 17
def plantSource : Fin 24 := 18
def pressSource : Fin 24 := 19
def allowanceSource : Fin 24 := 20
def bladeLowSource : Fin 24 := 21
def retentionSource : Fin 24 := 22
def startUpSource : Fin 24 := 23

/-- A source's pending record after a raise (R182): the given detail, and a count of 1 or one more, at most
255. The enable plays no part. -/
def NoticeSource.raised (n : NoticeSource) (d : Detail) : NoticeSource :=
  { n with pending := some { detail := d, count := match n.pending with
                                                  | none => 1
                                                  | some p => satAdd 255 p.count 1 } }

def State.raise (s : State) (src : Fin 24) (d : Detail) : State :=
  { s with notices :=
      { s.notices with sources := put s.notices.sources src ((slot s.notices.sources src).raised d) } }

/-! ### Cents and millicents (R132 to R134, R142) -/

/-- The end of every figure in cents (R130, R131, R133). -/
def maxCents : Nat := 999999999

/-- The end of a plan pool (R142). -/
def maxPool : Nat := 999999999999

/-- A booking to the overhead material total (R133). -/
def Overhead.bookMaterial (o : Overhead) (cents : Nat) : Overhead :=
  { o with
    materialTotal := satAdd maxCents o.materialTotal cents
    saturated := o.saturated || decide (maxCents < o.materialTotal + cents) }

/-- A booking in millicents to the overhead process total through the carry (R134). -/
def Overhead.bookProcess (o : Overhead) (mc : Nat) : Overhead :=
  { o with
    processTotal := satAdd maxCents o.processTotal ((o.carry + mc) / 1000)
    carry := (o.carry + mc) % 1000
    saturated := o.saturated || decide (maxCents < o.processTotal + (o.carry + mc) / 1000) }

/-- A plan pool handed to overhead carries its pool-saturated mark into the account's flag (R147, R151). -/
def Overhead.markSaturated (o : Overhead) (mark : Bool) : Overhead :=
  { o with saturated := o.saturated || mark }

/-- A change of the overhead account; its page is enqueued when a total, the carry or the flag changed
(R134, 8.1.1). -/
def State.bookOverhead (s : State) (f : Overhead → Overhead) : State :=
  if f s.overhead = s.overhead then s
  else { s with overhead := f s.overhead }.enqueue overheadPage

/-- An addition to a plan's pool (R142): it saturates and sets the mark. -/
def Plan.addPool (p : Plan) (mc : Nat) : Plan :=
  { p with
    pool := satAdd maxPool p.pool mc
    poolSaturated := p.poolSaturated || decide (maxPool < p.pool + mc) }

/-! ### Stock records (chapter 1) -/

/-- The slot of the live record a tag names (R4). -/
def State.findTag (s : State) (tag : Nat) : Option (Fin 512) :=
  lowest s.stock.slabs fun r => r.any (fun x => x.tag == tag)

/-- The live record a tag names, with its slot. -/
def State.slabOf (s : State) (tag : Nat) : Option (Fin 512 × Slab) :=
  (s.findTag tag).bind fun n => (s.slab n).map fun r => (n, r)

/-- The number of live slab records (R6). -/
def State.liveSlabs (s : State) : Nat := countWhere s.stock.slabs (fun r => r.isSome)

def State.setRack (s : State) (pos : Fin 120) (tag : Option Nat) : State :=
  { s with stock := { s.stock with rackMap := put s.stock.rackMap pos tag } }

/-- A rack position released or filled in the Rack Map; nothing where there is no position (R9). -/
def State.rackAt (s : State) (pos : Option (Fin 120)) (tag : Option Nat) : State :=
  match pos with
  | none => s
  | some p => s.setRack p tag

def State.setReserved (s : State) (r : Nat) : State :=
  { s with stock := { s.stock with reserved := r } }

/-- A slab record is given new contents and its page enqueued (R22). -/
def State.rewriteSlab (s : State) (n : Fin 512) (r : Slab) : State :=
  (s.setSlab n (some r)).enqueue (slabPage n)

/-- The record ends: its position is released, its slot freed, its page enqueued (R17, R21). -/
def State.retireSlab (s : State) (n : Fin 512) (r : Slab) : State :=
  ((s.rackAt r.rack none).setSlab n none).enqueue (slabPage n)

/-! ### Job records (chapter 7) -/

/-- The slot of the live job record a number names (R130). -/
def State.findJob (s : State) (number : Nat) : Option (Fin 96) :=
  lowest s.jobs fun r => r.any (fun x => x.number == number)

/-- The live job record a number names, with its slot. -/
def State.jobOf (s : State) (number : Nat) : Option (Fin 96 × Job) :=
  (s.findJob number).bind fun n => (s.job n).map fun j => (n, j)

def Job.setLine (j : Job) (k : Fin 8) (x : Option JobLine) : Job := { j with lines := put j.lines k x }

/-- Applies `f` to line `k` of the live job `number`, enqueuing its page (R153); nothing where there is no
such line. -/
def State.updateJobLine (s : State) (number : Nat) (k : Fin 8) (f : JobLine → JobLine) : State :=
  match s.jobOf number with
  | none => s
  | some (n, j) =>
    match slot j.lines k with
    | none => s
    | some x => (s.setJob n (some (j.setLine k (some (f x))))).enqueue (jobPage n)

/-- A PART designation set on a line (R33). -/
def JobLine.designate (x : JobLine) : JobLine := { x with designated := x.designated + 1 }

/-- A PART designation released from a line (R33). -/
def JobLine.undesignate (x : JobLine) : JobLine := { x with designated := x.designated - 1 }

/-! ### Lines and their users (R62 to R64) -/

def State.stationLine (s : State) (i : Fin 4) : Fin 5 := slot s.lineMap i.castSucc

def State.plantLine (s : State) : Fin 5 := slot s.lineMap 4

/-- The user number a Line Map index stands for: 0 to 3 the stations, 4 the plant. -/
def User.ofIndex (u : Fin 5) : User := if h : u.val < 4 then .station ⟨u.val, h⟩ else .plant

/-- The user of a line; every line has one, since the map is one-to-one (R64). -/
def State.userOf (s : State) (l : Fin 5) : User :=
  match lowest s.lineMap (fun x => x == l) with
  | some u => User.ofIndex u
  | none => .plant

/-- The kind code of a message the part sends (R190). -/
def TxMessage.kindCode : TxMessage → Nat
  | .order _ => 1
  | .hold => 2
  | .feed _ => 3
  | .query => 4
  | .valves _ => 5
  | .press => 6

/-- An ORDER or a FEED: what a HOLD, or a plan's leaving the station, withdraws (R63, R96). -/
def TxMessage.withdrawable : TxMessage → Bool
  | .order _ | .feed _ => true
  | _ => false

def TxMessage.isOrder : TxMessage → Bool
  | .order _ => true
  | _ => false

/-- The queue once a frame is handed over: a HOLD takes the head, in place of one already there, and the
waiting ORDER and FEED are removed (R63); any other frame takes the place of the frame of its kind, else
the tail (R62). -/
def queueFrame (q : List TxFrame) (f : TxFrame) : List TxFrame :=
  match f.message with
  | .hold => f :: q.filter (fun g => !g.message.withdrawable && g.message.kindCode != 2)
  | m =>
    if q.any (fun g => g.message.kindCode == m.kindCode) then
      q.map (fun g => if g.message.kindCode = m.kindCode then f else g)
    else q ++ [f]

/-- The user hands a line a frame; a disabled line drops it (R62). -/
def State.handFrame (s : State) (l : Fin 5) (f : TxFrame) : State :=
  if (s.line l).enabled then s.setLine l { s.line l with queue := queueFrame (s.line l).queue f } else s

/-- A frame for a saw carries the station's current order toggle (R61): DESIGN CHOICE, the toggle the station has as
the frame is handed, which the frame keeps while it waits (assumption 29). -/
def State.handSaw (s : State) (i : Fin 4) (m : TxMessage) : State :=
  s.handFrame (s.stationLine i) { toggle := (s.station i).toggle, message := m }

/-- A frame for the plant carries toggle 0 (R61). -/
def State.handPlant (s : State) (m : TxMessage) : State :=
  s.handFrame s.plantLine { toggle := false, message := m }

/-- An ORDER waiting in the queue that a HOLD handed now would withdraw (R63). -/
def State.orderWaiting (s : State) (i : Fin 4) : Bool :=
  (s.line (s.stationLine i)).enabled
    && (s.line (s.stationLine i)).queue.any (fun g => g.message.isOrder)

/-- A HOLD goes to the head of the station's queue; an ORDER it withdraws unsent is no longer outstanding
(R63, R85). -/
def State.handHold (s : State) (i : Fin 4) : State :=
  let withdrawn := s.orderWaiting i
  let s1 := s.handSaw i .hold
  if withdrawn then s1.setStation i { s1.station i with orderOutstanding := false } else s1

/-- ORDER and FEED leave the station's queue unsent as its plan leaves (R96, R97). -/
def State.withdrawFrames (s : State) (i : Fin 4) : State :=
  let l := s.stationLine i
  s.setLine l { s.line l with queue := (s.line l).queue.filter (fun g => !g.message.withdrawable) }

/-- A line is enabled: divisor from the settings record, counts and counters 0, start search, SETTLING, gap
timer running, opening idle character (R50, R51, R55, R61). -/
def State.enableLine (s : State) (l : Fin 5) : State :=
  s.setLine l
    { enabled := true
      divisor := slot s.settings.rateDivisor l
      receiver := .startSearch
      onesSeen := 0
      breakRun := false
      inBreak := false
      assembler := .settling
      gap := .running
      badCount := 0
      queue := []
      transmitter := .openingIdle
      takenFrames := 0
      badFrames := 0
      noisyFrames := 0
      staleReports := 0 }

/-- A line is disabled: the frame on the wire is cut off, the queue emptied, the counters kept (R50). -/
def State.disableLine (s : State) (l : Fin 5) : State :=
  let x := s.line l
  s.setLine l
    { Line.afterReset with
      divisor := x.divisor
      takenFrames := x.takenFrames
      badFrames := x.badFrames
      noisyFrames := x.noisyFrames
      staleReports := x.staleReports }

end Sys2Proof.Machine
end

