-- ==== Sys2Proof/Machine/Operands.lean ====
section
/-! DEFINITION. Request fields as read (R175, R189): "absent" values and enumerations; and reply fields as
written (R189, 11.4, 11.5): widths, codings and the record blocks. -/

namespace Sys2Proof.Machine

/-! ### Reading request fields -/

/-- An optional field: absent when it carries its "absent" value (R189). -/
def optional (absent v : Nat) : Option Nat := if v = absent then none else some v

/-- A rack position field (R12, R15): `none` when out of range, `some none` for no position. -/
def rackField (v : Nat) : Option (Option (Fin 120)) :=
  match optional 255 v with
  | none => some none
  | some p => (index? 120 p).map some

/-- A slab-state filter (R13): AVAILABLE 0, HELD 1, CUTTING 2. -/
def slabStateOf : Nat → Option SlabState
  | 0 => some .available
  | 1 => some .held
  | 2 => some .cutting
  | _ => none

/-- An axis (R28): RIP 0, CROSS 1. -/
def axisOf : Nat → Option Axis
  | 0 => some .rip
  | 1 => some .cross
  | _ => none

/-- A saw mode (R190). -/
def sawModeOf : Nat → Option SawMode
  | 0 => some .idle
  | 1 => some .cutting
  | 2 => some .held
  | 3 => some .fault
  | _ => none

/-- A job line number 1 to 8 as an index. -/
def jobLineOf (v : Nat) : Option (Fin 8) := if 1 ≤ v then index? 8 (v - 1) else none

/-! ### Codes of enumerated values (R189): positions in the lists that define them -/

def flagCode (b : Bool) : Nat := if b then 1 else 0

def SlabKind.code : SlabKind → Nat
  | .full => 0
  | .remnant => 1

def SlabState.code : SlabState → Nat
  | .available => 0
  | .held => 1
  | .cutting => 2

def Axis.code : Axis → Nat
  | .rip => 0
  | .cross => 1

def PlanState.code : PlanState → Nat
  | .opened => 0
  | .locked => 1
  | .bound => 2

def StationState.code : StationState → Nat
  | .detached => 0
  | .listening => 1
  | .ready => 2
  | .staged => 3
  | .cutting => 4
  | .holding => 5
  | .paused => 6
  | .faulted => 7

def Condition.code : Condition → Nat
  | .none => 0
  | .hostStop => 1
  | .waterHold => 2
  | .dryCut => 3
  | .bladeWorn => 4
  | .noAccept => 5
  | .noHold => 6
  | .silent => 7
  | .estop => 8
  | .sawFault => 9
  | .lineNoise => 10

def SawMode.code : SawMode → Nat
  | .idle => 0
  | .cutting => 1
  | .held => 2
  | .fault => 3

def PlantLink.code : PlantLink → Nat
  | .detached => 0
  | .listening => 1
  | .live => 2
  | .stale => 3

def Press.code : Press → Nat
  | .idle => 0
  | .requested => 1
  | .running => 2
  | .suspended => 3

def SettleTimer.code : SettleTimer → Nat
  | .stopped => 0
  | .running _ => 1
  | .expired => 2

def ResetCause.code : ResetCause → Nat
  | .power => 0
  | .pin => 1

def ReplyCode.code : ReplyCode → Nat
  | .ok => 0
  | .badCheck => 1
  | .badLength => 2
  | .unknownRequest => 3
  | .badValue => 4
  | .noSuch => 5
  | .duplicate => 6
  | .wrongState => 7
  | .full => 8
  | .noRoom => 9
  | .occupied => 10
  | .inUse => 11
  | .sliver => 12
  | .notLeaf => 13
  | .designated => 14
  | .undesignated => 15
  | .tooSmall => 16
  | .lineFull => 17
  | .jobClosed => 18
  | .jobBusy => 19
  | .noBlade => 20
  | .bladeWorn => 21
  | .kerf => 22
  | .depth => 23
  | .waterHold => 24
  | .nothingOpen => 25
  | .nothing => 26
  | .ended => 27

def Crossing.code : Crossing → Nat
  | .fellToZero => 0
  | .reachedResume => 1

def PlantEvent.code : PlantEvent → Nat
  | .stale => 0
  | .live => 1
  | .lineBreak => 2
  | .lineNoise => 3

def StaleCause.code : StaleCause → Nat
  | .silence => 0
  | .lineBreak => 1

def PressEvent.code : PressEvent → Nat
  | .startTimeout => 0
  | .idle => 1
  | .done => 2
  | .failed => 3

def RecordKind.code : RecordKind → Nat
  | .slab => 0
  | .job => 1
  | .overhead => 2
  | .material => 3
  | .blade => 4
  | .water => 5
  | .settings => 6
  | .counters => 7

def User.code : User → Nat
  | .station i => i.val
  | .plant => 4

/-- The status byte of 11.1. -/
def PortStatus.byte : PortStatus → Byte
  | .starting => 192
  | .idle => 193
  | .working => 194
  | .reply => 195

/-! ### Writing reply fields -/

/-- An optional reply field of `n` bytes with its "absent" value. -/
def optField (n absent : Nat) (v : Option Nat) : Nat × Nat := (n, v.getD absent)

/-- A valve value in a reply or a detail: 1 for OPEN (R189). -/
def valveField (v : Bool) : Nat × Nat := (1, flagCode v)

/-- The slab block (11.4). -/
def Slab.block (r : Slab) (n : Fin 512) : List Byte :=
  leFields [(3, r.tag), (1, r.kind.code), (1, r.material.val), (2, r.length), (2, r.width),
    (2, r.thickness), (3, r.cost), optField 3 0 r.parent, optField 1 255 (r.rack.map (·.val)),
    (1, r.state.code), optField 1 255 (r.holder.map (·.val)), (1, flagCode r.interrupted), (2, n.val)]

/-- The eight fields of a material entry in the order of R1. -/
def Material.block (m : Material) : List Byte :=
  leFields [(2, m.density), (1, m.hardness), (1, flagCode m.veined), (2, m.minRemLength),
    (2, m.minRemWidth), (2, m.valueFactor), (2, m.baseFeed), (2, m.minFeed)]

/-- The yield figures; without them the four areas are 0 and the yield is absent (11.4). -/
def yieldFields (y : Option Yield) : List (Nat × Nat) :=
  match y with
  | none => [(4, 0), (4, 0), (4, 0), (4, 0), (2, 65535)]
  | some y => [(4, y.parts), (4, y.remnant), (4, y.scrap), (4, y.kerf), (2, y.perMille)]

/-- The plan header (11.4). -/
def Plan.header (p : Plan) : List Byte :=
  leFields ([(1, p.state.code), (3, p.slabTag), (1, p.kerf), optField 1 255 (p.station.map (·.val)),
    (1, p.cuts.length), (1, p.cutsDone), optField 1 0 p.passCount, optField 2 0 p.passDepth,
    (1, p.passesReported), optField 3 16777215 p.remainingTravel, (1, flagCode p.touched),
    (1, p.reservedRemnants), (5, p.pool), optField 1 255 (p.snapshot.map (fun x => x.code.val))]
    ++ yieldFields p.yields)

/-- The job and line bytes of a LEAF not marked PART and of a SPLIT piece. DESIGN CHOICE (assumption 17): the
line number carries its "absent" value 255 (R189); the job number, which has no "absent" value there, is 0. -/
def noPartFields : List (Nat × Nat) := [(2, 0), (1, 255)]

/-- The designation, job and line bytes of a piece block: none 0, PART 1, REMNANT 2, SCRAP 3 (R189). -/
def designationFields : Option Designation → List (Nat × Nat)
  | none => (1, 0) :: noPartFields
  | some (.part job line) => [(1, 1), (2, job), (1, line.val + 1)]
  | some .remnant => (1, 2) :: noPartFields
  | some .scrap => (1, 3) :: noPartFields

def rectFields (r : Rect) (o : Option Origin) : List (Nat × Nat) :=
  [(2, r.x), (2, r.y), (2, r.length), (2, r.width), optField 1 255 (o.map (·.parent)),
    optField 1 255 (o.map (·.cut))]

/-- The piece block (11.4); an UNUSED piece carries zeros behind its state. -/
def Piece.block (p : Piece) (n : Nat) : List Byte :=
  match p with
  | .unused => leFields [(1, n), (1, 0), (2, 0), (2, 0), (2, 0), (2, 0), (1, 0), (1, 0), (1, 0), (2, 0), (1, 0)]
  | .leaf r o d => leFields ([(1, n), (1, 1)] ++ rectFields r o ++ designationFields d)
  | .split r o => leFields ([(1, n), (1, 2)] ++ rectFields r o ++ designationFields none)

/-- A line block of a job (11.4): an absent line carries its number and zeros. -/
def jobLineBlock (k : Fin 8) (x : Option JobLine) : List Byte :=
  match x with
  | none => leFields [(1, k.val + 1), (1, 0), (1, 0), (1, 0), (1, 0), (4, 0), (4, 0)]
  | some x => leFields [(1, k.val + 1), (1, 1), (1, x.target), (1, x.delivered), (1, x.designated),
      (4, x.materialCents), (4, x.processCents)]

/-- The job block and its eight line blocks (11.4): OPEN 0, CLOSED 1. -/
def Job.block (j : Job) (n : Fin 96) : List Byte :=
  leFields [(2, j.number), (1, n.val), (1, flagCode j.closed), (4, j.materialTotal), (4, j.processTotal),
    (1, flagCode j.saturated)]
    ++ (List.finRange 8).flatMap (fun k => jobLineBlock k (slot j.lines k))

/-- The overhead block (11.4). -/
def Overhead.block (o : Overhead) : List Byte :=
  leFields [(4, o.materialTotal), (4, o.processTotal), (2, o.carry), (1, flagCode o.saturated)]

/-- The threshold record as SET_WATER carries it (11.2). -/
def Thresholds.fields (t : Thresholds) : List (Nat × Nat) :=
  [(2, t.hold), (2, t.low), (2, t.fill), (2, t.full), (3, t.press), (3, t.slow), (3, t.stop),
    (2, t.resume), (1, flagCode t.autoPress)]

/-- Every field of a blade record, in the order of R98. -/
def Blade.block (b : Blade) : List Byte :=
  leFields [(3, b.serial), (1, b.kerf), (2, b.maxPassDepth), (2, b.maxDepth), (3, b.fittedLife),
    (3, b.wearRemaining), (3, b.wearCarry), (2, b.costPerUnit), (2, b.lowMark), (1, flagCode b.lowRaised)]

/-- The fields of a notice's detail (R183, 11.5). -/
def Detail.fields : Detail → List (Nat × Nat)
  | .estop state plan cut =>
    [(1, state.code), optField 1 255 (plan.map (·.val)), optField 1 255 cut]
  | .halt condition state faultCode plan cut faultCut =>
    [(1, condition.code), (1, state.code), optField 1 0 faultCode, optField 1 255 (plan.map (·.val)),
      optField 1 255 cut, optField 1 255 faultCut]
  | .planDone plan slabTag => [(1, plan.val), (3, slabTag)]
  | .progress plan cut passIndex remainingTravel =>
    [(1, plan.val), (1, cut), (1, passIndex), (3, remainingTravel)]
  | .water crossing factor fClear fSettle fSolids =>
    [(1, crossing.code), (2, factor), (2, fClear), (2, fSettle), (2, fSolids)]
  | .valve v commanded reported => [(1, v.val), valveField commanded, valveField reported]
  | .plant event cause link => [(1, event.code), optField 1 255 (cause.map (·.code)), (1, link.code)]
  | .press event cake solids st => [(1, event.code), optField 3 0 cake, (3, solids), (1, st.code)]
  | .allowance periodUsed limit => [(4, periodUsed), (4, limit)]
  | .bladeLow station serial wearRemaining => [(1, station.val), (3, serial), (3, wearRemaining)]
  | .retention page kind eraseOnly => [(2, page.val), (1, kind.code), (1, flagCode eraseOnly)]
  | .startUp cause torn interrupted duplicates =>
    [(1, cause.code), (2, torn), (2, interrupted), (2, duplicates)]

/-- A detail in its 12 bytes; those its kind does not use are 0 (R183). -/
def Detail.bytes (d : Detail) : List Byte :=
  let bs := leFields d.fields
  bs ++ List.replicate (12 - bs.length) 0

/-- The kind number of a source's notice (11.4, NEXT_NOTICE): ESTOP 0 to START_UP 11. -/
def noticeKind (src : Fin 24) : Nat := if src.val < 16 then src.val / 4 else src.val - 12

/-- The bytes of a reply frame (R172, R189). -/
def Reply.frame (r : Reply) : List Byte :=
  withCheck (BitVec.ofNat 8 r.code.code :: r.echo :: leBytes 2 r.fields.length ++ r.fields)

/-- The payload of a frame to be sent (11.6.1). -/
def TxMessage.payload : TxMessage → List Byte
  | .order o => leFields [(1, o.plan.val), (1, o.cut), (1, o.axis.code), (2, o.startX), (2, o.startY),
      (2, o.travel), (2, o.totalDepth), (1, o.passCount), (1, o.firstPass), (2, o.passDepth),
      (2, o.feedLimit)]
  | .feed limit => leFields [(2, limit)]
  | .valves v => [BitVec.ofNat 8 ((List.finRange 5).foldr (fun i acc => flagCode (slot v i) + 2 * acc) 0)]
  | .hold | .query | .press => []

/-- The bytes the transmitter clocks out for a frame: direction bit 1 (R61, R190). -/
def TxFrame.bytes (f : TxFrame) : List Byte :=
  lineFrame f.message.kindCode f.toggle true f.message.payload

/-- The ten levels of a character on a line, bit time by bit time: the start bit at 0, the data bits LSB first,
the stop bit at 1 (R51). -/
def characterLevels (b : Byte) : List Bool :=
  false :: ((List.range 8).map fun i => b.getLsbD i) ++ [true]

/-- What the transmitter sends in its present state, bit time by bit time: the opening idle character, a frame's
characters back to back, or the separating idle of two character times (R61). -/
def Transmitter.levels : Transmitter → List Bool
  | .off => []
  | .openingIdle => List.replicate 10 true
  | .sending f => f.bytes.flatMap characterLevels
  | .separatingIdle => List.replicate 20 true

end Sys2Proof.Machine
end

