-- ==== Sys2Proof/Machine/Flags.lean ====
section
/-! DEFINITION. Output pins and flags that follow from the state: REPLY (R167), NOTICE_N (R184), the
transmit enables and transmit pins (R50, R61), and the flags a block derives (R108, R105). -/

namespace Sys2Proof.Machine

/-- The REPLY pin is asserted exactly while the status is REPLY (R167). -/
def State.replyPin (s : State) : Bool := decide (s.port.status = .reply)

/-- The current floor: the top of the floor stack, or 0 (R184). -/
def State.floor (s : State) : Nat := s.notices.floors.head?.getD 0

/-- A source that is pending, enabled and at a level at or above the floor (R184, R186). -/
def NoticeSource.qualifies (n : NoticeSource) (floor : Nat) : Bool :=
  n.pending.isSome && n.enabled && decide (floor ≤ n.level)

/-- NOTICE_N driven low (R184); released without supply and while RESET_N is low. -/
def State.noticeAsserted (s : State) : Bool :=
  decide (s.supply = .running) && s.notices.sources.any (fun n => n.qualifies s.floor)

/-- LDEn: asserted while the line is enabled (R50, R61). -/
def State.transmitEnable (s : State) (l : Fin 5) : Bool := (s.line l).enabled

/-- LTXn in bit time `bit` since the transmitter entered its present state: the level it sends then, and 1 where
it sends nothing (R61). The spec gives a disabled line's pin no level. -/
def State.transmitPin (s : State) (l : Fin 5) (bit : Nat) : Option Bool :=
  if (s.line l).enabled then some (((s.line l).transmitter.levels[bit]?).getD true) else none

/-- The port takes transfers and drives SDO: with supply, RESET_N high (R174). -/
def State.portAlive (s : State) : Bool := decide (s.supply = .running)

/-- The allowance is set and reached (R108, R122). -/
def WaterRetained.atAllowance (k : WaterRetained) : Bool :=
  match k.allowance with
  | none => false
  | some a => decide (a ≤ k.periodUsed)

/-- The low threshold of a blade (R105). -/
def Blade.lowThreshold (b : Blade) : Nat := b.lowMark * b.fittedLife / 1000

/-- The station's supply valve is commanded OPEN in CUTTING and HOLDING (R69, R123). -/
def StationState.wet : StationState → Bool
  | .cutting | .holding => true
  | _ => false

end Sys2Proof.Machine
end

