-- ==== Sys2Proof/Machine/Serve.lean ====
section
/-! DEFINITION. How a request is taken (R170 to R172, R175): the owning block answers, and the port builds the
reply. A handler that does not answer OK returns no state, so a refused request leaves every record as it
was by its very type. -/

namespace Sys2Proof.Machine

/-- An answer other than OK: its code and the fields its rule gives it (R172). -/
structure Answer where
  code : ReplyCode
  fields : List Byte
  deriving DecidableEq, Repr

/-- What the owning block does with a request: the records as changed with the reply's fields, or an answer
that changes nothing (R171, R180). -/
abbrev Handler := State → Except Answer (State × List Byte)

/-- A refusal without fields. -/
def refuse {α : Type} (code : ReplyCode) : Except Answer α := .error { code := code, fields := [] }

/-- OK with the state as changed and the reply's fields. -/
def done (s : State) (fields : List Byte) : Except Answer (State × List Byte) := .ok (s, fields)

/-- The reply frame is built in the reply buffer, the request buffer is empty again and the status becomes
REPLY, from WORKING (R167, R172). -/
def State.answer (s : State) (echo : Byte) (code : ReplyCode) (fields : List Byte) : State :=
  { s with port :=
      { s.port with
        status := .reply
        before := some .working
        request := none
        reply := some { code := code, echo := echo, fields := fields } } }

/-- The request is in service: the port is WORKING on this very frame, or IDLE and takes it whole
(assumption 3). In every other status its SEND is ignored (R168). -/
def Port.takes (p : Port) (q : Request) : Bool :=
  match p.status with
  | .idle => true
  | .working => decide (p.request = some q)
  | .starting | .reply => false

/-- The state after the block's answer to a request in service (R171, R172). -/
def State.served (s : State) (echo : Byte) (h : Handler) : State :=
  match h s with
  | .ok (t, fields) => t.answer echo .ok fields
  | .error a => s.answer echo a.code a.fields

/-- A request is taken by its owning block as one event and its reply built (R171, R172); where it is not in
service it changes nothing. -/
def serve (i : Instr) (h : Handler) (s : State) : Host.Outcome State Fault Refusal :=
  match i.request? with
  | none => .next s
  | some q => if s.port.takes q then .next (s.served q.echo h) else .next s

end Sys2Proof.Machine
end

