-- ==== Sys2Proof/Machine/Costing.lean ====
section
/-! DEFINITION. Chapter 7: job records, the overhead account and the arithmetic of the plan close. -/

namespace Sys2Proof.Machine

/-! ### Job requests (R136 to R141) -/

/-- The job checks of R136. -/
def State.jobCheck (s : State) (number : Nat) : Except Answer (Fin 96 × Job) :=
  if number = 0 ∨ 65535 < number then refuse .badValue
  else match s.jobOf number with
    | none => refuse .noSuch
    | some x => .ok x

/-- A new job record (R137). -/
def Job.new (number : Nat) : Job where
  number := number
  closed := false
  lines := Vector.replicate 8 none
  materialTotal := 0
  processTotal := 0
  saturated := false

/-- OPEN_JOB (R137). -/
def openJob (number : Nat) : Handler := fun s =>
  if number = 0 ∨ 65535 < number then refuse .badValue
  else if (s.findJob number).isSome then refuse .duplicate
  else match lowest s.jobs (fun r => r.isNone) with
    | none => refuse .full
    | some n => done ((s.setJob n (some (Job.new number))).enqueue (jobPage n)) (leBytes 1 n.val)

/-- Delivered plus designated of a line, 0 for an absent one (R138). -/
def lineUse (x : Option JobLine) : Nat := (x.map fun y => y.delivered + y.designated).getD 0

/-- The line as SET_LINE leaves it (R138). -/
def retarget (x : Option JobLine) (target : Nat) : Option JobLine :=
  if target = 0 then none
  else some (match x with
    | none => { target := target, delivered := 0, designated := 0, materialCents := 0, processCents := 0 }
    | some y => { y with target := target })

/-- SET_LINE (R138). -/
def setLine (number line target : Nat) : Handler := fun s =>
  match s.jobCheck number with
  | .error a => .error a
  | .ok (n, j) =>
    match jobLineOf line with
    | none => refuse .badValue
    | some k =>
      if 15 < target then refuse .badValue
      else if j.closed then refuse .jobClosed
      else if target < lineUse (slot j.lines k) then refuse .lineFull
      else
        let x := retarget (slot j.lines k) target
        done (if x = slot j.lines k then s else (s.setJob n (some (j.setLine k x))).enqueue (jobPage n))
          (jobLineBlock k x)

/-- READ_JOB (R139). -/
def readJob (number : Nat) : Handler := fun s =>
  match s.jobCheck number with
  | .error a => .error a
  | .ok (n, j) => done s (j.block n)

/-- The lowest line with a designated count above 0 (R140). -/
def Job.busyLine (j : Job) : Option (Fin 8) := lowest j.lines fun x => x.any (fun y => decide (0 < y.designated))

/-- CLOSE_JOB (R140). -/
def closeJob (number : Nat) : Handler := fun s =>
  match s.jobCheck number with
  | .error a => .error a
  | .ok (n, j) =>
    if j.closed then refuse .wrongState
    else match j.busyLine with
      | some k => .error { code := .jobBusy, fields := leBytes 1 (k.val + 1) }
      | none => done ((s.setJob n (some { j with closed := true })).enqueue (jobPage n)) []

/-- RETIRE_JOB (R141). -/
def retireJob (number : Nat) : Handler := fun s =>
  match s.jobCheck number with
  | .error a => .error a
  | .ok (n, j) =>
    if j.closed then done ((s.setJob n none).enqueue (jobPage n)) (j.block n) else refuse .wrongState

/-- READ_OVERHEAD (R135). -/
def readOverhead : Handler := fun s => done s s.overhead.block

/-- CLEAR_OVERHEAD: both totals 0 and the flag clear, the carry kept (R135). -/
def clearOverhead : Handler := fun s =>
  done (s.bookOverhead fun o => { o with materialTotal := 0, processTotal := 0, saturated := false })
    s.overhead.block

/-! ### The plan-close allocation (R145 to R149) -/

/-- The cost basis of a REMNANT leaf: floor(B × a × q / (A × 256)) (R146). -/
def remnantBasis (basis area q slabArea : Nat) : Nat := basis * area * q / (slabArea * 256)

/-- The pool rounded half up to cents (R148). -/
def poolCents (pool : Nat) : Nat := (pool + 500) / 1000

/-- How many parts stand before part `i` in the order of R148: a larger remainder, or an equal one and a
lower piece number. -/
def shareRank (rems : List Nat) (i : Nat) : Nat :=
  rems.zipIdx.countP fun x => decide (rems.getD i 0 < x.1) || (x.1 == rems.getD i 0 && decide (x.2 < i))

/-- A pool split among parts by area: floors, and one cent more for the parts with the largest remainders, as
many as the floors fall short (R148). -/
def shares (x : Nat) (areas : List Nat) : List Nat :=
  let total := areas.sum
  let rems := areas.map fun a => x * a % total
  let shortfall := x - (areas.map fun a => x * a / total).sum
  areas.zipIdx.map fun y => x * y.1 / total + if shareRank rems y.2 < shortfall then 1 else 0

/-- One part's shares booked to its line and job (R132, R149): each figure saturates on its own, any clamp or
the pool-saturated mark sets the job's flag, one designation becomes a delivery. -/
def Job.bookPart (j : Job) (k : Fin 8) (x : JobLine) (material process : Nat) (mark : Bool) : Job :=
  { (j.setLine k (some
      { x with
        delivered := x.delivered + 1
        designated := x.designated - 1
        materialCents := satAdd maxCents x.materialCents material
        processCents := satAdd maxCents x.processCents process })) with
    materialTotal := satAdd maxCents j.materialTotal material
    processTotal := satAdd maxCents j.processTotal process
    saturated := j.saturated || mark
      || decide (maxCents < x.materialCents + material) || decide (maxCents < x.processCents + process)
      || decide (maxCents < j.materialTotal + material) || decide (maxCents < j.processTotal + process) }

/-- The booking at the Cost Table for one PART leaf, its job's page enqueued (R149). -/
def State.bookPart (s : State) (number : Nat) (k : Fin 8) (material process : Nat) (mark : Bool) : State :=
  match s.jobOf number with
  | none => s
  | some (n, j) =>
    match slot j.lines k with
    | none => s
    | some x => (s.setJob n (some (j.bookPart k x material process mark))).enqueue (jobPage n)

/-! ### Commands -/

def execOpenJob (echo : Byte) (job : Nat) (s : State) : Host.Outcome State Fault Refusal :=
  serve (.openJob echo job) (openJob job) s

def execSetLine (echo : Byte) (job line target : Nat) (s : State) : Host.Outcome State Fault Refusal :=
  serve (.setLine echo job line target) (setLine job line target) s

def execReadJob (echo : Byte) (job : Nat) (s : State) : Host.Outcome State Fault Refusal :=
  serve (.readJob echo job) (readJob job) s

def execCloseJob (echo : Byte) (job : Nat) (s : State) : Host.Outcome State Fault Refusal :=
  serve (.closeJob echo job) (closeJob job) s

def execRetireJob (echo : Byte) (job : Nat) (s : State) : Host.Outcome State Fault Refusal :=
  serve (.retireJob echo job) (retireJob job) s

def execReadOverhead (echo : Byte) (s : State) : Host.Outcome State Fault Refusal :=
  serve (.readOverhead echo) readOverhead s

def execClearOverhead (echo : Byte) (s : State) : Host.Outcome State Fault Refusal :=
  serve (.clearOverhead echo) clearOverhead s

end Sys2Proof.Machine
end

