-- ==== Sys2Proof/Machine/Stock.lean ====
section
/-! DEFINITION. Chapter 1: the stock requests, the Material Table, and the changes plans make to slabs. -/

namespace Sys2Proof.Machine

/-! ### Ranges (R1, R4) -/

abbrev lengthOk (v : Nat) : Prop := 1000 ≤ v ∧ v ≤ 40000
abbrev widthOk (v : Nat) : Prop := 1000 ≤ v ∧ v ≤ 24000
abbrev thicknessOk (v : Nat) : Prop := 100 ≤ v ∧ v ≤ 600
abbrev costOk (v : Nat) : Prop := v ≤ 9999999

/-- The tag checks of R10. -/
def State.tagCheck (s : State) (tag : Nat) : Except Answer (Fin 512 × Slab) :=
  if tag = 0 ∨ 16777215 < tag then refuse .badValue
  else match s.slabOf tag with
    | none => refuse .noSuch
    | some x => .ok x

/-- A DEFINED entry named by a material code field, with its code. -/
def State.definedMaterial (s : State) (code : Nat) : Option (Fin 32 × Material) :=
  (index? 32 code).bind fun c => (s.material c).map fun m => (c, m)

/-! ### Requests -/

/-- ADMIT_SLAB (R12). -/
def admitSlab (tag material length width thickness cost rack : Nat) : Handler := fun s =>
  if ¬(1 ≤ tag ∧ tag ≤ 8388607) then refuse .badValue
  else match s.definedMaterial material, rackField rack with
  | none, _ => refuse .badValue
  | _, none => refuse .badValue
  | some (c, _), some pos =>
    if ¬(lengthOk length ∧ widthOk width ∧ thicknessOk thickness ∧ costOk cost) then refuse .badValue
    else if (s.findTag tag).isSome then refuse .duplicate
    else if 512 ≤ s.liveSlabs + s.stock.reserved then refuse .full
    else match lowest s.stock.slabs (fun r => r.isNone) with
      | none => refuse .full
      | some n =>
        if (pos.bind (slot s.stock.rackMap)).isSome then refuse .occupied
        else
          let r : Slab :=
            { tag := tag, kind := .full, material := c, length := length, width := width,
              thickness := thickness, cost := cost, parent := none, rack := pos,
              state := .available, holder := none, interrupted := false }
          done ((s.rackAt pos (some tag)).rewriteSlab n r) (leBytes 2 n.val)

/-- READ_SLAB (R11). -/
def readSlab (tag : Nat) : Handler := fun s =>
  match s.tagCheck tag with
  | .error a => .error a
  | .ok (n, r) => done s (r.block n)

/-- LIST_STOCK (R13). -/
def listStock (cursor material slabState : Nat) : Handler := fun s =>
  if 512 < cursor ∨ (material ≠ 255 ∧ 31 < material) ∨ (slabState ≠ 255 ∧ 2 < slabState) then
    refuse .badValue
  else
    let wanted (r : Slab) : Bool :=
      (decide (material = 255) || decide (r.material.val = material))
        && (decide (slabState = 255) || decide (r.state.code = slabState))
    match (List.finRange 512).find? (fun n => decide (cursor ≤ n.val) && (s.slab n).any wanted) with
    | none => refuse .ended
    | some n =>
      match s.slab n with
      | none => refuse .ended
      | some r => done s (r.block n ++ leBytes 2 (n.val + 1))

/-- How a candidate fits (R14). -/
inductive Fit where
  | direct | rotated
  deriving DecidableEq, Repr

def Fit.code : Fit → Nat
  | .direct => 0
  | .rotated => 1

/-- The fit of a rectangle, `none` when it does not fit (R14). -/
def fitOf (veined : Bool) (length width minLength minWidth : Nat) : Option Fit :=
  if minLength ≤ length ∧ minWidth ≤ width then some .direct
  else if veined = false ∧ minLength ≤ width ∧ minWidth ≤ length then some .rotated
  else none

/-- The stricter choice between two fitting records: smaller area, then REMNANT before FULL, then lower cost
basis (R14). The lower slot wins what remains tied, because slots are met in order. -/
def Slab.betterThan (a b : Slab) : Bool :=
  let area (r : Slab) := r.length * r.width
  let rank (r : Slab) := if r.kind = .remnant then 0 else 1
  decide (area a < area b)
    || (decide (area a = area b)
        && (decide (rank a < rank b) || (decide (rank a = rank b) && decide (a.cost < b.cost))))

/-- A record the search may return, with its fit (R14). -/
def Slab.candidate (r : Slab) (code : Fin 32) (veined : Bool) (thickness minLength minWidth : Nat) :
    Option Fit :=
  if r.state = .available ∧ r.interrupted = false ∧ r.material = code ∧ r.thickness = thickness then
    fitOf veined r.length r.width minLength minWidth
  else none

/-- The search goes on with the better of the choice so far and the record met (R14). -/
def betterChoice (best : Option (Fin 512 × Slab × Fit)) (n : Fin 512) (r : Slab) (f : Fit) :
    Option (Fin 512 × Slab × Fit) :=
  match best with
  | none => some (n, r, f)
  | some (m, b, g) => if r.betterThan b then some (n, r, f) else some (m, b, g)

/-- The best-fit search over the slots in order (R14). -/
def State.bestFit (s : State) (code : Fin 32) (veined : Bool) (thickness minLength minWidth : Nat) :
    Option (Fin 512 × Slab × Fit) :=
  (List.finRange 512).foldl (fun best n =>
    match s.slab n with
    | none => best
    | some r =>
      match r.candidate code veined thickness minLength minWidth with
      | none => best
      | some f => betterChoice best n r f) none

/-- FIND_SLAB (R14). -/
def findSlab (material thickness minLength minWidth : Nat) : Handler := fun s =>
  match s.definedMaterial material with
  | none => refuse .badValue
  | some (c, m) =>
    if ¬(thicknessOk thickness ∧ (1 ≤ minLength ∧ minLength ≤ 40000)
        ∧ (1 ≤ minWidth ∧ minWidth ≤ 40000)) then refuse .badValue
    else match s.bestFit c m.veined thickness minLength minWidth with
      | none => refuse .nothing
      | some (n, r, f) => done s (r.block n ++ leBytes 1 f.code)

/-- MOVE_SLAB (R15). -/
def moveSlab (tag rack : Nat) : Handler := fun s =>
  match s.tagCheck tag with
  | .error a => .error a
  | .ok (n, r) =>
    match rackField rack with
    | none => refuse .badValue
    | some pos =>
      if r.state = .cutting then refuse .wrongState
      else if (pos.bind (slot s.stock.rackMap)).any (fun t => t != tag) then refuse .occupied
      else if pos = r.rack then done s []
      else done (((s.rackAt r.rack none).rackAt pos (some tag)).rewriteSlab n { r with rack := pos }) []

/-- AMEND_SLAB (R16). -/
def amendSlab (tag length width cost : Nat) : Handler := fun s =>
  match s.tagCheck tag with
  | .error a => .error a
  | .ok (n, r) =>
    if ¬(lengthOk length ∧ widthOk width ∧ costOk cost) then refuse .badValue
    else if r.state ≠ .available then refuse .wrongState
    else
      let r' := { r with length := length, width := width, cost := cost, interrupted := false }
      done (if r' = r then s else s.rewriteSlab n r') (r'.block n)

/-- RETIRE_SLAB (R17): reason SOLD 0 or DAMAGED 1. -/
def retireSlab (tag reason : Nat) : Handler := fun s =>
  match s.tagCheck tag with
  | .error a => .error a
  | .ok (n, r) =>
    if 1 < reason then refuse .badValue
    else if r.state ≠ .available then refuse .wrongState
    else
      let s1 := if reason = 1 then s.bookOverhead (fun o => o.bookMaterial r.cost) else s
      done (s1.retireSlab n r) (leFields [(3, r.tag), (3, r.cost), (1, reason)])

/-- The entry SET_MATERIAL stores (R2): settings clamped, the base feed before the minimum feed; an absent
optional field keeps its present value, or takes its default on an UNDEFINED entry. -/
def materialSet (old : Option Material)
    (veined density baseFeed minFeed hardness minRemLength minRemWidth valueFactor : Nat) : Material :=
  let base := clamp 100 4000 baseFeed
  { density := clamp 200 400 density
    hardness := match optional 0 hardness with
      | some v => clamp 1 32 v
      | none => (old.map (·.hardness)).getD 16
    veined := decide (veined ≠ 0)
    minRemLength := match optional 0 minRemLength with
      | some v => clamp 1000 40000 v
      | none => (old.map (·.minRemLength)).getD 3000
    minRemWidth := match optional 0 minRemWidth with
      | some v => clamp 1000 24000 v
      | none => (old.map (·.minRemWidth)).getD 3000
    valueFactor := match optional 65535 valueFactor with
      | some v => clamp 0 256 v
      | none => (old.map (·.valueFactor)).getD 192
    baseFeed := base
    minFeed := clamp 50 base minFeed }

/-- SET_MATERIAL (R2). -/
def setMaterial (code veined density baseFeed minFeed hardness minRemLength minRemWidth valueFactor : Nat) :
    Handler := fun s =>
  match index? 32 code with
  | none => refuse .badValue
  | some c =>
    let m := materialSet (s.material c) veined density baseFeed minFeed hardness minRemLength minRemWidth
      valueFactor
    done (if s.material c = some m then s else (s.setMaterial c (some m)).enqueue (materialPage c)) m.block

/-- Some live record names the code (R3). -/
def State.materialInUse (s : State) (c : Fin 32) : Bool :=
  s.stock.slabs.any fun r => r.any (fun x => x.material == c)

/-- CLEAR_MATERIAL (R3). -/
def clearMaterial (code : Nat) : Handler := fun s =>
  match index? 32 code with
  | none => refuse .badValue
  | some c =>
    if (s.material c).isNone then refuse .noSuch
    else if s.materialInUse c then refuse .inUse
    else done ((s.setMaterial c none).enqueue (materialPage c)) []

/-- READ_MATERIAL (R3). -/
def readMaterial (code : Nat) : Handler := fun s =>
  match index? 32 code with
  | none => refuse .badValue
  | some c =>
    match s.material c with
    | none => refuse .noSuch
    | some m => done s m.block

/-! ### Changes plans make (R18 to R21) -/

/-- The checks of the hold (R18). -/
def State.holdCheck (s : State) (tag : Nat) : Except Answer (Fin 512 × Slab) :=
  match s.tagCheck tag with
  | .error a => .error a
  | .ok (n, r) =>
    if r.state ≠ .available then refuse .wrongState
    else if r.interrupted then refuse .wrongState
    else if (s.material r.material).isNone then refuse .badValue
    else .ok (n, r)

/-- The hold: the slab is HELD by plan slot `k`, its rack position kept (R18). -/
def State.holdSlab (s : State) (n : Fin 512) (r : Slab) (k : Fin 12) : State :=
  s.rewriteSlab n { r with state := .held, holder := some k }

/-- The first order sent for a plan makes its HELD slab CUTTING and releases its position; a later order
changes nothing (R19). -/
def State.firstOrder (s : State) (tag : Nat) : State :=
  match s.slabOf tag with
  | none => s
  | some (n, r) =>
    if r.state = .held then
      (s.rackAt r.rack none).rewriteSlab n { r with state := .cutting, rack := none }
    else s

/-- A release: AVAILABLE, the holding plan absent, the position as it is (R20). -/
def State.releaseSlab (s : State) (tag : Nat) : State :=
  match s.slabOf tag with
  | none => s
  | some (n, r) => s.rewriteSlab n { r with state := .available, holder := none }

/-- A plan retires its slab (R21). -/
def State.retireTag (s : State) (tag : Nat) : State :=
  match s.slabOf tag with
  | none => s
  | some (n, r) => s.retireSlab n r

/-- The remnant tag counter's advance, from 16,777,215 to 8,388,608 (R8). -/
def nextTag (c : Nat) : Nat := if c = 16777215 then 8388608 else c + 1

/-- The first tag at or after the counter that no live record holds; at most 513 tests are needed (R8). -/
def State.freeTag (s : State) : Nat → Nat → Nat
  | 0, c => c
  | fuel + 1, c => if (s.findTag c).isSome then s.freeTag fuel (nextTag c) else c

/-- A remnant record is created at a plan close (R8, R21, R150): the lowest free slot, a tag from the
counter, one reserved slot spent. -/
def State.createRemnant (s : State) (parent : Slab) (rect : Rect) (basis : Nat) : State :=
  match lowest s.stock.slabs (fun r => r.isNone) with
  | none => s
  | some n =>
    let tag := s.freeTag 512 s.stock.tagCounter
    let r : Slab :=
      { tag := tag, kind := .remnant, material := parent.material, length := rect.length,
        width := rect.width, thickness := parent.thickness, cost := basis, parent := some parent.tag,
        rack := none, state := .available, holder := none, interrupted := false }
    let s1 := (s.setReserved (s.stock.reserved - 1)).rewriteSlab n r
    { s1 with stock := { s1.stock with tagCounter := nextTag tag } }.enqueue countersPage

/-! ### Commands -/

def execAdmitSlab (echo : Byte) (tag material length width thickness cost rack : Nat) (s : State) :
    Host.Outcome State Fault Refusal :=
  serve (.admitSlab echo tag material length width thickness cost rack)
    (admitSlab tag material length width thickness cost rack) s

def execReadSlab (echo : Byte) (tag : Nat) (s : State) : Host.Outcome State Fault Refusal :=
  serve (.readSlab echo tag) (readSlab tag) s

def execListStock (echo : Byte) (cursor material slabState : Nat) (s : State) :
    Host.Outcome State Fault Refusal :=
  serve (.listStock echo cursor material slabState) (listStock cursor material slabState) s

def execFindSlab (echo : Byte) (material thickness minLength minWidth : Nat) (s : State) :
    Host.Outcome State Fault Refusal :=
  serve (.findSlab echo material thickness minLength minWidth)
    (findSlab material thickness minLength minWidth) s

def execMoveSlab (echo : Byte) (tag rack : Nat) (s : State) : Host.Outcome State Fault Refusal :=
  serve (.moveSlab echo tag rack) (moveSlab tag rack) s

def execAmendSlab (echo : Byte) (tag length width cost : Nat) (s : State) :
    Host.Outcome State Fault Refusal :=
  serve (.amendSlab echo tag length width cost) (amendSlab tag length width cost) s

def execRetireSlab (echo : Byte) (tag reason : Nat) (s : State) : Host.Outcome State Fault Refusal :=
  serve (.retireSlab echo tag reason) (retireSlab tag reason) s

def execSetMaterial (echo : Byte)
    (code veined density baseFeed minFeed hardness minRemLength minRemWidth valueFactor : Nat)
    (s : State) : Host.Outcome State Fault Refusal :=
  serve
    (.setMaterial echo code veined density baseFeed minFeed hardness minRemLength minRemWidth valueFactor)
    (setMaterial code veined density baseFeed minFeed hardness minRemLength minRemWidth valueFactor) s

def execClearMaterial (echo : Byte) (code : Nat) (s : State) : Host.Outcome State Fault Refusal :=
  serve (.clearMaterial echo code) (clearMaterial code) s

def execReadMaterial (echo : Byte) (code : Nat) (s : State) : Host.Outcome State Fault Refusal :=
  serve (.readMaterial echo code) (readMaterial code) s

end Sys2Proof.Machine
end

