-- ==== Sys2Proof/Machine/Plans.lean ====
section
/-! DEFINITION. Chapter 2: plan slots, pieces and cuts, designations, locking, progress and close. START_PLAN
and ABANDON_PLAN, which reach a station, are in Machine/Stations.lean. -/

namespace Sys2Proof.Machine

/-! ### Pieces and cuts (R27 to R29) -/

def Rect.area (r : Rect) : Nat := r.length * r.width

/-- The entry of a piece number (0 to 63). -/
def pieceIndex (n : Nat) : Fin 64 := Fin.ofNat 64 n

/-- What a cut of offset `o` and kerf `k` makes of its piece (R28). -/
structure CutGeometry where
  low : Rect
  high : Rect
  travel : Nat
  startX : Nat
  startY : Nat
  deriving DecidableEq, Repr

def cutGeometry (axis : Axis) (k o : Nat) (r : Rect) : CutGeometry :=
  match axis with
  | .rip =>
    { low := { x := r.x, y := r.y, length := r.length, width := o }
      high := { x := r.x, y := r.y + o + k, length := r.length, width := r.width - o - k }
      travel := r.length
      startX := r.x
      startY := r.y + o }
  | .cross =>
    { low := { x := r.x, y := r.y, length := o, width := r.width }
      high := { x := r.x + o + k, y := r.y, length := r.length - o - k, width := r.width }
      travel := r.width
      startX := r.x + o
      startY := r.y }

/-- The sliver rule (R29): each child measures at least 200 across the cut. -/
def sliverOk (axis : Axis) (k o : Nat) (r : Rect) : Bool :=
  match axis with
  | .rip => decide (200 ≤ o ∧ o + k + 200 ≤ r.width)
  | .cross => decide (200 ≤ o ∧ o + k + 200 ≤ r.length)

/-- A LEAF with its number (R27). -/
structure Leaf where
  piece : Fin 64
  rect : Rect
  designation : Option Designation
  deriving DecidableEq, Repr

/-- The leaves in piece order. -/
def Plan.leaves (p : Plan) : List Leaf :=
  (List.finRange 64).filterMap fun i =>
    match slot p.pieces i with
    | .leaf r _ d => some { piece := i, rect := r, designation := d }
    | _ => none

def Leaf.isRemnant (l : Leaf) : Bool := decide (l.designation = some .remnant)
def Leaf.isScrap (l : Leaf) : Bool := decide (l.designation = some .scrap)

/-- The job and line of a PART leaf. -/
def Leaf.part? (l : Leaf) : Option (Nat × Fin 8) :=
  match l.designation with
  | some (.part j k) => some (j, k)
  | _ => none

/-- The slab's area as read at OPEN_PLAN: that of piece 0, which keeps its geometry (R27, R30, R145). -/
def Plan.slabArea (p : Plan) : Nat :=
  match slot p.pieces 0 with
  | .unused => 0
  | .leaf r _ _ => r.area
  | .split r _ => r.area

/-- A plan just opened on a slab (R30). -/
def Plan.new (tag kerf length width : Nat) : Plan where
  state := .opened
  slabTag := tag
  kerf := kerf
  station := none
  snapshot := none
  pieces := put (Vector.replicate 64 .unused) 0
    (.leaf { x := 0, y := 0, length := length, width := width } none none)
  cuts := []
  cutsDone := 0
  passCount := none
  passDepth := none
  remainingTravel := none
  passesReported := 0
  touched := false
  pool := 0
  poolSaturated := false
  reservedRemnants := 0
  yields := none

/-- The plan checks of R26, with the states that take the request (R25). -/
def State.planCheck (s : State) (number : Nat) (takes : PlanState → Bool) :
    Except Answer (Fin 12 × Plan) :=
  match index? 12 number with
  | none => refuse .badValue
  | some k =>
    match s.plan k with
    | none => refuse .noSuch
    | some p => if takes p.state then .ok (k, p) else refuse .wrongState

def PlanState.isOpened (x : PlanState) : Bool := decide (x = .opened)
def PlanState.isLocked (x : PlanState) : Bool := decide (x = .locked)
def PlanState.isBound (x : PlanState) : Bool := decide (x = .bound)

/-! ### Building a plan -/

/-- OPEN_PLAN (R30). -/
def openPlan (tag kerf : Nat) : Handler := fun s =>
  if ¬(20 ≤ kerf ∧ kerf ≤ 80) then refuse .badValue
  else match lowest s.plans (fun p => p.isNone) with
    | none => refuse .full
    | some k =>
      match s.holdCheck tag with
      | .error a => .error a
      | .ok (n, r) =>
        done ((s.holdSlab n r k).setPlan k (some (Plan.new tag kerf r.length r.width)))
          (leFields [(1, k.val), (2, r.length), (2, r.width), (2, r.thickness), (1, r.material.val)])

/-- The plan with cut `g` appended on piece `i` (R31). -/
def Plan.withCut (p : Plan) (i : Fin 64) (axis : Axis) (offset : Nat) (r : Rect) (o : Option Origin) :
    Plan :=
  let c := p.cuts.length
  let g := cutGeometry axis p.kerf offset r
  let made : Option Origin := some { parent := i.val, cut := c }
  let cut : Cut :=
    { target := i
      axis := axis
      offset := offset
      travel := g.travel
      startX := g.startX
      startY := g.startY
      state := .pending }
  { p with
    cuts := p.cuts ++ [cut]
    pieces := put (put (put p.pieces i (.split r o)) (pieceIndex (2 * c + 1)) (.leaf g.low made none))
      (pieceIndex (2 * c + 2)) (.leaf g.high made none) }

/-- ADD_CUT (R31). -/
def addCut (plan piece axis offset : Nat) : Handler := fun s =>
  match s.planCheck plan PlanState.isOpened with
  | .error a => .error a
  | .ok (k, p) =>
    match index? 64 piece, axisOf axis with
    | none, _ => refuse .badValue
    | _, none => refuse .badValue
    | some i, some ax =>
      if 40000 < offset then refuse .badValue
      else match slot p.pieces i with
        | .unused => refuse .notLeaf
        | .split _ _ => refuse .notLeaf
        | .leaf _ _ (some _) => refuse .designated
        | .leaf r o none =>
          if ¬ sliverOk ax p.kerf offset r then refuse .sliver
          else if 31 ≤ p.cuts.length then refuse .full
          else
            let c := p.cuts.length
            let g := cutGeometry ax p.kerf offset r
            done (s.setPlan k (some (p.withCut i ax offset r o)))
              (leFields [(1, c), (1, 2 * c + 1), (1, 2 * c + 2),
                (2, g.low.x), (2, g.low.y), (2, g.low.length), (2, g.low.width),
                (2, g.high.x), (2, g.high.y), (2, g.high.length), (2, g.high.width),
                (2, g.travel), (2, g.startX), (2, g.startY)])

def Piece.designated (x : Piece) : Bool :=
  match x with
  | .leaf _ _ (some _) => true
  | _ => false

/-- A SPLIT piece becomes an undesignated LEAF again (R32). -/
def Piece.rejoined (x : Piece) : Piece :=
  match x with
  | .split r o => .leaf r o none
  | y => y

/-- UNDO_CUT (R32). -/
def undoCut (plan : Nat) : Handler := fun s =>
  match s.planCheck plan PlanState.isOpened with
  | .error a => .error a
  | .ok (k, p) =>
    match p.cuts.getLast? with
    | none => refuse .noSuch
    | some g =>
      let c := p.cuts.length - 1
      let low := pieceIndex (2 * c + 1)
      let high := pieceIndex (2 * c + 2)
      if (slot p.pieces low).designated || (slot p.pieces high).designated then refuse .designated
      else
        let pieces := put (put p.pieces low .unused) high .unused
        done (s.setPlan k (some
            { p with cuts := p.cuts.dropLast, pieces := put pieces g.target (slot pieces g.target).rejoined }))
          (leFields [(1, c), (1, g.target.val)])

/-! ### Designations (R33 to R36) -/

/-- The remnant size test (R35). -/
def remnantFits (m : Material) (r : Rect) : Bool :=
  decide (m.minRemLength ≤ r.length ∧ m.minRemWidth ≤ r.width)
    || (!m.veined && decide (m.minRemLength ≤ r.width ∧ m.minRemWidth ≤ r.length))

/-- A designation released: a PART's line loses one (R33). -/
def State.releaseDesignation (s : State) (d : Option Designation) : State :=
  match d with
  | some (.part j k) => s.updateJobLine j k JobLine.undesignate
  | _ => s

/-- The job line test of a PART designation (R36). -/
def State.partCheck (s : State) (number : Nat) (k : Fin 8) : Except Answer Unit :=
  match s.jobOf number with
  | none => refuse .noSuch
  | some (_, j) =>
    if j.closed then refuse .jobClosed
    else match slot j.lines k with
      | none => refuse .noSuch
      | some x => if x.delivered + x.designated < x.target then .ok () else refuse .lineFull

/-- The designation a MARK_PIECE carries (R34); `none` for a value out of range. The job and line are read
for PART only (R189). -/
def designationOf (designation job line : Nat) : Option (Option Designation) :=
  match designation with
  | 0 => some none
  | 1 => if 1 ≤ job ∧ job ≤ 65535 then (jobLineOf line).map (fun k => some (.part job k)) else none
  | 2 => some (some .remnant)
  | 3 => some (some .scrap)
  | _ => none

/-- The live Material Table entry of the plan's slab (R35), with its code. -/
def State.planMaterial (s : State) (p : Plan) : Option (Fin 32 × Material) :=
  (s.slabOf p.slabTag).bind fun x => (s.material x.2.material).map fun m => (x.2.material, m)

/-- The new designation passes its own rule and is set (R34 to R36). -/
def State.designate (s : State) (p : Plan) (i : Fin 64) (r : Rect) (d : Option Designation) :
    Except Answer State :=
  match d with
  | none => .ok s
  | some .scrap => .ok s
  | some .remnant =>
    if (s.planMaterial p).any (fun x => remnantFits x.2 r) then .ok s
    else .error { code := .tooSmall, fields := leBytes 1 i.val }
  | some (.part j k) =>
    match s.partCheck j k with
    | .error a => .error a
    | .ok () => .ok (s.updateJobLine j k JobLine.designate)

/-- MARK_PIECE (R34): the old designation is released, then the new one checked; a refusal returns no state,
so it puts the released designation back. -/
def markPiece (plan piece designation job line : Nat) : Handler := fun s =>
  match s.planCheck plan PlanState.isOpened with
  | .error a => .error a
  | .ok (k, p) =>
    match index? 64 piece, designationOf designation job line with
    | none, _ => refuse .badValue
    | _, none => refuse .badValue
    | some i, some d =>
      match slot p.pieces i with
      | .unused => refuse .notLeaf
      | .split _ _ => refuse .notLeaf
      | .leaf r o old =>
        match (s.releaseDesignation old).designate p i r d with
        | .error a => .error a
        | .ok t =>
          done (t.setPlan k (some { p with pieces := put p.pieces i (.leaf r o d) }))
            ((Piece.leaf r o d).block i.val)

/-! ### Locking (R37 to R42) -/

/-- The sum of the areas of the leaves that pass a test. -/
def areaOf (ls : List Leaf) (p : Leaf → Bool) : Nat := ((ls.filter p).map (fun l => l.rect.area)).sum

/-- The yield figures (R40). -/
def Plan.computeYield (p : Plan) : Yield :=
  let ls := p.leaves
  let parts := areaOf ls (fun l => l.part?.isSome)
  { parts := parts
    remnant := areaOf ls Leaf.isRemnant
    scrap := areaOf ls Leaf.isScrap
    kerf := p.slabArea - areaOf ls (fun _ => true)
    perMille := 1000 * parts / p.slabArea }

/-- The sum of the travels of all cuts (R41). -/
def Plan.totalTravel (p : Plan) : Nat := (p.cuts.map (·.travel)).sum

/-- LOCK_PLAN (R37 to R41). DEDUCED: in its reply the yield and the reserved remnant count, whose widths R189's table
does not name, have those of the plan header of 11.4 (assumption 22). -/
def lockPlan (plan : Nat) : Handler := fun s =>
  match s.planCheck plan PlanState.isOpened with
  | .error a => .error a
  | .ok (k, p) =>
    if p.cuts.isEmpty then refuse .wrongState
    else match p.leaves.find? (fun l => l.designation.isNone) with
      | some l => .error { code := .undesignated, fields := leBytes 1 l.piece.val }
      | none =>
        match s.planMaterial p with
        | none => refuse .badValue
        | some (c, m) =>
          match p.leaves.find? (fun l => l.isRemnant && !remnantFits m l.rect) with
          | some l => .error { code := .tooSmall, fields := leBytes 1 l.piece.val }
          | none =>
            let r := p.leaves.countP Leaf.isRemnant
            if 512 < s.liveSlabs + s.stock.reserved + r then refuse .noRoom
            else
              let q : Plan :=
                { p with
                  state := .locked
                  snapshot := some { code := c, entry := m }
                  reservedRemnants := r
                  yields := some p.computeYield
                  passCount := some 1
                  remainingTravel := some p.totalTravel }
              done ((s.setReserved (s.stock.reserved + r)).setPlan k (some q))
                (leFields (yieldFields q.yields ++ [(1, r), (3, p.totalTravel)]))

/-- The plan's reservation is given back (R7, R39). -/
def State.giveBack (s : State) (p : Plan) : State := s.setReserved (s.stock.reserved - p.reservedRemnants)

/-- UNLOCK_PLAN (R42). -/
def unlockPlan (plan : Nat) : Handler := fun s =>
  match s.planCheck plan PlanState.isLocked with
  | .error a => .error a
  | .ok (k, p) =>
    done ((s.giveBack p).setPlan k (some
      { p with
        state := .opened
        reservedRemnants := 0
        snapshot := none
        yields := none
        remainingTravel := none
        passCount := none })) []

/-! ### Letting a plan go, and reading it -/

/-- Every PART designation is released, in piece order (R43, R44). -/
def State.releaseParts (s : State) (p : Plan) : State :=
  p.leaves.foldl (fun t l => t.releaseDesignation l.designation) s

/-- DROP_PLAN (R43). -/
def dropPlan (plan : Nat) : Handler := fun s =>
  match s.planCheck plan (fun x => !x.isBound) with
  | .error a => .error a
  | .ok (k, p) =>
    done ((((s.releaseParts p).giveBack p).releaseSlab p.slabTag).setPlan k none) (leBytes 3 p.slabTag)

/-- READ_PLAN (R45). -/
def readPlan (plan start : Nat) : Handler := fun s =>
  match s.planCheck plan (fun _ => true) with
  | .error a => .error a
  | .ok (_, p) =>
    if 63 < start then refuse .badValue
    else
      let shown := (List.finRange 64).filter fun i => decide (start ≤ i.val ∧ i.val < start + 8)
      done s (p.header ++ shown.flatMap (fun i => (slot p.pieces i).block i.val)
        ++ leBytes 1 (if start + 8 ≤ 63 then start + 8 else 255))

/-! ### Progress and close (R46 to R48) -/

/-- The current cut: the first PENDING cut in list order (R46). -/
def Plan.currentCut (p : Plan) : Option Cut := p.cuts[p.cutsDone]?

/-- The depth of pass `i` of a plan on a slab of thickness `t`: the pass depth, and for the last pass the rest
of the thickness (R80, R103). -/
def passDepthAt (t c d i : Nat) : Nat := if i < c then d else t - d * (c - 1)

/-- An accepted PASS at the Plan Store, when the cut's passes are not all reported (R46). -/
def Plan.takePass (p : Plan) (travel : Nat) : Plan :=
  { p with
    passesReported := p.passesReported + 1
    remainingTravel := p.remainingTravel.map (· - travel)
    touched := true }

/-- A FINISH at the Plan Store with `u` passes unreported (R47). -/
def Plan.finishCut (p : Plan) (travel u : Nat) : Plan :=
  { p with
    remainingTravel := p.remainingTravel.map (· - travel * u)
    cuts := p.cuts.modify p.cutsDone (fun c => { c with state := .done })
    cutsDone := p.cutsDone + 1
    passesReported := 0
    touched := true }

/-- The plan bound at START_PLAN (R41). -/
def Plan.bind (p : Plan) (i : Fin 4) (c d : Nat) : Plan :=
  { p with
    state := .bound
    station := some i
    passCount := some c
    passDepth := some d
    remainingTravel := some (p.totalTravel * c) }

/-- The PART leaves with their job, line and area, in piece order. -/
def Plan.parts (p : Plan) : List (Nat × Fin 8 × Nat) :=
  p.leaves.filterMap fun l => l.part?.map fun x => (x.1, x.2, l.rect.area)

/-- The REMNANT leaves' rectangles with their cost bases, in piece order (R146). -/
def Plan.remnants (p : Plan) (basis : Nat) : List (Rect × Nat) :=
  (p.leaves.filter Leaf.isRemnant).map fun l =>
    (l.rect, remnantBasis basis l.rect.area ((p.snapshot.map (fun x => x.entry.valueFactor)).getD 0)
      p.slabArea)

/-- The pool booked to the overhead process total, with its mark (R147, R151, R152). -/
def State.bookPool (s : State) (p : Plan) : State :=
  s.bookOverhead fun o => (o.bookProcess p.pool).markSaturated p.poolSaturated

/-- The booking at a close (R147 to R149): to the overhead account when there is no PART leaf, else to the
job lines in piece order. -/
def State.bookClose (s : State) (p : Plan) (net : Nat) : State :=
  if p.parts.isEmpty then (s.bookOverhead (fun o => o.bookMaterial net)).bookPool p
  else
    let areas := p.parts.map (fun x => x.2.2)
    (p.parts.zip ((shares net areas).zip (shares (poolCents p.pool) areas))).foldl
      (fun t x => t.bookPart x.1.1 x.1.2.1 x.2.1 x.2.2 p.poolSaturated) s

/-- The close at the Plan Store, the Cost Table and the Stock Table (R48, R145 to R150): bookings, remnant
records in piece order, the cut slab retired, the plan slot freed. -/
def State.closeRecords (s : State) (k : Fin 12) (p : Plan) : State :=
  match s.slabOf p.slabTag with
  | none => s.setPlan k none
  | some (_, r) =>
    let made := p.remnants r.cost
    let net := r.cost - (made.map (·.2)).sum
    let booked := s.bookClose p net
    let stocked := made.foldl (fun t x => t.createRemnant r x.1 x.2) booked
    (stocked.retireTag p.slabTag).setPlan k none

/-! ### Commands -/

def execOpenPlan (echo : Byte) (tag kerf : Nat) (s : State) : Host.Outcome State Fault Refusal :=
  serve (.openPlan echo tag kerf) (openPlan tag kerf) s

def execAddCut (echo : Byte) (plan piece axis offset : Nat) (s : State) :
    Host.Outcome State Fault Refusal :=
  serve (.addCut echo plan piece axis offset) (addCut plan piece axis offset) s

def execUndoCut (echo : Byte) (plan : Nat) (s : State) : Host.Outcome State Fault Refusal :=
  serve (.undoCut echo plan) (undoCut plan) s

def execMarkPiece (echo : Byte) (plan piece designation job line : Nat) (s : State) :
    Host.Outcome State Fault Refusal :=
  serve (.markPiece echo plan piece designation job line) (markPiece plan piece designation job line) s

def execLockPlan (echo : Byte) (plan : Nat) (s : State) : Host.Outcome State Fault Refusal :=
  serve (.lockPlan echo plan) (lockPlan plan) s

def execUnlockPlan (echo : Byte) (plan : Nat) (s : State) : Host.Outcome State Fault Refusal :=
  serve (.unlockPlan echo plan) (unlockPlan plan) s

def execDropPlan (echo : Byte) (plan : Nat) (s : State) : Host.Outcome State Fault Refusal :=
  serve (.dropPlan echo plan) (dropPlan plan) s

def execReadPlan (echo : Byte) (plan start : Nat) (s : State) : Host.Outcome State Fault Refusal :=
  serve (.readPlan echo plan start) (readPlan plan start) s

end Sys2Proof.Machine
end

