-- ==== Sys2Proof/Machine/Blades.lean ====
section
/-! DEFINITION. Chapter 5: blade records, pass derivation and pass wear. -/

namespace Sys2Proof.Machine

/-! ### Passes and wear (R103 to R105) -/

/-- The pass count of a slab of thickness `t` for a maximum pass depth `m`: ceil(t / m) (R103). -/
def passCountFor (t m : Nat) : Nat := (t + m - 1) / m

/-- The pass depth: floor(t / c) (R103). -/
def passDepthFor (t c : Nat) : Nat := t / c

/-- The sum of one pass: travel × depth × hardness + carry (R104). -/
def Blade.wearSum (b : Blade) (travel depth hardness : Nat) : Nat :=
  travel * depth * hardness + b.wearCarry

/-- The wear units of one pass (R104). -/
def Blade.wearUnits (b : Blade) (travel depth hardness : Nat) : Nat :=
  b.wearSum travel depth hardness / 160000

/-- The blade after one pass, before the low test (R104). -/
def Blade.worn (b : Blade) (travel depth hardness : Nat) : Blade :=
  { b with
    wearCarry := b.wearSum travel depth hardness % 160000
    wearRemaining := b.wearRemaining - b.wearUnits travel depth hardness }

/-- The low test finds a blade at or below its threshold that was not yet reported (R105). -/
def Blade.turnsLow (b : Blade) : Bool := !b.lowRaised && decide (b.wearRemaining ≤ b.lowThreshold)

/-- The wear of one pass at the Blade Records (R104): the state, and the wear cost in millicents. Without a
blade, which a station with a bound plan never is, nothing is worn. -/
def State.passWear (s : State) (i : Fin 4) (travel depth hardness : Nat) : State × Nat :=
  match s.blade i with
  | none => (s, 0)
  | some b =>
    let w := b.worn travel depth hardness
    let cost := b.wearUnits travel depth hardness * b.costPerUnit
    let worn :=
      if w.turnsLow then
        (s.setBlade i (some { w with lowRaised := true })).raise bladeLowSource
          (.bladeLow i w.serial w.wearRemaining)
      else s.setBlade i (some w)
    (worn.enqueue (bladePage i), cost)

/-- "Wear remaining above 0" (R106). -/
def State.bladeSharp (s : State) (i : Fin 4) : Bool := (s.blade i).any fun b => decide (0 < b.wearRemaining)

/-! ### Requests -/

/-- The plan bound to a station, with the thickness of its slab. -/
def State.boundPlan (s : State) (i : Fin 4) : Option (Fin 12 × Plan) :=
  (s.station i).plan.bind fun k => (s.plan k).map fun p => (k, p)

def State.slabThickness (s : State) (tag : Nat) : Nat := ((s.slabOf tag).map (fun x => x.2.thickness)).getD 0

/-- The states that take a FIT_BLADE (R99). -/
def StationState.takesFit : StationState → Bool
  | .detached | .listening | .ready | .paused | .faulted => true
  | .staged | .cutting | .holding => false

/-- The states that take a REMOVE_BLADE, no plan being bound (R101). -/
def StationState.takesRemoval : StationState → Bool
  | .detached | .listening | .ready | .faulted => true
  | .staged | .cutting | .holding | .paused => false

/-- The record a FIT_BLADE stores (R99, R100): life, cost and low mark clamped; a fresh fit starts at the
fitted life, a used fit at the clamped figure given. -/
def fittedBlade (serial kerf maxPassDepth maxDepth life costPerUnit lowMark wear : Nat) : Blade :=
  let l := clamp 50000 5000000 life
  let base : Blade :=
    { serial := serial, kerf := kerf, maxPassDepth := maxPassDepth, maxDepth := maxDepth, fittedLife := l,
      wearRemaining := l, wearCarry := 0, costPerUnit := clamp 0 10000 costPerUnit,
      lowMark := ((optional 65535 lowMark).map (clamp 0 500)).getD 100, lowRaised := false }
  match optional 16777215 wear with
  | none => base
  | some w =>
    let used := { base with wearRemaining := clamp 0 l w }
    { used with lowRaised := decide (used.wearRemaining ≤ used.lowThreshold) }

/-- FIT_BLADE (R99, R100): DESIGN CHOICE, R99's checks in their order, where the last example of 5.4 answers DEPTH for a
maximum pass depth of 90, below the range of R99's check 2 (assumption 30). The record replaces the present one whole and
its page is enqueued at every success (R100, R107). DEDUCED: also where the two records are equal, which is no request
that "changes nothing" of R175, since the fit discards the one and begins a fitting of the other (assumption 31). -/
def fitBlade (station serial kerf maxPassDepth maxDepth life costPerUnit lowMark wear : Nat) : Handler :=
  fun s =>
  match index? 4 station with
  | none => refuse .badValue
  | some i =>
    if ¬((1 ≤ serial ∧ serial ≤ 16777215) ∧ (20 ≤ kerf ∧ kerf ≤ 80)
        ∧ (100 ≤ maxPassDepth ∧ maxPassDepth ≤ 600) ∧ (100 ≤ maxDepth ∧ maxDepth ≤ 600)
        ∧ maxPassDepth ≤ maxDepth) then refuse .badValue
    else if ¬ (s.station i).state.takesFit then refuse .wrongState
    else if (s.boundPlan i).any (fun x => decide (x.2.kerf < kerf)) then refuse .kerf
    else if (s.boundPlan i).any (fun x => decide (maxDepth < s.slabThickness x.2.slabTag)
        || decide (maxPassDepth < x.2.passDepth.getD 0)) then refuse .depth
    else
      let b := fittedBlade serial kerf maxPassDepth maxDepth life costPerUnit lowMark wear
      done ((s.setBlade i (some b)).enqueue (bladePage i)) b.block

/-- REMOVE_BLADE (R101). -/
def removeBlade (station : Nat) : Handler := fun s =>
  match index? 4 station with
  | none => refuse .badValue
  | some i =>
    if ¬ ((s.station i).state.takesRemoval && (s.station i).plan.isNone) then refuse .wrongState
    else match s.blade i with
      | none => refuse .noBlade
      | some b => done ((s.setBlade i none).enqueue (bladePage i)) b.block

/-- READ_BLADE (R102). -/
def readBlade (station : Nat) : Handler := fun s =>
  match index? 4 station with
  | none => refuse .badValue
  | some i =>
    match s.blade i with
    | none => refuse .noBlade
    | some b => done s (b.block ++ leFields [(3, b.lowThreshold), (3, b.fittedLife - b.wearRemaining)])

/-! ### Commands -/

def execFitBlade (echo : Byte)
    (station serial kerf maxPassDepth maxDepth life costPerUnit lowMark wear : Nat) (s : State) :
    Host.Outcome State Fault Refusal :=
  serve (.fitBlade echo station serial kerf maxPassDepth maxDepth life costPerUnit lowMark wear)
    (fitBlade station serial kerf maxPassDepth maxDepth life costPerUnit lowMark wear) s

def execRemoveBlade (echo : Byte) (station : Nat) (s : State) : Host.Outcome State Fault Refusal :=
  serve (.removeBlade echo station) (removeBlade station) s

def execReadBlade (echo : Byte) (station : Nat) (s : State) : Host.Outcome State Fault Refusal :=
  serve (.readBlade echo station) (readBlade station) s

end Sys2Proof.Machine
end

