-- ==== Sys2Proof/Machine/Valves.lean ====
section
/-! DEFINITION. The valve commands and their supervision (R123, R124). -/

namespace Sys2Proof.Machine

/-- The supply valve of a station; the make-up valve is 0. -/
def supplyValve (i : Fin 4) : Fin 5 := i.succ

def makeUpValve : Fin 5 := 0

/-- The settle test of one valve (R124): only while LIVE, only with a reported value. -/
def State.settleTest (s : State) (v : Fin 5) : State :=
  match s.water.link, s.water.reported with
  | .live, some r =>
    let t := if slot s.water.commanded v = slot r v then SettleTimer.stopped
      else match slot s.water.settle v with
        | .stopped => .running s.settings.valveSettleTime
        | x => x
    s.onWater fun w => { w with settle := put w.settle v t }
  | _, _ => s

/-- A valve is commanded: a change hands the plant a VALVES frame with all five commands and tests the valve
at once (R123, R124). -/
def State.commandValve (s : State) (v : Fin 5) (opened : Bool) : State :=
  if slot s.water.commanded v = opened then s
  else
    let s1 := s.onWater fun w => { w with commanded := put w.commanded v opened }
    (s1.handPlant (.valves s1.water.commanded)).settleTest v

/-- Every settle timer stops, as the link leaves LIVE (R124). -/
def State.stopSettleTimers (s : State) : State :=
  s.onWater fun w => { w with settle := Vector.replicate 5 .stopped }

end Sys2Proof.Machine
end

