-- ==== Sys2Proof/Machine/StationOps.lean ====
section
/-! DEFINITION. What a Station Controller does on its own (chapter 4): entering states, notices, dispatching,
holding, faulting, resuming, and its part of a close. Requests and reports call these. -/

namespace Sys2Proof.Machine

/-! ### Entering states (R69, R70) -/

/-- The station enters a state; an entry into CUTTING or HOLDING from another state, or an exit from them,
commands its supply valve (R69, R123). -/
def State.enterState (s : State) (i : Fin 4) (new : StationState) : State :=
  let st := s.station i
  let s1 := s.setStation i { st with state := new }
  if st.state.wet = new.wet then s1 else s1.commandValve (supplyValve i) new.wet

/-- The current cut's number, where a plan is bound (R70). -/
def State.currentCutNumber (s : State) (i : Fin 4) : Option Nat := (s.boundPlan i).map fun x => x.2.cutsDone

/-- The station's HALT with a condition (R70, R90, R183): the fault code and its cut index are present for
SAW_FAULT. -/
def State.raiseHalt (s : State) (i : Fin 4) (c : Condition) : State :=
  let st := s.station i
  s.raise (haltSource i)
    (.halt c st.state (if c = .sawFault then st.faultCode else none) st.plan (s.currentCutNumber i)
      (if c = .sawFault then some st.faultCut else none))

/-- The notice of the station's condition in PAUSED or FAULTED (R70): ESTOP, HALT, or none for HOST_STOP. -/
def State.raiseStop (s : State) (i : Fin 4) : State :=
  let st := s.station i
  match st.condition with
  | .estop => s.raise (estopSource i) (.estop st.state st.plan (s.currentCutNumber i))
  | .hostStop => s
  | c => s.raiseHalt i c

def Station.stopTimers (st : Station) : Station :=
  { st with replyTimer := none, silenceTimer := none, queryTimer := none }

def State.setCondition (s : State) (i : Fin 4) (c : Condition) : State :=
  s.setStation i { s.station i with condition := c }

/-- The station enters FAULTED, or stays there with a new condition: its timers stop and the condition's
notice is raised (R70, R79, R82 to R84, R87, R89, R90). -/
def State.faultStation (s : State) (i : Fin 4) (c : Condition) : State :=
  let s1 := s.setStation i { (s.station i).stopTimers with condition := c }
  (s1.enterState i .faulted).raiseStop i

/-- A fault of the link rather than of the saw: the last saw mode becomes absent (R79, R84, R87, R89, R90). -/
def State.forgetMode (s : State) (i : Fin 4) : State :=
  s.setStation i { s.station i with sawMode := none }

/-- NO_ACCEPT, NO_HOLD, SILENT and LINE_NOISE: the link fails, and a QUERY is handed to the line. -/
def State.linkFault (s : State) (i : Fin 4) (c : Condition) : State :=
  ((s.forgetMode i).faultStation i c).handSaw i .query

/-! ### Orders (R75 to R77) -/

/-- The feed limit of R76 at water factor `f`. -/
def Material.feedLimit (m : Material) (f : Nat) : Nat := max m.minFeed (m.baseFeed * f / 1000)

/-- The feed limit of a plan's orders at the present factor, from its snapshot (R38, R76). -/
def State.planFeedLimit (s : State) (p : Plan) : Nat :=
  (p.snapshot.map fun x => x.entry.feedLimit s.water.factor).getD 0

/-- The ORDER for the current cut of the bound plan (R77, step 2). -/
def State.orderFor (s : State) (i : Fin 4) (k : Fin 12) (p : Plan) (c : Cut) : OrderInfo where
  plan := k
  cut := p.cutsDone
  axis := c.axis
  startX := c.startX
  startY := c.startY
  travel := c.travel
  totalDepth := s.slabThickness p.slabTag
  passCount := p.passCount.getD 0
  firstPass := (s.station i).passesTaken + 1
  passDepth := p.passDepth.getD 0
  feedLimit := s.planFeedLimit p

/-- Dispatching an ORDER for the plan's current cut (R77). -/
def State.dispatch (s : State) (i : Fin 4) : State :=
  match s.boundPlan i with
  | none => s
  | some (k, p) =>
    match p.currentCut with
    | none => s
    | some c =>
      let o := s.orderFor i k p c
      let s1 := s.setStation i { s.station i with toggle := !(s.station i).toggle }
      let s2 := s1.handSaw i (.order o)
      let s3 := s2.setStation i
        { s2.station i with
          orderOutstanding := true
          lastFeedLimit := some o.feedLimit
          silenceTimer := some s.settings.silenceLimit
          queryTimer := some (s.settings.silenceLimit / 2) }
      s3.firstOrder p.slabTag

/-- An ORDER is dispatched and the station enters CUTTING with condition NONE (R70, R75, R92). -/
def State.dispatchAndCut (s : State) (i : Fin 4) : State :=
  ((s.dispatch i).setCondition i .none).enterState i .cutting

/-- The test of a STAGED station (R75): the loaded edge seen, the factor at or above the resume factor. -/
def State.tryStaged (s : State) (i : Fin 4) : State :=
  if (s.station i).loadedSinceStaging ∧ s.thresholds.resume ≤ s.water.factor then s.dispatchAndCut i else s

/-! ### The plan leaving (R96, R97) -/

/-- The station's part as its plan leaves: unbound, no order outstanding, the toggle flipped, ORDER and FEED
withdrawn unsent, counts cleared, timers stopped, READY with condition NONE. -/
def State.unbind (s : State) (i : Fin 4) : State :=
  let st := s.station i
  let s1 := s.setStation i
    { st.stopTimers with
      plan := none
      orderOutstanding := false
      toggle := !st.toggle
      loadedSinceStaging := false
      passesTaken := 0
      progressCount := 0
      condition := .none }
  (s1.withdrawFrames i).enterState i .ready

/-- The whole of a close, records first, then the station, then PLAN_DONE (R48, R96). -/
def State.closePlan (s : State) (i : Fin 4) (k : Fin 12) : State :=
  match s.plan k with
  | none => s
  | some p => ((s.closeRecords k p).unbind i).raise (planDoneSource i) (.planDone k p.slabTag)

/-- Every cut of the plan is DONE (R47). -/
def State.allCutsDone (s : State) (k : Fin 12) : Bool :=
  (s.plan k).any fun p => decide (p.cutsDone = p.cuts.length)

/-- The current cut becomes DONE with `u` passes unreported, at the plan and at the station (R47, R81). -/
def State.markCutDone (s : State) (i : Fin 4) (k : Fin 12) (travel u : Nat) : State :=
  let s1 := s.updatePlan k (fun p => p.finishCut travel u)
  s1.setStation i { s1.station i with passesTaken := 0, orderOutstanding := false }

/-! ### Holds (R86) -/

/-- A cause that holds a CUTTING station, or meets a HOLDING one (R86). -/
def State.holdStation (s : State) (i : Fin 4) (c : Condition) : State :=
  match (s.station i).state with
  | .cutting =>
    let s1 := s.handHold i
    let s2 := s1.setStation i
      { s1.station i with
        condition := c
        replyTimer := none
        queryTimer := some (s.settings.replyTimeout / 2) }
    s2.enterState i .holding
  | .holding => if c = .hostStop then s.setCondition i c else s
  | _ => s

/-! ### Resuming (R92, R93) -/

/-- The three courses of a resume (R92). -/
def State.resumeStation (s : State) (i : Fin 4) : State :=
  match s.boundPlan i with
  | none => s
  | some (k, p) =>
    if (s.slabOf p.slabTag).any (fun x => decide (x.2.state = .held)) then
      ((s.setCondition i .none).enterState i .staged).tryStaged i
    else if p.passCount = some (s.station i).passesTaken then
      let s1 := s.markCutDone i k ((p.currentCut.map (·.travel)).getD 0) 0
      if s1.allCutsDone k then s1.closePlan i k else s1.dispatchAndCut i
    else s.dispatchAndCut i

/-- The automatic resume of a PAUSED station with WATER_HOLD (R93). -/
def State.tryWaterHeld (s : State) (i : Fin 4) : State :=
  if s.thresholds.resume ≤ s.water.factor then
    if s.bladeSharp i then s.resumeStation i else (s.setCondition i .bladeWorn).raiseStop i
  else s

/-! ### The report of the water factor (R75, R86, R93, R94, R126) -/

/-- A CUTTING station sends a FEED when its limit moved by the feed step (R94). -/
def State.updateFeed (s : State) (i : Fin 4) : State :=
  match s.boundPlan i with
  | none => s
  | some (_, p) =>
    let limit := s.planFeedLimit p
    let last := ((s.station i).lastFeedLimit).getD 0
    if s.settings.feedStep ≤ max limit last - min limit last then
      let s1 := s.handSaw i (.feed limit)
      s1.setStation i { s1.station i with lastFeedLimit := some limit }
    else s

/-- One station takes the report of the factor; `changed` is false at a SET_WATER that left F as it was. -/
def State.reportFactor (s : State) (changed : Bool) (i : Fin 4) : State :=
  match (s.station i).state with
  | .cutting =>
    if changed then (if s.water.factor = 0 then s.holdStation i .waterHold else s.updateFeed i) else s
  | .staged => s.tryStaged i
  | .paused => if (s.station i).condition = .waterHold then s.tryWaterHeld i else s
  | _ => s

/-- A HOLDING station that has stopped enters PAUSED with its condition (R87). -/
def State.pauseHeld (s : State) (i : Fin 4) : State :=
  let s1 := (s.setStation i (s.station i).stopTimers).enterState i .paused
  let s2 := s1.raiseStop i
  if (s.station i).condition = .waterHold then s2.tryWaterHeld i else s2

end Sys2Proof.Machine
end

