-- ==== Sys2Proof/Machine/WaterOps.lean ====
section
/-! DEFINITION. What the Water Supervisor does on its own (chapter 6): the water factor and its report, the
make-up valve, the press, solids, the allowance and the plant link. Requests and reports call these. -/

namespace Sys2Proof.Machine

/-! ### The water factor (R125, R126) -/

/-- f_clear (R125). -/
def factorClear (t : Thresholds) (clear : Option Nat) : Nat :=
  match clear with
  | none => 0
  | some x =>
    if t.low ≤ x then 1000
    else if x ≤ t.hold then 0
    else max 200 (1000 * (x - t.hold) / (t.low - t.hold))

/-- f_settle (R125). -/
def factorSettle (settling : Option Nat) : Nat :=
  match settling with
  | none => 0
  | some x =>
    if x < 850 then 1000
    else if 950 ≤ x then 0
    else max 200 (1000 * (950 - x) / 100)

/-- f_solids (R125). -/
def factorSolids (t : Thresholds) (solids : Nat) : Nat :=
  if solids < t.slow then 1000
  else if t.stop ≤ solids then 0
  else max 200 (1000 * (t.stop - solids) / (t.stop - t.slow))

/-- The record with its three factors and F computed afresh (R125). -/
def Water.withFactors (w : Water) : Water :=
  let c := factorClear w.kept.thresholds w.clear
  let b := factorSettle w.settling
  let g := factorSolids w.kept.thresholds w.kept.solids
  { w with
    fClear := c
    fSettle := b
    fSolids := g
    factor := if w.link = .live then min c (min b g) else 0 }

/-- F is reported to every station (R126), in station order (DEDUCED, assumption 12). -/
def State.reportToStations (s : State) (changed : Bool) : State :=
  (List.finRange 4).foldl (fun t i => t.reportFactor changed i) s

/-- WATER is raised with the crossing made (R126). -/
def State.raiseWater (s : State) (c : Crossing) : State :=
  s.raise waterSource (.water c s.water.factor s.water.fClear s.water.fSettle s.water.fSolids)

/-- F is recomputed (R125) and the recomputation reported (R126). `oldResume` is the resume factor before the
event, which only a SET_WATER (`setWater`) may have changed. -/
def State.recomputeFrom (s : State) (oldResume : Nat) (setWater : Bool) : State :=
  let old := s.water.factor
  let s1 := s.onWater Water.withFactors
  let new := s1.water.factor
  let changed := decide (new ≠ old)
  let s2 := if changed || setWater then s1.reportToStations changed else s1
  let s3 := if 0 < old ∧ new = 0 then s2.raiseWater .fellToZero else s2
  if ¬(oldResume ≤ old) ∧ s.thresholds.resume ≤ new then s3.raiseWater .reachedResume else s3

def State.recompute (s : State) : State := s.recomputeFrom s.thresholds.resume false

/-! ### The make-up valve and the allowance (R121, R122) -/

/-- The make-up command (R121). -/
def Water.makeUpCommand (w : Water) : Bool :=
  match w.link, w.clear with
  | .live, some x =>
    let reached := w.kept.atAllowance
    if x ≤ w.kept.thresholds.fill ∧ ¬reached then true
    else if w.kept.thresholds.full ≤ x ∨ reached then false
    else slot w.commanded makeUpValve
  | .live, none => if w.kept.atAllowance then false else slot w.commanded makeUpValve
  | _, _ => false

def State.decideMakeUp (s : State) : State := s.commandValve makeUpValve s.water.makeUpCommand

/-- The allowance test (R122). -/
def State.testAllowance (s : State) : State :=
  if s.water.kept.atAllowance ∧ ¬ s.water.allowanceReached then
    (s.onWater fun w => { w with allowanceReached := true }).raise allowanceSource
      (.allowance s.water.kept.periodUsed (s.water.kept.allowance.getD 0))
  else s

/-! ### The press (R118) and solids (R117) -/

/-- The press is requested (R118). -/
def State.requestPress (s : State) : State :=
  (s.onWater fun w =>
    { w with press := .requested, pressTimer := some s.settings.pressStartTimeout }).handPlant .press

/-- The automatic request (R117, R127). -/
def State.autoPress (s : State) : State :=
  if s.water.press = .idle ∧ s.thresholds.autoPress ∧ s.water.link ≠ .detached
      ∧ s.thresholds.press ≤ s.water.kept.solids then s.requestPress
  else s

/-- The sum a pass forms (R117). -/
def solidsSum (travel kerf depth density carry : Nat) : Nat := travel * kerf * depth * density + carry

/-- The solids of one pass (R117). -/
def State.addSolids (s : State) (travel kerf depth density : Nat) : State :=
  let sum := solidsSum travel kerf depth density s.water.kept.solidsCarry
  let s1 := s.setKept
    { s.water.kept with
      solids := satAdd 999999 s.water.kept.solids (sum / 100000000)
      solidsCarry := sum % 100000000 }
  ((s1.enqueue waterPage).autoPress).recompute

/-! ### The plant link (R111 to R113) -/

def State.raisePlant (s : State) (e : PlantEvent) (c : Option StaleCause) : State :=
  s.raise plantSource (.plant e c s.water.link)

/-- Half the stale limit, the plant query timer's period (R110, R111). -/
def State.plantQueryPeriod (s : State) : Nat := s.settings.staleLimit / 2

/-- The link enters STALE from LIVE (R111, R113). -/
def State.enterStale (s : State) (c : StaleCause) : State :=
  let s1 := s.onWater fun w =>
    { w with link := .stale, staleTimer := none, queryTimer := some s.plantQueryPeriod }
  ((s1.decideMakeUp.stopSettleTimers).recompute).raisePlant .stale (some c)

end Sys2Proof.Machine
end

