-- ==== Sys2Proof/Machine/Reports.lean ====
section
/-! DEFINITION. The reports of the saws (R78 to R83) and of the plant (R114 to R119), what a line tells its
user (R89, R90, R113), the verdict on a frame (R58) and the bad-frame count (R59). -/

namespace Sys2Proof.Machine

/-! ### Saw reports -/

/-- An ACCEPT, PASS or FINISH is taken (R78): the state takes reports, an order is outstanding, and the cut is
the current cut of the bound plan, which is handed on with the cut. -/
def State.orderInHand (s : State) (i : Fin 4) (cut : Nat) : Option (Fin 12 × Plan × Cut) :=
  let st := s.station i
  match st.state with
  | .cutting | .holding | .paused | .faulted =>
    if st.orderOutstanding then
      (s.boundPlan i).bind fun x =>
        if x.2.cutsDone = cut then x.2.currentCut.map fun c => (x.1, x.2, c) else none
    else none
  | _ => none

/-- The ACCEPT wait stops, if it runs (R79); in HOLDING the reply timer times the hold wait and runs on. -/
def State.stopAcceptWait (s : State) (i : Fin 4) : State :=
  let st := s.station i
  if st.state = .cutting then s.setStation i { st with replyTimer := none } else s

/-- A taken frame starts the silence and query timers again in CUTTING and HOLDING (R84, R87). -/
def State.superviseAgain (s : State) (i : Fin 4) : State :=
  let st := s.station i
  match st.state with
  | .cutting => s.setStation i
      { st with
        silenceTimer := some s.settings.silenceLimit
        queryTimer := some (s.settings.silenceLimit / 2) }
  | .holding => s.setStation i
      { st with
        silenceTimer := some s.settings.silenceLimit
        queryTimer := some (s.settings.replyTimeout / 2) }
  | _ => s

/-- The plan's hardness and density, from its snapshot (R38). -/
def Plan.hardness (p : Plan) : Nat := (p.snapshot.map (fun x => x.entry.hardness)).getD 0
def Plan.density (p : Plan) : Nat := (p.snapshot.map (fun x => x.entry.density)).getD 0

/-- The depth of pass `j` of the plan (R80, R103). -/
def State.planPassDepth (s : State) (p : Plan) (j : Nat) : Nat :=
  passDepthAt (s.slabThickness p.slabTag) (p.passCount.getD 0) (p.passDepth.getD 0) j

/-- The progress count and its notice (R80 step 5, R177). -/
def State.countProgress (s : State) (i : Fin 4) (k : Fin 12) (cut passIndex : Nat) : State :=
  let interval := slot s.settings.progressInterval i
  if interval = 0 then s
  else
    let n := (s.station i).progressCount + 1
    if interval ≤ n then
      (s.setStation i { s.station i with progressCount := 0 }).raise (progressSource i)
        (.progress k cut passIndex (((s.plan k).bind (·.remainingTravel)).getD 0))
    else s.setStation i { s.station i with progressCount := n }

/-- An ACCEPT (R79). -/
def State.takeAccept (s : State) (i : Fin 4) (cut : Nat) : Option State :=
  (s.orderInHand i cut).map fun _ => s.stopAcceptWait i

/-- A PASS (R80): plan and station, wear, solids, pool, progress. -/
def State.takePass (s : State) (i : Fin 4) (cut passIndex seconds : Nat) : Option State :=
  match s.orderInHand i cut with
  | none => none
  | some (k, p, c) =>
    if passIndex = (s.station i).passesTaken + 1 ∧ p.passesReported < p.passCount.getD 0 then
      let depth := s.planPassDepth p passIndex
      let s1 := (s.stopAcceptWait i).updatePlan k (fun q => q.takePass c.travel)
      let s2 := s1.setStation i { s1.station i with passesTaken := (s1.station i).passesTaken + 1 }
      let worn := s2.passWear i c.travel depth p.hardness
      let s3 := worn.1.addSolids c.travel p.kerf depth p.density
      let s4 := s3.updatePlan k fun q =>
        (q.addPool (clamp 0 3600 seconds * slot s.settings.stationRate i)).addPool worn.2
      some (s4.countProgress i k cut passIndex)
    else none

/-- One unreported pass booked by geometry, with no saw time (R47, R81, R143). -/
def State.bookUnreported (s : State) (i : Fin 4) (k : Fin 12) (p : Plan) (travel depth : Nat) : State :=
  let worn := s.passWear i travel depth p.hardness
  (worn.1.updatePlan k (fun q => q.addPool worn.2)).addSolids travel p.kerf depth p.density

/-- The station pauses on a worn blade with cuts remaining (R81, R106). -/
def State.pauseWorn (s : State) (i : Fin 4) : State :=
  ((s.setStation i { (s.station i).stopTimers with condition := .bladeWorn }).enterState i .paused).raiseStop i

/-- What follows a FINISH (R81): the plan closes, the next order goes out, or the station pauses or stays. -/
def State.afterFinish (s : State) (i : Fin 4) (k : Fin 12) : State :=
  if s.allCutsDone k then s.closePlan i k
  else if (s.station i).state = .cutting then (if s.bladeSharp i then s.dispatch i else s.pauseWorn i)
  else s

/-- A FINISH (R81): the cut DONE at the plan, the unreported passes booked in pass order, the order over. -/
def State.takeFinish (s : State) (i : Fin 4) (cut : Nat) : Option State :=
  match s.orderInHand i cut with
  | none => none
  | some (k, p, c) =>
    let u := p.passCount.getD 0 - p.passesReported
    let depths := (List.range u).map fun j => s.planPassDepth p (p.passesReported + j + 1)
    let s1 := (s.stopAcceptWait i).updatePlan k (fun q => q.finishCut c.travel u)
    let s2 := depths.foldl (fun t d => t.bookUnreported i k p c.travel d) s1
    let s3 := s2.setStation i { s2.station i with passesTaken := 0, orderOutstanding := false }
    some (s3.afterFinish i k)

/-- A FAULT frame (R82). -/
def State.takeFault (s : State) (i : Fin 4) (code cut : Nat) : State :=
  (s.setStation i
    { s.station i with faultCode := some code, faultCut := cut, sawMode := some .fault }).faultStation i
    .sawFault

/-- READY with condition NONE, from LISTENING or from FAULTED without a plan (R72, R91). -/
def State.becomeReady (s : State) (i : Fin 4) : State :=
  (s.setStation i { (s.station i).stopTimers with condition := .none }).enterState i .ready

/-- The hold wait starts again, if it runs (R87). -/
def State.restartHoldWait (s : State) (i : Fin 4) : State :=
  let st := s.station i
  if st.replyTimer.isSome then s.setStation i { st with replyTimer := some s.settings.replyTimeout } else s

/-- What a STATE does by the station's state and the mode (R83), the record being made. `edge` is the loaded
edge of R75. -/
def State.actOnMode (s : State) (i : Fin 4) (mode : SawMode) (edge : Bool) : State :=
  let st := s.station i
  match mode with
  | .fault =>
    if st.state = .faulted then
      if st.condition = .sawFault then s else (s.setCondition i .sawFault).raiseStop i
    else s.faultStation i .sawFault
  | .cutting => if st.state = .holding then s.restartHoldWait i else s
  | .idle | .held =>
    match st.state with
    | .listening => s.becomeReady i
    | .staged => if edge then s.tryStaged i else s
    | .holding => s.pauseHeld i
    | .faulted => if st.plan.isNone then s.becomeReady i else s
    | _ => s

/-- A STATE (R83). -/
def State.takeState (s : State) (i : Fin 4) (mode : SawMode) (loaded : Bool) (passesDone : Nat) : State :=
  let st := s.station i
  let edge := st.plan.isSome && loaded && !st.tableLoaded
  (s.setStation i
    { st with
      sawMode := some mode
      tableLoaded := loaded
      sawPassesDone := passesDone
      loadedSinceStaging := st.loadedSinceStaging || edge }).actOnMode i mode edge

/-- A saw's report at the Station Controller: `none` when it is answered bad (R78 to R83). -/
def State.sawReport (s : State) (i : Fin 4) (m : Message) : Option State :=
  if (s.station i).state = .detached then none
  else match m with
    | .accept cut => s.takeAccept i cut
    | .pass cut passIndex seconds => s.takePass i cut passIndex seconds
    | .finish cut => s.takeFinish i cut
    | .state mode table passesDone =>
      (sawModeOf mode).map fun x => s.takeState i x (decide (table = 1)) passesDone
    | .fault code cut => some (s.takeFault i code cut)
    | .levels _ | .pressState _ _ => none

/-! ### Plant reports -/

/-- The fresh volume booked (R115). DEDUCED: the overhead page joins the write-back queue at the booking, before the water
page, for which R115 names no place among its steps (assumption 25). -/
def State.bookFresh (s : State) (meter : Nat) : State :=
  let v := (meter + 65536 - s.water.meterBaseline.getD meter) % 65536
  let used := satAdd 99999999 s.water.kept.periodUsed v
  let s1 := s.setKept { s.water.kept with periodUsed := used }
  let s2 := s1.bookOverhead fun o => o.bookProcess (v * s.settings.freshRate)
  let s3 := s2.onWater fun w => { w with meterBaseline := some meter }
  if used = s.water.kept.periodUsed then s3 else (s3.enqueue waterPage).testAllowance

/-- One station's draw booked: to the plan bound to it, else to the overhead process total (R116, R144). -/
def State.bookDraw (s : State) (draw : Vector Nat 4) (i : Fin 4) : State :=
  let mc := slot draw i * s.settings.waterRate
  match (s.station i).plan with
  | some k => s.updatePlan k (fun p => p.addPool mc)
  | none => s.bookOverhead fun o => o.bookProcess mc

/-- The five reported valve states of a valve byte (R190). -/
def reportedValves (b : Byte) : Vector Bool 5 := Vector.ofFn fun i => b.getLsbD i.val

/-- The levels become λ and σ (R114 step 1). -/
def State.recordLevels (s : State) (r : LevelsReport) : State :=
  s.onWater fun w => { w with clear := some (clamp 0 1000 r.clear), settling := some (clamp 0 1000 r.settling) }

/-- The meter and the draw (R114 step 2): a fresh baseline while LISTENING, else booked. -/
def State.meterAndDraw (s : State) (r : LevelsReport) : State :=
  if s.water.link = .listening then s.onWater fun w => { w with meterBaseline := some r.meter }
  else (List.finRange 4).foldl (fun t i => t.bookDraw r.draw i) (s.bookFresh r.meter)

/-- The link is LIVE and its timers start again; PLANT is raised on a return from STALE (R114 steps 3, 4). -/
def State.enterLive (s : State) (valves : Byte) : State :=
  let t := s.onWater fun w =>
    { w with
      reported := some (reportedValves valves)
      link := .live
      staleTimer := some s.settings.staleLimit
      queryTimer := some (s.settings.staleLimit / 2) }
  if s.water.link = .stale then t.raisePlant .live none else t

/-- Each of the five valves is tested (R114 step 6). -/
def State.testValves (s : State) : State := (List.finRange 5).foldl (fun t v => t.settleTest v) s

/-- A LEVELS of an attached plant, in the order of R114. -/
def State.takeLevels (s : State) (r : LevelsReport) : State :=
  (((((s.recordLevels r).meterAndDraw r).enterLive r.valves).decideMakeUp).testValves).recompute

/-- The press moves to a state; its start timer stops wherever it leaves REQUESTED (R119). -/
def State.setPress (s : State) (p : Press) : State :=
  s.onWater fun w => { w with press := p, pressTimer := if p = .requested then w.pressTimer else none }

def State.raisePress (s : State) (e : PressEvent) (cake : Option Nat) : State :=
  s.raise pressSource (.press e cake s.water.kept.solids s.water.press)

/-- G lowered by the cake of a DONE (R119). -/
def State.lowerSolids (s : State) (cake : Nat) : State :=
  ((s.setKept { s.water.kept with solids := s.water.kept.solids - cake }).enqueue waterPage).recompute

/-- A PRESS_STATE (R119): report IDLE 0, RUNNING 1, DONE 2, FAILED 3. -/
def State.takePressState (s : State) (report cake : Nat) : State :=
  match report, s.water.press with
  | 0, .running => (s.setPress .idle).raisePress .idle none
  | 0, _ => s
  | 1, .idle => s.setPress .running
  | 1, .requested => s.setPress .running
  | 1, _ => s
  | 2, .suspended => (s.lowerSolids cake).raisePress .done (some cake)
  | 2, _ => ((s.setPress .idle).lowerSolids cake).raisePress .done (some cake)
  | _, .suspended => s
  | _, _ => (s.setPress .suspended).raisePress .failed none

/-- A plant report at the Water Supervisor, which takes every one (R113). -/
def State.plantReport (s : State) (m : Message) : State :=
  match s.water.link, m with
  | .detached, _ => s
  | _, .levels r => s.takeLevels r
  | _, .pressState report cake => s.takePressState report cake
  | _, _ => s

/-! ### What a line tells its user -/

/-- LINE_NOISE at a station (R90). -/
def State.stationNoise (s : State) (i : Fin 4) : State :=
  match (s.station i).state with
  | .detached => s
  | .cutting | .holding => s.linkFault i .lineNoise
  | _ => s.raiseHalt i .lineNoise

/-- LINE_NOISE at the line's user (R59, R90, R113). -/
def State.tellNoise (s : State) (l : Fin 5) : State :=
  match s.userOf l with
  | .station i => s.stationNoise i
  | .plant => if s.water.link = .detached then s else s.raisePlant .lineNoise none

/-- BREAK at the line's user (R89, R113). -/
def State.tellBreak (s : State) (l : Fin 5) : State :=
  match s.userOf l with
  | .station i => if (s.station i).state = .detached then s else (s.forgetMode i).faultStation i .estop
  | .plant =>
    match s.water.link with
    | .detached => s
    | .live => s.enterStale .lineBreak
    | .listening | .stale => s.raisePlant .lineBreak none

/-- The end of BREAK at the line's user: a QUERY is handed (R89, R113). -/
def State.tellBreakEnd (s : State) (l : Fin 5) : State :=
  match s.userOf l with
  | .station i => s.handSaw i .query
  | .plant => s.handPlant .query

/-! ### Verdicts and counts (R58 to R60) -/

/-- A line counter rises to 65,535 and stays (R60). -/
def countUp (n : Nat) : Nat := satAdd 65535 n 1

/-- One bad frame (R59): both counts rise; at the limit LINE_NOISE is reported and the count is 0. -/
def State.badFrame (s : State) (l : Fin 5) : State :=
  let x := s.line l
  if s.settings.badFrameLimit ≤ x.badCount + 1 then
    (s.setLine l { x with badFrames := countUp x.badFrames, badCount := 0 }).tellNoise l
  else s.setLine l { x with badFrames := countUp x.badFrames, badCount := x.badCount + 1 }

/-- A taken frame (R58). -/
def State.takenFrame (s : State) (l : Fin 5) (noise : Bool) : State :=
  let x := s.line l
  s.setLine l
    { x with
      badCount := 0
      takenFrames := countUp x.takenFrames
      noisyFrames := if noise then countUp x.noisyFrames else x.noisyFrames }

/-- A stale frame (R58). -/
def State.staleFrame (s : State) (l : Fin 5) : State :=
  let x := s.line l
  s.setLine l { x with staleReports := countUp x.staleReports }

/-- A frame of right sum and direction on a line (R57, R58): its kind must be one the line's user sends and
its coded fields defined; a stale one is dropped; the user's verdict decides the rest. A disabled line and
one in BREAK take no frame (R50, R54). -/
def State.receive (s : State) (l : Fin 5) (noise toggle : Bool) (m : Message) : State :=
  if ¬(s.line l).enabled ∨ (s.line l).inBreak then s
  else match s.userOf l with
    | .station i =>
      if ¬(m.fromSaw ∧ m.codedFieldsDefined) then s.badFrame l
      else if m.answersOrder ∧ toggle ≠ (s.station i).toggle then s.staleFrame l
      else match s.sawReport i m with
        | none => s.badFrame l
        | some t => (t.superviseAgain i).takenFrame l noise
    | .plant =>
      if m.fromSaw ∨ ¬m.codedFieldsDefined then s.badFrame l
      else (s.plantReport m).takenFrame l noise

/-! ### Commands -/

def execAccept (l : Fin 5) (noise toggle : Bool) (cut : Nat) (s : State) :
    Host.Outcome State Fault Refusal :=
  .next (s.receive l noise toggle (.accept cut))

def execPass (l : Fin 5) (noise toggle : Bool) (cut passIndex seconds : Nat) (s : State) :
    Host.Outcome State Fault Refusal :=
  .next (s.receive l noise toggle (.pass cut passIndex seconds))

def execFinish (l : Fin 5) (noise toggle : Bool) (cut : Nat) (s : State) :
    Host.Outcome State Fault Refusal :=
  .next (s.receive l noise toggle (.finish cut))

def execState (l : Fin 5) (noise toggle : Bool) (mode table passesDone : Nat) (s : State) :
    Host.Outcome State Fault Refusal :=
  .next (s.receive l noise toggle (.state mode table passesDone))

def execFault (l : Fin 5) (noise toggle : Bool) (code cut : Nat) (s : State) :
    Host.Outcome State Fault Refusal :=
  .next (s.receive l noise toggle (.fault code cut))

def execLevels (l : Fin 5) (noise toggle : Bool) (report : LevelsReport) (s : State) :
    Host.Outcome State Fault Refusal :=
  .next (s.receive l noise toggle (.levels report))

def execPressState (l : Fin 5) (noise toggle : Bool) (report cake : Nat) (s : State) :
    Host.Outcome State Fault Refusal :=
  .next (s.receive l noise toggle (.pressState report cake))

end Sys2Proof.Machine
end

