-- ==== Sys2Proof/Machine/LineEvents.lean ====
section
/-! DEFINITION. Receiving on a station line (3.2, 3.3): start bits and characters decided from their samples,
break characters and BREAK, the gap timer and the frame assembler. -/

namespace Sys2Proof.Machine

/-! ### The frame assembler (R56) -/

def State.setAssembler (s : State) (l : Fin 5) (a : Assembler) : State :=
  s.setLine l { s.line l with assembler := a }

/-- A frame complete by its length byte: its 3 + n characters are taken (R56). -/
def frameComplete (bs : List Byte) : Bool :=
  match bs with
  | _ :: n :: _ => decide (bs.length = 3 + n.toNat)
  | _ => false

/-- The second character is a length byte above 24 (R56). -/
def lengthTooLong (bs : List Byte) : Bool :=
  match bs with
  | [_, n] => decide (24 < n.toNat)
  | _ => false

/-- A complete frame is judged on its content (R57) and handed on (R58). -/
def State.judge (s : State) (l : Fin 5) (bs : List Byte) (noise : Bool) : State :=
  match decodeFrame bs with
  | none => s.badFrame l
  | some (toggle, m) => s.receive l noise toggle m

/-- The assembler goes to DISCARDING and one bad frame is counted (R56). -/
def State.discardFrame (s : State) (l : Fin 5) : State := (s.setAssembler l .discarding).badFrame l

/-- A character without a framing error joins the frame in assembly (R56). -/
def State.extendFrame (s : State) (l : Fin 5) (bs : List Byte) (noise : Bool) : State :=
  if lengthTooLong bs then s.discardFrame l
  else if frameComplete bs then (s.setAssembler l .separating).judge l bs noise
  else s.setAssembler l (.assembling bs noise)

/-- A decided character at the assembler (R56). -/
def State.assemble (s : State) (l : Fin 5) (b : Byte) (framing noise : Bool) : State :=
  match (s.line l).assembler with
  | .settling => s
  | .ready => if framing then s.discardFrame l else s.setAssembler l (.assembling [b] noise)
  | .assembling bs n =>
    if framing then s.discardFrame l else s.extendFrame l (bs ++ [b]) (n || noise)
  | .separating => s.discardFrame l
  | .discarding => s

/-- The expiry of the gap timer at the assembler (R56). -/
def State.assemblerGap (s : State) (l : Fin 5) : State :=
  match (s.line l).assembler with
  | .settling | .separating | .discarding => s.setAssembler l .ready
  | .ready => s
  | .assembling _ _ => (s.setAssembler l .ready).badFrame l

/-! ### Characters and BREAK (R53 to R55) -/

/-- BREAK begins: the gap timer does not run, a frame in assembly is thrown away, the user is told (R54 to
R56). -/
def State.beginBreak (s : State) (l : Fin 5) : State :=
  let x := s.line l
  (s.setLine l
    { x with
      inBreak := true
      gap := .stopped
      assembler := match x.assembler with
        | .assembling _ _ => .discarding
        | a => a }).tellBreak l

/-- A decided character that is no break character: it clears the break run, starts the gap timer afresh and
goes to the assembler; during BREAK neither of the last two (R54, R55). -/
def State.ordinaryCharacter (s : State) (l : Fin 5) (b : Byte) (framing noise : Bool) : State :=
  let x := s.line l
  if x.inBreak then s.setLine l { x with receiver := .startSearch, breakRun := false }
  else
    (s.setLine l { x with receiver := .startSearch, breakRun := false, gap := .running }).assemble l b
      framing noise

/-- A decided break character: in a break run it begins BREAK, else it sets the run and is a character with a
framing error for the assembler; during BREAK it reports nothing more (R53, R54). -/
def State.breakCharacter (s : State) (l : Fin 5) (noise : Bool) : State :=
  let x := s.line l
  if x.inBreak then s.setLine l { x with receiver := .startSearch, breakRun := true }
  else if x.breakRun then (s.setLine l { x with receiver := .startSearch }).beginBreak l
  else
    (s.setLine l { x with receiver := .startSearch, breakRun := true, gap := .running }).assemble l 0 true
      noise

/-- The run of 1-samples as it stands now (R54). -/
def State.setOnesSeen (s : State) (l : Fin 5) (n : Nat) : State := s.setLine l { s.line l with onesSeen := n }

/-- A character decided at sample 9 of its stop bit, with the noise mark its start check left (R52, R53), its samples
counted to the run of 1-samples (R54); there is one only where a start bit was verified. -/
def State.decideCharacter (s : State) (l : Fin 5) (c : CharSamples) : State :=
  match (s.line l).receiver with
  | .inCharacter mark =>
    let t := s.setOnesSeen l (onesRun (s.line l).onesSeen c.samples)
    if c.isBreak then t.breakCharacter l (mark || c.noisy)
    else t.ordinaryCharacter l c.byte c.framing (mark || c.noisy)
  | .search _ _ | .startCheck _ => s

/-- 160 consecutive 0-samples of the search: a further break character (R53). -/
def State.zeroRun (s : State) (l : Fin 5) : State := (s.setOnesSeen l 0).breakCharacter l false

/-- 160 consecutive one-samples seen, the last of them in the search: the break run clears; BREAK ends with the gap timer expired and the
assembler READY, and the user is told (R54 to R56). -/
def State.idleRun (s : State) (l : Fin 5) : State :=
  let x := s.line l
  if x.inBreak then
    (s.setLine l
      { x with
        receiver := .search 4 0, onesSeen := 160, breakRun := false, inBreak := false, gap := .expired
        assembler := .ready }).tellBreakEnd l
  else s.setLine l { x with receiver := .search 4 0, onesSeen := 160, breakRun := false }

/-! ### The start search and the start check, sample by sample (R52 to R54) -/

/-- The receiver behind a sample, with the run of 1-samples as the sample leaves it. -/
def State.setReceiver (s : State) (l : Fin 5) (r : Receiver) (seen : Nat) : State :=
  s.setLine l { s.line l with receiver := r, onesSeen := seen }

/-- The receiver is in its start search, where alone a run of 160 samples ends: from the start check on, a character
has at most 149 samples at 1 in a row (R53, R54). -/
def Receiver.searching : Receiver → Bool
  | .search _ _ => true
  | .startCheck _ | .inCharacter _ => false

/-- A start bit is verified: a running gap timer stops (R52, R55). -/
def State.startVerified (s : State) (l : Fin 5) (mark : Bool) (seen : Nat) : State :=
  let x := s.line l
  s.setLine l
    { x with receiver := .inCharacter mark, onesSeen := seen, gap := if x.gap = .running then .stopped else x.gap }

/-- The start check at sample 5 of the start bit (R52): two or three of samples 3, 4 and 5 at 0 verify it, with a
noise mark unless all three are; fewer make a false start, which reaches nothing. -/
def State.judgeStart (s : State) (l : Fin 5) (samples : List Bool) (seen : Nat) : State :=
  let low := (samples.drop 2).count false
  if 2 ≤ low then s.startVerified l (decide (low ≠ 3)) seen else s.setReceiver l .startSearch seen

/-- A 1-sample of the search: it ends a run of 0-samples and counts toward the four needed, and the 160th seen in a
row is an idle run (R52 to R54). -/
def State.searchOne (s : State) (l : Fin 5) (ones : Nat) : State :=
  if (s.line l).onesSeen = 159 then s.idleRun l
  else s.setReceiver l (.search (min 4 (ones + 1)) 0) (onesOn (s.line l).onesSeen true)

/-- A 0-sample of the search: behind four 1-samples it is sample 1 of a start bit; else it is counted, and the 160th
in a row is a break character (R52, R53). -/
def State.searchZero (s : State) (l : Fin 5) (ones zeros : Nat) : State :=
  if 4 ≤ ones then s.setReceiver l (.startCheck [false]) 0
  else if zeros + 1 < 160 then s.setReceiver l (.search 0 (zeros + 1)) 0
  else s.zeroRun l

/-- One sample of LRXn in the start search or the start check (R52, R53). The samples of a character come with it,
as CHARACTER's operand. -/
def State.takeSample (s : State) (l : Fin 5) (x : Bool) : State :=
  match (s.line l).receiver with
  | .search ones zeros => if x then s.searchOne l ones else s.searchZero l ones zeros
  | .startCheck samples =>
    let seen := onesOn (s.line l).onesSeen x
    if samples.length < 4 then s.setReceiver l (.startCheck (samples ++ [x])) seen
    else s.judgeStart l (samples ++ [x]) seen
  | .inCharacter _ => s

def State.takeSamples (s : State) (l : Fin 5) (samples : List Bool) : State :=
  samples.foldl (fun t x => t.takeSample l x) s

/-! ### Commands; a disabled line ignores its receive pin (R50)

BREAK_CHARACTER and IDLE_RUN are the 160th sample of their run (R53, R54). -/

def execCharacter (l : Fin 5) (samples : CharSamples) (s : State) : Host.Outcome State Fault Refusal :=
  .next (if (s.line l).enabled then s.decideCharacter l samples else s)

def execBreakCharacter (l : Fin 5) (s : State) : Host.Outcome State Fault Refusal :=
  .next (if (s.line l).enabled ∧ (s.line l).receiver.searching then s.zeroRun l else s)

def execIdleRun (l : Fin 5) (s : State) : Host.Outcome State Fault Refusal :=
  .next (if (s.line l).enabled ∧ (s.line l).receiver.searching then s.idleRun l else s)

def execGapTimerExpiry (l : Fin 5) (s : State) : Host.Outcome State Fault Refusal :=
  .next
    (if (s.line l).enabled ∧ (s.line l).gap = .running then
      (s.setLine l { s.line l with gap := .expired }).assemblerGap l
    else s)

/-- The samples of LRXn since the receiver's last command, oldest first, up to sample 5 of the start bit
(assumption 7). -/
def execStartBitVerified (l : Fin 5) (samples : List Bool) (s : State) :
    Host.Outcome State Fault Refusal :=
  .next (if (s.line l).enabled then s.takeSamples l samples else s)

end Sys2Proof.Machine
end

