-- ==== Sys2Proof/Machine/Lines.lean ====
section
/-! DEFINITION. The requests on the station lines (R60, R64) and the transmitter's events (R61, R85). -/

namespace Sys2Proof.Machine

/-! ### Requests -/

/-- The kind of the frame on the wire, if any (R61). -/
def Transmitter.kind : Transmitter → Option Nat
  | .sending f => some f.message.kindCode
  | .off | .openingIdle | .separatingIdle => none

/-- The four places of the transmit queue, head first, 255 in each empty one (R189). -/
def queueKinds (q : List TxFrame) : List (Nat × Nat) :=
  [optField 1 255 (q[0]?.map (·.message.kindCode)), optField 1 255 (q[1]?.map (·.message.kindCode)),
    optField 1 255 (q[2]?.map (·.message.kindCode)), optField 1 255 (q[3]?.map (·.message.kindCode))]

/-- READ_LINE (R60). -/
def readLine (line : Nat) : Handler := fun s =>
  match index? 5 line with
  | none => refuse .badValue
  | some l =>
    let x := s.line l
    done s (leFields
      ([(1, (s.userOf l).code), (1, flagCode x.enabled), (2, if x.enabled then x.divisor else 0),
          (1, flagCode x.inBreak), (1, x.badCount)]
        ++ queueKinds x.queue
        ++ [optField 1 255 x.transmitter.kind, (2, x.takenFrames), (2, x.badFrames), (2, x.noisyFrames),
          (2, x.staleReports)]))

/-- The map a MAP_LINES gives, when every line number is 0 to 4 and no two are the same (R64). -/
def newLineMap (lines : Vector Nat 5) : Option (Vector (Fin 5) 5) :=
  if h : ∀ i : Fin 5, slot lines i < 5 then
    if lines.toList.Nodup then some (Vector.ofFn fun i => ⟨slot lines i, h i⟩) else none
  else none

/-- The user with a Line Map index is DETACHED (R64, R69, R108). -/
def State.userDetached (s : State) (u : Fin 5) : Bool :=
  match User.ofIndex u with
  | .station i => decide ((s.station i).state = .detached)
  | .plant => decide (s.water.link = .detached)

/-- MAP_LINES (R64). -/
def mapLines (lines : Vector Nat 5) : Handler := fun s =>
  match newLineMap lines with
  | none => refuse .badValue
  | some m =>
    if (List.finRange 5).all (fun u => slot m u == slot s.lineMap u || s.userDetached u) then
      done (if m = s.lineMap then s else { s with lineMap := m }.enqueue settingsPage)
        (leFields (m.toList.map (fun l => (1, l.val))))
    else refuse .wrongState

/-! ### The transmitter (R61) -/

/-- The transmitter, free with its idle time over, takes the head of the queue (R61). -/
def State.transmitStart (s : State) (l : Fin 5) : State :=
  let x := s.line l
  match x.transmitter, x.queue with
  | .openingIdle, f :: rest => s.setLine l { x with transmitter := .sending f, queue := rest }
  | .separatingIdle, f :: rest => s.setLine l { x with transmitter := .sending f, queue := rest }
  | _, _ => s

/-- The reply timer starts with the reply timeout. -/
def State.startReplyTimer (s : State) (i : Fin 4) : State :=
  s.setStation i { s.station i with replyTimer := some s.settings.replyTimeout }

/-- What a station does as its line tells it a frame has been sent (R85). -/
def State.tellSent (s : State) (i : Fin 4) (f : TxFrame) : State :=
  let st := s.station i
  match f.message with
  | .order _ =>
    if st.state = .cutting ∧ st.orderOutstanding ∧ f.toggle = st.toggle then s.startReplyTimer i else s
  | .hold => if st.state = .holding then s.startReplyTimer i else s
  | .feed _ | .query | .valves _ | .press => s

/-- The last stop bit of a frame has gone out (R61). -/
def State.frameSent (s : State) (l : Fin 5) : State :=
  let x := s.line l
  match x.transmitter with
  | .sending f =>
    let s1 := s.setLine l { x with transmitter := .separatingIdle }
    match s.userOf l with
    | .station i => s1.tellSent i f
    | .plant => s1
  | .off | .openingIdle | .separatingIdle => s

/-! ### Commands -/

def execReadLine (echo : Byte) (line : Nat) (s : State) : Host.Outcome State Fault Refusal :=
  serve (.readLine echo line) (readLine line) s

def execMapLines (echo : Byte) (lines : Vector Nat 5) (s : State) : Host.Outcome State Fault Refusal :=
  serve (.mapLines echo lines) (mapLines lines) s

def execTransmitStart (l : Fin 5) (s : State) : Host.Outcome State Fault Refusal :=
  .next (s.transmitStart l)

def execFrameSent (l : Fin 5) (s : State) : Host.Outcome State Fault Refusal := .next (s.frameSent l)

end Sys2Proof.Machine
end

