-- ==== Sys2Proof/Machine/Notices.lean ====
section
/-! DEFINITION. Chapter 10: the notice requests (R186 to R188). Raising a notice is in Machine/Ops.lean, the
NOTICE line in Machine/Flags.lean. -/

namespace Sys2Proof.Machine

def State.setSource (s : State) (src : Fin 24) (n : NoticeSource) : State :=
  { s with notices := { s.notices with sources := put s.notices.sources src n } }

def State.setFloors (s : State) (floors : List Nat) : State :=
  { s with notices := { s.notices with floors := floors } }

/-- A qualifying source at the given level (R186). -/
def State.qualifiesAt (s : State) (level : Nat) (src : Fin 24) : Bool :=
  (slot s.notices.sources src).qualifies s.floor && decide ((slot s.notices.sources src).level = level)

/-- The source NEXT_NOTICE takes (R186): the highest level, and of that level the lowest number. -/
def State.noticeChoice (s : State) : Option (Fin 24) :=
  [3, 2, 1, 0].findSome? fun level => (List.finRange 24).find? (s.qualifiesAt level)

/-- Sources pending and enabled at a level below the floor (R186). -/
def State.belowFloor (s : State) : Nat :=
  countWhere s.notices.sources fun n => n.pending.isSome && n.enabled && decide (n.level < s.floor)

/-- The floor a taken notice of level `l` pushes (R185, R186). -/
def floorPushed (l : Nat) : Option Nat := if l < 3 then some (l + 1) else none

/-- The chosen source is taken (R186): its record made absent, its floor pushed. -/
def State.takeNotice (s : State) (src : Fin 24) : State :=
  let n := slot s.notices.sources src
  (s.setSource src { n with pending := none }).setFloors
    (match floorPushed n.level with
      | none => s.notices.floors
      | some f => f :: s.notices.floors)

/-- NEXT_NOTICE (R186, 11.4). -/
def nextNotice : Handler := fun s =>
  match s.noticeChoice with
  | none => .error { code := .nothing, fields := leBytes 1 s.belowFloor }
  | some src =>
    let n := slot s.notices.sources src
    match n.pending with
    | none => .error { code := .nothing, fields := leBytes 1 s.belowFloor }
    | some p =>
      done (s.takeNotice src)
        (leFields [(1, src.val), (1, noticeKind src), (1, n.level), (1, p.count)] ++ p.detail.bytes
          ++ leFields [optField 1 255 (floorPushed n.level)])

/-- NOTICE_DONE (R187). -/
def noticeDone : Handler := fun s =>
  match s.notices.floors with
  | [] => refuse .nothingOpen
  | _ :: rest => done (s.setFloors rest) (leFields [(1, rest.head?.getD 0), (1, rest.length)])

/-- The enable and level a SET_NOTICE stores (R188): fixed for the ESTOP sources, the level clamped. -/
def NoticeSource.set (n : NoticeSource) (src : Fin 24) (enable level : Nat) : NoticeSource :=
  if src.val < 4 then { n with enabled := true, level := 3 }
  else { n with enabled := decide (enable = 1), level := clamp 0 3 level }

/-- The pending record as SET_NOTICE returns it: a present flag, the repeat count and the detail, zeros when
absent (assumption 26: R188 gives the contents and no layout). -/
def pendingBytes (p : Option PendingNotice) : List Byte :=
  match p with
  | none => List.replicate 14 0
  | some p => leFields [(1, 1), (1, p.count)] ++ p.detail.bytes

/-- SET_NOTICE (R188). -/
def setNotice (source enable level : Nat) : Handler := fun s =>
  match index? 24 source with
  | none => refuse .badValue
  | some src =>
    if 1 < enable then refuse .badValue
    else
      let n := (slot s.notices.sources src).set src enable level
      done (s.setSource src n)
        (leFields [(1, src.val), (1, flagCode n.enabled), (1, n.level)] ++ pendingBytes n.pending)

/-! ### Commands -/

def execNextNotice (echo : Byte) (s : State) : Host.Outcome State Fault Refusal :=
  serve (.nextNotice echo) nextNotice s

def execNoticeDone (echo : Byte) (s : State) : Host.Outcome State Fault Refusal :=
  serve (.noticeDone echo) noticeDone s

def execSetNotice (echo : Byte) (source enable level : Nat) (s : State) :
    Host.Outcome State Fault Refusal :=
  serve (.setNotice echo source enable level) (setNotice source enable level) s

end Sys2Proof.Machine
end

