-- ==== Sys2Proof/Machine/Retention.lean ====
section
/-! DEFINITION. Chapter 8: page images, the write unit, a write cut off by a reset, and the start-up restore. -/

namespace Sys2Proof.Machine

/-! ### Pages and the records they hold (R154) -/

/-- The record a page holds. -/
inductive PageRecord where
  | slab (n : Fin 512)
  | job (n : Fin 96)
  | overhead
  | material (c : Fin 32)
  | blade (i : Fin 4)
  | water
  | settings
  | counters
  deriving DecidableEq, Repr

/-- The page table of R154. -/
def pageRecord (p : Fin 648) : PageRecord :=
  if h : p.val < 512 then .slab ⟨p.val, h⟩
  else if h : p.val < 608 then .job ⟨p.val - 512, by omega⟩
  else if p.val = 608 then .overhead
  else if h : p.val < 641 then .material ⟨p.val - 609, by omega⟩
  else if h : p.val < 645 then .blade ⟨p.val - 641, by omega⟩
  else if p.val = 645 then .water
  else if p.val = 646 then .settings
  else .counters

def PageRecord.kind : PageRecord → RecordKind
  | .slab _ => .slab
  | .job _ => .job
  | .overhead => .overhead
  | .material _ => .material
  | .blade _ => .blade
  | .water => .water
  | .settings => .settings
  | .counters => .counters

/-- The image a page's record has now; `none` when the record is absent (R154, R156). -/
def State.imageOf (s : State) (p : Fin 648) : Option Image :=
  match pageRecord p with
  | .slab n => (s.slab n).map .slab
  | .job n => (s.job n).map .job
  | .overhead => some (.overhead s.overhead)
  | .material c => (s.material c).map .material
  | .blade i => (s.blade i).map .blade
  | .water => some (.water s.water.kept)
  | .settings => some (.settings s.settings s.lineMap)
  | .counters => some (.counters s.stock.tagCounter)

def State.page (s : State) (p : Fin 648) : Page := slot s.retention.pages p

def State.setPage (s : State) (p : Fin 648) (x : Page) : State :=
  { s with retention := { s.retention with pages := put s.retention.pages p x } }

def State.setUnsaved (s : State) (p : Fin 648) (b : Bool) : State :=
  { s with retention := { s.retention with unsaved := put s.retention.unsaved p b } }

def State.setWrite (s : State) (w : Option PageWrite) : State :=
  { s with retention := { s.retention with write := w } }

/-! ### The write unit (R156 to R160) -/

/-- The write unit may serve the queue: running, the restore over, no write in flight (R156). -/
def State.writeUnitReady (s : State) : Bool :=
  decide (s.supply = .running) && decide (s.port.status ≠ .starting) && s.retention.write.isNone

/-- The IDLE write unit takes the head of the queue and copies its record (R156). -/
def State.startPageWrite (s : State) : State :=
  match s.retention.queue with
  | [] => s
  | p :: rest =>
    if s.writeUnitReady then
      { s with retention :=
        { s.retention with
          queue := rest
          write := some
            { page := p
              image := s.imageOf p
              phase := .erasing
              retry := false
              before := s.page p } } }
    else s

/-- The erase ends (R157): the page reads blank; a full write programs, an erase-only write verifies. -/
def State.eraseEnds (s : State) : State :=
  match s.retention.write with
  | none => s
  | some w =>
    if w.phase = .erasing then
      (s.setPage w.page .blank).setWrite
        (some { w with phase := if w.image.isSome then .programming else .verifying })
    else s

/-- Programming ends (R157): the image stands in the page with its marker still erased, which is torn. -/
def State.programEnds (s : State) : State :=
  match s.retention.write with
  | none => s
  | some w =>
    if w.phase = .programming then (s.setPage w.page .torn).setWrite (some { w with phase := .verifying }) else s

/-- A write succeeds (R157, R160). -/
def State.writeSucceeds (s : State) (w : PageWrite) : State :=
  ((s.setPage w.page (match w.image with
      | none => .blank
      | some im => .valid im)).setUnsaved w.page false).setWrite none

/-- What a write given up leaves in its page (R159): a full write a torn page; an erase-only write a torn page
or, by a free value, a page that was valid as it was. -/
def PageWrite.remains (w : PageWrite) (free : Bool) : Page :=
  match w.image, w.before with
  | none, .valid im => if free then .valid im else .torn
  | _, _ => .torn

/-- The retry has failed too: the write is given up (R159). -/
def State.writeGivenUp (s : State) (w : PageWrite) : State :=
  let s1 := (s.setPage w.page (w.remains (Config.pageRemains s.freeUses))).setUnsaved w.page true
  { s1.setWrite none with freeUses := s.freeUses + 1 }.raise retentionSource
    (.retention w.page (pageRecord w.page).kind w.image.isNone)

/-- The verify ends (R157, R159). `agrees`: the image reads back as buffered, or every word reads blank for an
erase-only write; `markerSet`: the marker, programmed after the image agreed, reads as set. -/
def State.verifyEnds (s : State) (agrees markerSet : Bool) : State :=
  match s.retention.write with
  | none => s
  | some w =>
    if w.phase ≠ .verifying then s
    else if agrees && (w.image.isNone || markerSet) then s.writeSucceeds w
    else if w.retry then s.writeGivenUp w
    else s.setWrite (some { w with phase := .erasing, retry := true })

/-- The pages after a device reset cuts off the write in flight (R162). -/
def PageWrite.cutOff (w : PageWrite) (free : Bool) : Page :=
  match w.image, w.phase with
  | none, _ => if free then .blank else .torn
  | some _, .erasing => if free then .blank else .torn
  | some _, .programming => .torn
  | some im, .verifying => if free then .valid im else .torn

/-- The write in flight is stopped where it stands (R162). -/
def State.cutWrite (s : State) : State :=
  match s.retention.write with
  | none => s
  | some w =>
    { (s.setPage w.page (w.cutOff (Config.pageRemains s.freeUses))).setWrite none with
      freeUses := s.freeUses + 1 }

/-! ### Start-up restore (R163 to R166, R23, R153) -/

/-- The slab record a page gives: as written, or none (R164). -/
def Page.slab : Page → Option Slab
  | .valid (.slab r) => some r
  | _ => none

def Page.job : Page → Option Job
  | .valid (.job j) => some j
  | _ => none

def Page.material : Page → Option Material
  | .valid (.material m) => some m
  | _ => none

def Page.blade : Page → Option Blade
  | .valid (.blade b) => some b
  | _ => none

def Page.overhead : Page → Overhead
  | .valid (.overhead o) => o
  | _ => Overhead.blank

def Page.water : Page → WaterRetained
  | .valid (.water k) => k
  | _ => WaterRetained.blank

def Page.settings : Page → Settings × Vector (Fin 5) 5
  | .valid (.settings r m) => (r, m)
  | _ => (Settings.blank, defaultLineMap)

def Page.tagCounter : Page → Nat
  | .valid (.counters c) => c
  | _ => 8388608

/-- The records of a table with each that clashes with one in a lower slot taken out or altered by `lose`. -/
def settleLower {α : Type} {n : Nat} (v : Vector (Option α) n) (clash : α → α → Bool)
    (lose : α → Option α) : Vector (Option α) n :=
  Vector.ofFn fun i => (slot v i).bind fun r =>
    if (List.finRange n).any (fun j => decide (j < i) && (slot v j).any (clash r)) then lose r else some r

/-- A slab record as it comes back, no plan holding it (R23, R165). -/
def Slab.restored (r : Slab) : Slab :=
  match r.state with
  | .available => { r with holder := none }
  | .held => { r with state := .available, holder := none }
  | .cutting => { r with state := .available, holder := none, rack := none, interrupted := true }

/-- The slab records as read, no plan holding any (R165, its first step). -/
def readSlabs (pages : Vector Page 648) : Vector (Option Slab) 512 :=
  Vector.ofFn fun n => (slot pages (slabPage n)).slab.map Slab.restored

/-- The interrupted slabs: the records with the flag set behind that step, those later dropped as duplicates among
them (R165). -/
def interruptedSlabs (pages : Vector Page 648) : Nat :=
  countWhere (readSlabs pages) fun r => r.any fun x => decide (x.state = .available) && x.interrupted

/-- The slab records as read and settled (R23, R165): of one tag the lower slot, then of one position. -/
def restoredSlabs (pages : Vector Page 648) : Vector (Option Slab) 512 :=
  settleLower (settleLower (readSlabs pages) (fun a b => a.tag == b.tag) (fun _ => none))
    (fun a b => a.rack.isSome && a.rack == b.rack) (fun r => some { r with rack := none })

/-- A job record as it comes back, no designation standing (R153, R165). -/
def Job.restored (j : Job) : Job :=
  { j with lines := j.lines.map fun x => x.map fun y => { y with designated := 0 } }

/-- The job records as read and settled (R153, R165). -/
def restoredJobs (pages : Vector Page 648) : Vector (Option Job) 96 :=
  settleLower (Vector.ofFn fun n => (slot pages (jobPage n)).job.map Job.restored)
    (fun a b => a.number == b.number) (fun _ => none)

/-- The Rack Map built from the kept positions (R165). -/
def rackMapOf (slabs : Vector (Option Slab) 512) : Vector (Option Nat) 120 :=
  slabs.toList.foldl (fun m r => match r with
    | none => m
    | some r => match r.rack with
      | none => m
      | some pos => put m pos (some r.tag)) (Vector.replicate 120 none)

/-- How many of the pages' records were dropped as duplicates (R23, R153, R165). -/
def duplicatesDropped (pages : Vector Page 648) (s : State) : Nat :=
  (List.finRange 512).countP (fun n => (slot pages (slabPage n)).slab.isSome && (s.slab n).isNone)
    + (List.finRange 96).countP (fun n => (slot pages (jobPage n)).job.isSome && (s.job n).isNone)

/-- A page the restore enqueues: torn (R164), or valid with its record changed (R165). -/
def State.restoreEnqueues (s : State) (p : Fin 648) : Bool :=
  match s.page p with
  | .blank => false
  | .torn => true
  | .valid im =>
    match im with
    | .slab _ | .job _ => decide (s.imageOf p ≠ some im)
    | _ => false

/-- Every record handed to its block and settled (R163 to R165). All that has no page stands as after a device
reset, which is where the restore began. -/
def State.restoreRecords (s : State) : State :=
  let pages := s.retention.pages
  let slabs := restoredSlabs pages
  let set := (s.page settingsPage).settings
  let kept := (s.page waterPage).water
  { State.reset with
    supply := s.supply
    port := { State.reset.port with resetCause := s.port.resetCause, sdo := s.port.sdo }
    retention := { State.reset.retention with pages := pages }
    freeUses := s.freeUses
    pending := s.pending
    stock :=
      { slabs := slabs
        rackMap := rackMapOf slabs
        materials := Vector.ofFn fun c => (slot pages (materialPage c)).material
        reserved := 0
        tagCounter := (s.page countersPage).tagCounter }
    jobs := restoredJobs pages
    overhead := (s.page overheadPage).overhead
    blades := Vector.ofFn fun i => (slot pages (bladePage i)).blade
    settings := set.1
    lineMap := set.2
    water := { Water.afterReset with kept := kept, allowanceReached := kept.atAllowance }.withFactors }

/-- The end of the start-up restore (R166): pages enqueued in page order, START_UP raised, the port IDLE. -/
def State.restoreEnds (s : State) : State :=
  let s1 := s.restoreRecords
  let s2 := { s1 with retention :=
    { s1.retention with queue := (List.finRange 648).filter s1.restoreEnqueues } }
  let torn := countWhere s.retention.pages (fun x => decide (x = .torn))
  let s3 := s2.raise startUpSource
    (.startUp s.port.resetCause torn (interruptedSlabs s.retention.pages)
      (duplicatesDropped s.retention.pages s1))
  { s3 with port := { s3.port with status := .idle, before := some .starting } }

/-! ### RETENTION_STATUS (R161) -/

/-- The write unit's states in the order of R156. -/
def writeStateCode (w : Option PageWrite) : Nat :=
  match w with
  | none => 0
  | some w => match w.phase with
    | .erasing => 1
    | .programming => 2
    | .verifying => 3

/-- RETENTION_STATUS (R161). -/
def retentionStatus : Handler := fun s =>
  let r := s.retention
  done s (leFields [(2, r.queue.length), (2, countWhere r.unsaved (fun x => x)),
    optField 2 65535 ((lowest r.unsaved (fun x => x)).map (·.val)), (1, writeStateCode r.write),
    optField 2 65535 (r.write.map (·.page.val)), (1, flagCode (r.write.any (·.retry)))])

/-! ### Commands -/

def execRetentionStatus (echo : Byte) (s : State) : Host.Outcome State Fault Refusal :=
  serve (.retentionStatus echo) retentionStatus s

def execPageWriteStart (s : State) : Host.Outcome State Fault Refusal := .next s.startPageWrite

def execEraseDone (s : State) : Host.Outcome State Fault Refusal := .next s.eraseEnds

def execProgramDone (s : State) : Host.Outcome State Fault Refusal := .next s.programEnds

def execVerifyDone (agrees markerSet : Bool) (s : State) : Host.Outcome State Fault Refusal :=
  .next (s.verifyEnds agrees markerSet)

def execStartUpRestoreEnd (s : State) : Host.Outcome State Fault Refusal :=
  .next (if s.supply = .running ∧ s.port.status = .starting then s.restoreEnds else s)

end Sys2Proof.Machine
end

