-- ==== Sys2Proof/Machine/Port.lean ====
section
/-! DEFINITION. Chapter 9: supply and reset (R167, R174, R162), transfers and the judging of a request frame
(R168 to R173), the settings record (R176 to R178) and READ_DEVICE (R179). -/

namespace Sys2Proof.Machine

/-! ### Supply and reset (R162, R163, R167, R174) -/

/-- A device reset: the write in flight is cut off, the pages are kept, and everything else stands as after
reset, the supply and the cause as given. The waiting commands are the outside's and stay. -/
def State.deviceReset (s : State) (supply : Supply) (cause : ResetCause) : State :=
  let c := s.cutWrite
  { State.reset with
    supply := supply
    port := { State.reset.port with resetCause := cause }
    retention := { State.reset.retention with pages := c.retention.pages }
    freeUses := c.freeUses
    pending := s.pending }

/-- RESET_N is low. -/
def Supply.pinLow : Supply → Bool
  | .off low => low
  | .held _ => true
  | .running => false

/-- Power-on: the part runs, or is held while RESET_N is low; the cause is POWER either way (R167). -/
def State.powerOn (s : State) : State :=
  s.deviceReset (if s.supply.pinLow then .held true else .running) .power

/-- RESET_N falls (R174); without supply only the pin's level changes. -/
def State.resetAssert (s : State) : State :=
  match s.supply with
  | .running => s.deviceReset (.held false) s.port.resetCause
  | .off _ => { s with supply := .off true }
  | .held _ => s

/-- RESET_N rises (R163, R167): the start-up restore begins, and the cause is PIN unless the part was powered
on with the pin low. -/
def State.resetRelease (s : State) : State :=
  match s.supply with
  | .held true => { s with supply := .running }
  | .held false => { s with supply := .running, port := { s.port with resetCause := .pin } }
  | .off _ => { s with supply := .off false }
  | .running => s

/-- The supply is lost (R162). -/
def State.powerFails (s : State) : State :=
  match s.supply with
  | .off _ => s
  | x => s.deviceReset (.off x.pinLow) s.port.resetCause

/-! ### Transfers (R168 to R170, R173)

A transfer stands at its end, with `early` of its bytes, the operation byte first, begun before the last change of
the status that came of no transfer; none were where there was no such change since the last transfer
(assumption 8). -/

/-- A transfer ends: SDO carried the given bytes, and no later transfer meets an earlier status. -/
def State.endTransfer (s : State) (bytes : List Byte) : State :=
  { s with port := { s.port with before := none, sdo := bytes } }

/-- The status when SSEL_N fell, on which the transfer is decided (R168). -/
def Port.statusAtFall (p : Port) (early : Nat) : PortStatus :=
  if early = 0 then p.status else p.before.getD p.status

/-- The status bytes of a transfer of `n` bytes, each the status at its own start (R168). -/
def Port.statusBytes (p : Port) (early n : Nat) : List Byte :=
  List.replicate (min early n) (p.before.getD p.status).byte ++ List.replicate (n - early) p.status.byte

/-- The judgement of a request frame (R170), its four checks in order. -/
def judgeFrame (frame : List Byte) : Except ReplyCode Request :=
  match frame with
  | kind :: echo :: n0 :: n1 :: rest =>
    let n := leNat [n0, n1]
    if ¬(5 ≤ frame.length ∧ frame.length = 5 + n ∧ n ≤ 64) then .error .badLength
    else if byteSum frame ≠ 0 then .error .badCheck
    else match requestLength kind.toNat with
      | none => .error .unknownRequest
      | some m => if n = m then .ok ⟨kind, echo, rest.take n⟩ else .error .badLength
  | _ => .error .badLength

/-- The echo of a refusal: the frame's second byte as received, or 0 (R170). -/
def frameEcho (frame : List Byte) : Byte := (frame[1]?).getD 0

/-- The end of a SEND taken in IDLE (R169, R170): no frame byte changes nothing; a good frame goes into the
request buffer for service; any other is answered at once. -/
def State.takeFrame (s : State) (frame : List Byte) : State :=
  if frame.isEmpty then s
  else match judgeFrame frame with
    | .error code => s.answer (frameEcho frame) code []
    | .ok q => { s with port := { s.port with status := .working, request := some q } }

/-- What a FETCH taken in REPLY clocks out in `n` bytes: the frame from its first byte, then the fill (R173). -/
def fetchBytes (frame : List Byte) (n : Nat) : List Byte :=
  frame.take n ++ List.replicate (n - frame.length) 255

/-- The end of a FETCH taken in REPLY that clocked `n` bytes (R173). -/
def State.fetchReply (s : State) (r : Reply) (n : Nat) : State :=
  let t := s.endTransfer (PortStatus.reply.byte :: fetchBytes r.frame n)
  if r.frame.length ≤ n then { t with port := { t.port with status := .idle, reply := none } } else t

/-- The operation bytes (R189). -/
def sendOperation : Byte := 161
def fetchOperation : Byte := 162

/-- A transfer (R168): its first byte names the operation, which is decided on the status when SSEL_N fell. A SEND
in IDLE gives its further bytes to the port, a FETCH in REPLY clocks the reply out, and every other transfer
clocks out the status and changes nothing. -/
def State.transfer (s : State) (operation : Byte) (early : Nat) (bytes : List Byte) : State :=
  if ¬ s.portAlive then s
  else
    let t := s.endTransfer (s.port.statusBytes early (bytes.length + 1))
    match s.port.statusAtFall early, s.port.reply with
    | .idle, _ => if operation = sendOperation then t.takeFrame bytes else t
    | .reply, some r => if operation = fetchOperation then s.fetchReply r bytes.length else t
    | _, _ => t

/-! ### Requests of the port itself (R176 to R179) -/

/-- The settings record with every field in its range (R176). -/
def clampedSettings (r : Settings) : Settings where
  stationRate := r.stationRate.map (clamp 0 100000)
  progressInterval := r.progressInterval.map (clamp 0 15)
  replyTimeout := clamp 50 5000 r.replyTimeout
  silenceLimit := clamp 500 10000 r.silenceLimit
  feedStep := clamp 10 500 r.feedStep
  badFrameLimit := clamp 1 15 r.badFrameLimit
  rateDivisor := r.rateDivisor.map (clamp 1 4095)
  staleLimit := clamp 1000 30000 r.staleLimit
  pressStartTimeout := clamp 2000 60000 r.pressStartTimeout
  valveSettleTime := clamp 500 30000 r.valveSettleTime
  waterRate := clamp 0 100000 r.waterRate
  freshRate := clamp 0 100000 r.freshRate

/-- SET_SETTINGS (R177). -/
def setSettings (record : Settings) : Handler := fun s =>
  let r := clampedSettings record
  done (if r = s.settings then s else { s with settings := r }.enqueue settingsPage) r.bytes

/-- READ_SETTINGS (R178). -/
def readSettings : Handler := fun s =>
  done s (s.settings.bytes ++ leFields (s.lineMap.toList.map (fun l => (1, l.val))))

/-- READ_DEVICE (R179). -/
def readDevice : Handler := fun s =>
  done s (leFields [(1, s.port.resetCause.code), (1, 1), (2, s.liveSlabs), (2, s.stock.reserved),
    (1, countWhere s.plans (fun p => p.isNone)), (2, s.water.factor)])

/-! ### Commands -/

def execPowerOn (s : State) : Host.Outcome State Fault Refusal := .next s.powerOn

def execResetNAssert (s : State) : Host.Outcome State Fault Refusal := .next s.resetAssert

def execResetNRelease (s : State) : Host.Outcome State Fault Refusal := .next s.resetRelease

def execPowerFailure (s : State) : Host.Outcome State Fault Refusal := .next s.powerFails

def execSend (x : SendTransfer) (s : State) : Host.Outcome State Fault Refusal :=
  .next (s.transfer sendOperation x.early x.frame)

/-- What the host sends behind the operation byte of a FETCH is ignored (R168, R173): zeros stand for it. -/
def execFetch (x : FetchTransfer) (s : State) : Host.Outcome State Fault Refusal :=
  .next (s.transfer fetchOperation x.early (List.replicate x.clocked 0))

/-- A poll carries the operation byte it begins with: any but SEND's, and FETCH's with nothing waiting (R168). -/
def execPollTransfer (x : PollTransfer) (s : State) : Host.Outcome State Fault Refusal :=
  .next (s.transfer x.operation x.early (List.replicate x.clocked 0))

def execSetSettings (echo : Byte) (record : Settings) (s : State) : Host.Outcome State Fault Refusal :=
  serve (.setSettings echo record) (setSettings record) s

def execReadSettings (echo : Byte) (s : State) : Host.Outcome State Fault Refusal :=
  serve (.readSettings echo) readSettings s

def execReadDevice (echo : Byte) (s : State) : Host.Outcome State Fault Refusal :=
  serve (.readDevice echo) readDevice s

end Sys2Proof.Machine
end

