-- ==== Sys2Proof/Machine/Stations.lean ====
section
/-! DEFINITION. The requests on saw stations (chapter 4) with ABANDON_PLAN (R44, R97), and the stations'
timers. -/

namespace Sys2Proof.Machine

/-! ### Requests -/

/-- ATTACH_STATION (R71). -/
def attachStation (station : Nat) : Handler := fun s =>
  match index? 4 station with
  | none => refuse .badValue
  | some i =>
    let st := s.station i
    if st.state ≠ .detached then refuse .wrongState
    else
      let s1 := (s.enableLine (s.stationLine i)).setStation i
        { st with
          tableLoaded := false
          loadedSinceStaging := false
          sawMode := none
          sawPassesDone := 0
          faultCode := none
          condition := .none
          progressCount := 0
          replyTimer := some s.settings.replyTimeout }
      done ((s1.enterState i .listening).handSaw i .query) (leBytes 1 (s.stationLine i).val)

/-- DETACH_STATION (R73): the record as after a device reset but for the toggle. -/
def detachStation (station : Nat) : Handler := fun s =>
  match index? 4 station with
  | none => refuse .badValue
  | some i =>
    let st := s.station i
    if st.state = .detached ∨ st.plan.isSome then refuse .wrongState
    else
      done (((s.disableLine (s.stationLine i)).enterState i .detached).setStation i
        { Station.afterReset with toggle := st.toggle }) []

/-- START_PLAN (R74, R41, R103). -/
def startPlan (plan station : Nat) : Handler := fun s =>
  match s.planCheck plan PlanState.isLocked with
  | .error a => .error a
  | .ok (k, p) =>
    match index? 4 station with
    | none => refuse .badValue
    | some i =>
      if (s.station i).state ≠ .ready then refuse .wrongState
      else match s.blade i with
        | none => refuse .noBlade
        | some b =>
          let t := s.slabThickness p.slabTag
          if b.wearRemaining = 0 then refuse .bladeWorn
          else if p.kerf < b.kerf then refuse .kerf
          else if b.maxDepth < t then refuse .depth
          else
            let c := passCountFor t b.maxPassDepth
            let d := passDepthFor t c
            let q := p.bind i c d
            let s1 := (s.setPlan k (some q)).setStation i
              { s.station i with
                plan := some k
                loadedSinceStaging := false
                orderOutstanding := false
                passesTaken := 0
                progressCount := 0
                condition := .none }
            done (s1.enterState i .staged) (leFields [(1, c), (2, d), optField 3 16777215 q.remainingTravel])

/-- The station's state and condition, as STOP_STATION returns them (R88). -/
def Station.stateFields (st : Station) : List Byte :=
  leFields [(1, st.state.code), (1, st.condition.code)]

/-- What STOP_STATION does to a station in its state (R88). -/
def State.stop (s : State) (i : Fin 4) : State :=
  match (s.station i).state with
  | .staged => (s.setCondition i .hostStop).enterState i .paused
  | .cutting => s.holdStation i .hostStop
  | .holding => s.holdStation i .hostStop
  | .paused => if (s.station i).condition = .waterHold then s.setCondition i .hostStop else s
  | _ => s

/-- STOP_STATION (R88). -/
def stopStation (station : Nat) : Handler := fun s =>
  match index? 4 station with
  | none => refuse .badValue
  | some i =>
    match (s.station i).state with
    | .detached => refuse .wrongState
    | .listening => refuse .wrongState
    | .ready => refuse .wrongState
    | _ => done (s.stop i) ((s.stop i).station i).stateFields

/-- A station RESUME_STATION may take up: PAUSED, or FAULTED with a plan and a last mode of IDLE or HELD
(R92). -/
def Station.resumable (st : Station) : Bool :=
  match st.state with
  | .paused => true
  | .faulted => st.plan.isSome && (decide (st.sawMode = some .idle) || decide (st.sawMode = some .held))
  | _ => false

/-- The reply of RESUME_STATION (R92): the new state and, where an order was dispatched, its cut and first
pass. -/
def State.resumeFields (s : State) (i : Fin 4) : List Byte :=
  let st := s.station i
  let sent := decide (st.state = .cutting)
  leFields [(1, st.state.code), optField 1 255 (if sent then s.currentCutNumber i else none),
    optField 1 255 (if sent then some (st.passesTaken + 1) else none)]

/-- RESUME_STATION (R92). -/
def resumeStation (station : Nat) : Handler := fun s =>
  match index? 4 station with
  | none => refuse .badValue
  | some i =>
    if ¬ (s.station i).resumable then refuse .wrongState
    else if ¬ s.bladeSharp i then refuse .bladeWorn
    else if s.water.factor < s.thresholds.resume then refuse .waterHold
    else done (s.resumeStation i) ((s.resumeStation i).resumeFields i)

/-- The feed limit of R76 at the present factor; absent without a plan or with F 0 (R95). -/
def State.presentFeedLimit (s : State) (i : Fin 4) : Option Nat :=
  if s.water.factor = 0 then none else (s.boundPlan i).map fun x => s.planFeedLimit x.2

/-- Whether a timer runs, as READ_STATION codes it: running 0, stopped 1 (R95, R189). -/
def timerCode (t : Option Nat) : Nat := if t.isSome then 0 else 1

/-- READ_STATION (R95). -/
def readStation (station : Nat) : Handler := fun s =>
  match index? 4 station with
  | none => refuse .badValue
  | some i =>
    let st := s.station i
    done s (leFields [(1, st.state.code), (1, (s.stationLine i).val), optField 1 255 (st.plan.map (·.val)),
      (1, flagCode st.toggle), (1, flagCode st.orderOutstanding), (1, st.passesTaken),
      (1, flagCode st.tableLoaded), (1, flagCode st.loadedSinceStaging),
      optField 1 255 (st.sawMode.map (·.code)), (1, st.sawPassesDone), (1, st.condition.code),
      optField 1 0 st.faultCode, optField 2 0 st.lastFeedLimit, (1, st.progressCount),
      optField 2 0 (s.presentFeedLimit i), (1, flagCode (s.blade i).isSome),
      (1, timerCode st.replyTimer), (1, timerCode st.silenceTimer)])

/-- The station of a BOUND plan may let it go: it is not CUTTING or HOLDING (R44, R97). -/
def State.mayAbandon (s : State) (i : Fin 4) : Bool := !(s.station i).state.wet

/-- The records of an abandon (R44, R151, R152): pool, basis when touched, designations, reservation, slab,
plan slot. -/
def State.abandonRecords (s : State) (k : Fin 12) (p : Plan) : State :=
  let basis := ((s.slabOf p.slabTag).map (fun x => x.2.cost)).getD 0
  let s1 := s.bookPool p
  let s2 := if p.touched then s1.bookOverhead (fun o => o.bookMaterial basis) else s1
  let s3 := (s2.releaseParts p).giveBack p
  let s4 := if p.touched then s3.retireTag p.slabTag else s3.releaseSlab p.slabTag
  s4.setPlan k none

/-- ABANDON_PLAN (R44, R97). -/
def abandonPlan (plan : Nat) : Handler := fun s =>
  match s.planCheck plan PlanState.isBound with
  | .error a => .error a
  | .ok (k, p) =>
    let fields := leFields [(3, p.slabTag), (1, flagCode p.touched), (5, p.pool)]
    match p.station with
    | none => done (s.abandonRecords k p) fields
    | some i => if s.mayAbandon i then done ((s.abandonRecords k p).unbind i) fields else refuse .wrongState

/-! ### Timers (R71, R79, R84, R87) -/

/-- The reply timer expires in LISTENING (R71). -/
def State.listeningExpiry (s : State) (i : Fin 4) : State :=
  if (s.station i).state = .listening ∧ (s.station i).replyTimer.isSome then
    (s.setStation i { s.station i with replyTimer := some s.settings.replyTimeout }).handSaw i .query
  else s

/-- The reply timer expires in the ACCEPT wait (R79). -/
def State.acceptExpiry (s : State) (i : Fin 4) : State :=
  if (s.station i).state = .cutting ∧ (s.station i).replyTimer.isSome then s.linkFault i .noAccept else s

/-- The reply timer expires in the hold wait (R87). -/
def State.holdExpiry (s : State) (i : Fin 4) : State :=
  if (s.station i).state = .holding ∧ (s.station i).replyTimer.isSome then s.linkFault i .noHold else s

/-- The silence timer expires (R84). -/
def State.silenceExpiry (s : State) (i : Fin 4) : State :=
  if (s.station i).state.wet ∧ (s.station i).silenceTimer.isSome then s.linkFault i .silent else s

/-- The query timer expires: half the silence limit in CUTTING, half the reply timeout in HOLDING (R84, R87). -/
def State.queryExpiry (s : State) (i : Fin 4) : State :=
  let st := s.station i
  if st.state.wet ∧ st.queryTimer.isSome then
    let period := if st.state = .cutting then s.settings.silenceLimit / 2 else s.settings.replyTimeout / 2
    (s.setStation i { st with queryTimer := some period }).handSaw i .query
  else s

/-! ### Commands -/

def execAttachStation (echo : Byte) (station : Nat) (s : State) : Host.Outcome State Fault Refusal :=
  serve (.attachStation echo station) (attachStation station) s

def execDetachStation (echo : Byte) (station : Nat) (s : State) : Host.Outcome State Fault Refusal :=
  serve (.detachStation echo station) (detachStation station) s

def execStartPlan (echo : Byte) (plan station : Nat) (s : State) : Host.Outcome State Fault Refusal :=
  serve (.startPlan echo plan station) (startPlan plan station) s

def execStopStation (echo : Byte) (station : Nat) (s : State) : Host.Outcome State Fault Refusal :=
  serve (.stopStation echo station) (stopStation station) s

def execResumeStation (echo : Byte) (station : Nat) (s : State) : Host.Outcome State Fault Refusal :=
  serve (.resumeStation echo station) (resumeStation station) s

def execReadStation (echo : Byte) (station : Nat) (s : State) : Host.Outcome State Fault Refusal :=
  serve (.readStation echo station) (readStation station) s

def execAbandonPlan (echo : Byte) (plan : Nat) (s : State) : Host.Outcome State Fault Refusal :=
  serve (.abandonPlan echo plan) (abandonPlan plan) s

def execAcceptWaitExpiry (i : Fin 4) (s : State) : Host.Outcome State Fault Refusal := .next (s.acceptExpiry i)

def execHoldWaitExpiry (i : Fin 4) (s : State) : Host.Outcome State Fault Refusal := .next (s.holdExpiry i)

def execListeningReplyTimerExpiry (i : Fin 4) (s : State) : Host.Outcome State Fault Refusal :=
  .next (s.listeningExpiry i)

def execSilenceTimerExpiry (i : Fin 4) (s : State) : Host.Outcome State Fault Refusal :=
  .next (s.silenceExpiry i)

def execStationQueryTimerExpiry (i : Fin 4) (s : State) : Host.Outcome State Fault Refusal :=
  .next (s.queryExpiry i)

end Sys2Proof.Machine
end

