-- ==== Sys2Proof/Machine/Water.lean ====
section
/-! DEFINITION. The requests on the water loop (chapter 6) and the Water Supervisor's timers. -/

namespace Sys2Proof.Machine

/-! ### Requests -/

/-- ATTACH_PLANT (R110): the link's entry into LISTENING starts the query timer and recomputes F, which stays
0 (R111, R125). -/
def attachPlant : Handler := fun s =>
  if s.water.link ≠ .detached then refuse .wrongState
  else
    let s1 := s.enableLine s.plantLine
    let s2 := s1.onWater fun w =>
      { w with
        link := .listening
        clear := none
        settling := none
        meterBaseline := none
        reported := none
        queryTimer := some s.plantQueryPeriod }
    let s3 := (s2.handPlant (.valves s2.water.commanded)).handPlant .query
    done s3.recompute (leBytes 1 s.plantLine.val)

/-- The press as the plant is detached: REQUESTED and RUNNING return to IDLE, SUSPENDED stays (R112). -/
def Press.detached : Press → Press
  | .suspended => .suspended
  | .idle | .requested | .running => .idle

/-- DETACH_PLANT (R112), its four steps in order. -/
def detachPlant : Handler := fun s =>
  if s.water.link = .detached then refuse .wrongState
  else
    let s1 := s.disableLine s.plantLine
    let s2 := s1.onWater fun w =>
      { w with
        link := .detached
        queryTimer := none
        staleTimer := none
        settle := Vector.replicate 5 .stopped
        meterBaseline := none }
    let s3 := s2.setPress s2.water.press.detached
    done (s3.decideMakeUp).recompute []

/-- The states of the press that take a PRESS_NOW (R120). -/
def Press.takesPressNow : Press → Bool
  | .idle | .suspended => true
  | .requested | .running => false

/-- PRESS_NOW (R120). -/
def pressNow : Handler := fun s =>
  if s.water.link = .detached ∨ ¬ s.water.press.takesPressNow then refuse .wrongState
  else done s.requestPress []

/-- The water loop, the stations, their lines and the notices stand in `t` as in `s`: a request of the loop that leaves
them so has changed nothing (R175). -/
abbrev State.loopStands (s t : State) : Prop :=
  t.water = s.water ∧ t.stations = s.stations ∧ t.lines = s.lines ∧ t.notices = s.notices

/-- A request's effect with the water page enqueued first (R122, R127); one that changes nothing enqueues no page
(R175). -/
def State.withWaterPage (s : State) (effect : State → State) : State :=
  if s.loopStands (effect s) then effect s else effect (s.enqueue waterPage)

/-- A new make-up period (R122). -/
def State.newPeriod (s : State) (allowance : Option Nat) : State :=
  let s1 := s.setKept { s.water.kept with periodUsed := 0, allowance := allowance }
  let s2 := s1.onWater fun w => { w with allowanceReached := false }
  (s2.decideMakeUp).testAllowance

/-- RESET_PERIOD (R122): the allowance absent or clamped; the reply is the period that ended. -/
def resetPeriod (allowance : Nat) : Handler := fun s =>
  done (s.withWaterPage fun t => t.newPeriod ((optional 4294967295 allowance).map (clamp 0 1000000)))
    (leFields [(4, s.water.kept.periodUsed), optField 4 4294967295 s.water.kept.allowance])

/-- The threshold record with every value in its range (R109, R127). -/
def clampedThresholds (hold low fill full pressLevel slow stop resumeFactor autoPress : Nat) : Thresholds where
  hold := clamp 0 1000 hold
  low := clamp 0 1000 low
  fill := clamp 0 1000 fill
  full := clamp 0 1000 full
  press := clamp 0 999999 pressLevel
  slow := clamp 0 999999 slow
  stop := clamp 0 999999 stop
  resume := clamp 200 1000 resumeFactor
  autoPress := decide (autoPress ≠ 0)

/-- The relations SET_WATER demands (R109, R127). -/
def Thresholds.ordered (t : Thresholds) : Bool :=
  decide (t.hold < t.low ∧ t.fill < t.full ∧ t.press ≤ t.slow ∧ t.slow < t.stop)

/-- The threshold record takes effect (R127). -/
def State.applyThresholds (s : State) (t : Thresholds) : State :=
  let s1 := s.setKept { s.water.kept with thresholds := t }
  ((s1.decideMakeUp).autoPress).recomputeFrom s.thresholds.resume true

/-- SET_WATER (R127). -/
def setWater (hold low fill full pressLevel slow stop resumeFactor autoPress : Nat) : Handler := fun s =>
  let t := clampedThresholds hold low fill full pressLevel slow stop resumeFactor autoPress
  if ¬ t.ordered then refuse .badValue
  else
    let s1 := s.withWaterPage fun x => x.applyThresholds t
    done s1 (leFields (t.fields ++ [(2, s1.water.factor)]))

/-- What READ_WATER returns for a valve: commanded, reported, settle timer (R128). -/
def Water.valveFields (w : Water) (v : Fin 5) : List (Nat × Nat) :=
  [valveField (slot w.commanded v), optField 1 255 (w.reported.map fun r => flagCode (slot r v)),
    (1, (slot w.settle v).code)]

/-- READ_WATER (R128). -/
def readWater : Handler := fun s =>
  let w := s.water
  let k := w.kept
  done s (leFields
    ([(1, w.link.code), (1, s.plantLine.val), optField 2 65535 w.clear, optField 2 65535 w.settling,
        optField 3 16777215 w.meterBaseline]
      ++ (List.finRange 5).flatMap w.valveFields
      ++ [(3, k.solids), (4, k.solidsCarry), (1, w.press.code), (1, flagCode w.pressTimer.isSome),
        (4, k.periodUsed), optField 4 4294967295 k.allowance, (1, flagCode w.allowanceReached),
        (2, w.fClear), (2, w.fSettle), (2, w.fSolids), (2, w.factor)]
      ++ k.thresholds.fields))

/-! ### Timers (R111, R118, R124) -/

/-- The plant query timer expires (R111). -/
def State.plantQueryExpiry (s : State) : State :=
  if s.water.link ≠ .detached ∧ s.water.queryTimer.isSome then
    (s.onWater fun w => { w with queryTimer := some s.plantQueryPeriod }).handPlant .query
  else s

/-- The stale timer expires in LIVE (R111). -/
def State.staleExpiry (s : State) : State :=
  if s.water.link = .live ∧ s.water.staleTimer.isSome then s.enterStale .silence else s

/-- The press start timer expires in REQUESTED (R118). -/
def State.pressStartExpiry (s : State) : State :=
  if s.water.press = .requested ∧ s.water.pressTimer.isSome then
    (s.setPress .idle).raisePress .startTimeout none
  else s

/-- The station a supply valve serves; none for the make-up valve (R190). -/
def valveStation (v : Fin 5) : Option (Fin 4) := (List.finRange 4).find? fun i => supplyValve i == v

/-- The dry-cut report of a supply valve commanded OPEN and reported CLOSED (R124). -/
def State.dryCut (s : State) (v : Fin 5) (reported : Bool) : State :=
  match valveStation v with
  | none => s
  | some i => if slot s.water.commanded v ∧ ¬ reported then s.holdStation i .dryCut else s

/-- A settle timer that runs, as it does only while LIVE with a value reported, expires (R124). -/
def State.settleExpiry (s : State) (v : Fin 5) : State :=
  match slot s.water.settle v, s.water.reported with
  | .running _, some r =>
    let s1 := s.onWater fun w => { w with settle := put w.settle v .expired }
    (s1.raise valveSource (.valve v (slot s.water.commanded v) (slot r v))).dryCut v (slot r v)
  | _, _ => s

/-! ### Commands -/

def execAttachPlant (echo : Byte) (s : State) : Host.Outcome State Fault Refusal :=
  serve (.attachPlant echo) attachPlant s

def execDetachPlant (echo : Byte) (s : State) : Host.Outcome State Fault Refusal :=
  serve (.detachPlant echo) detachPlant s

def execPressNow (echo : Byte) (s : State) : Host.Outcome State Fault Refusal :=
  serve (.pressNow echo) pressNow s

def execResetPeriod (echo : Byte) (allowance : Nat) (s : State) : Host.Outcome State Fault Refusal :=
  serve (.resetPeriod echo allowance) (resetPeriod allowance) s

def execSetWater (echo : Byte) (hold low fill full pressLevel slow stop resumeFactor autoPress : Nat)
    (s : State) : Host.Outcome State Fault Refusal :=
  serve (.setWater echo hold low fill full pressLevel slow stop resumeFactor autoPress)
    (setWater hold low fill full pressLevel slow stop resumeFactor autoPress) s

def execReadWater (echo : Byte) (s : State) : Host.Outcome State Fault Refusal :=
  serve (.readWater echo) readWater s

def execPlantQueryTimerExpiry (s : State) : Host.Outcome State Fault Refusal := .next s.plantQueryExpiry

def execStaleTimerExpiry (s : State) : Host.Outcome State Fault Refusal := .next s.staleExpiry

def execPressStartTimerExpiry (s : State) : Host.Outcome State Fault Refusal := .next s.pressStartExpiry

def execSettleTimerExpiry (v : Fin 5) (s : State) : Host.Outcome State Fault Refusal :=
  .next (s.settleExpiry v)

end Sys2Proof.Machine
end

