-- ==== Sys2Proof/Machine/Dispatch.lean ====
section
/-! DEFINITION. The meaning of each command: one arm per constructor of `Instr`. -/

namespace Sys2Proof.Machine

def exec (i : Instr) (s : State) : Host.Outcome State Fault Refusal :=
  match i with
  | .powerOn => Sys2Proof.Machine.execPowerOn s
  | .resetNAssert => Sys2Proof.Machine.execResetNAssert s
  | .resetNRelease => Sys2Proof.Machine.execResetNRelease s
  | .startUpRestoreEnd => Sys2Proof.Machine.execStartUpRestoreEnd s
  | .send transfer => Sys2Proof.Machine.execSend transfer s
  | .fetch transfer => Sys2Proof.Machine.execFetch transfer s
  | .pollTransfer transfer => Sys2Proof.Machine.execPollTransfer transfer s
  | .admitSlab echo tag material length width thickness cost rack => Sys2Proof.Machine.execAdmitSlab echo tag material length width thickness cost rack s
  | .readSlab echo tag => Sys2Proof.Machine.execReadSlab echo tag s
  | .listStock echo cursor material slabState => Sys2Proof.Machine.execListStock echo cursor material slabState s
  | .findSlab echo material thickness minLength minWidth => Sys2Proof.Machine.execFindSlab echo material thickness minLength minWidth s
  | .moveSlab echo tag rack => Sys2Proof.Machine.execMoveSlab echo tag rack s
  | .amendSlab echo tag length width cost => Sys2Proof.Machine.execAmendSlab echo tag length width cost s
  | .retireSlab echo tag reason => Sys2Proof.Machine.execRetireSlab echo tag reason s
  | .setMaterial echo code veined density baseFeed minFeed hardness minRemLength minRemWidth valueFactor => Sys2Proof.Machine.execSetMaterial echo code veined density baseFeed minFeed hardness minRemLength minRemWidth valueFactor s
  | .clearMaterial echo code => Sys2Proof.Machine.execClearMaterial echo code s
  | .readMaterial echo code => Sys2Proof.Machine.execReadMaterial echo code s
  | .openPlan echo tag kerf => Sys2Proof.Machine.execOpenPlan echo tag kerf s
  | .addCut echo plan piece axis offset => Sys2Proof.Machine.execAddCut echo plan piece axis offset s
  | .undoCut echo plan => Sys2Proof.Machine.execUndoCut echo plan s
  | .markPiece echo plan piece designation job line => Sys2Proof.Machine.execMarkPiece echo plan piece designation job line s
  | .lockPlan echo plan => Sys2Proof.Machine.execLockPlan echo plan s
  | .unlockPlan echo plan => Sys2Proof.Machine.execUnlockPlan echo plan s
  | .dropPlan echo plan => Sys2Proof.Machine.execDropPlan echo plan s
  | .readPlan echo plan start => Sys2Proof.Machine.execReadPlan echo plan start s
  | .abandonPlan echo plan => Sys2Proof.Machine.execAbandonPlan echo plan s
  | .readLine echo line => Sys2Proof.Machine.execReadLine echo line s
  | .mapLines echo lines => Sys2Proof.Machine.execMapLines echo lines s
  | .attachStation echo station => Sys2Proof.Machine.execAttachStation echo station s
  | .detachStation echo station => Sys2Proof.Machine.execDetachStation echo station s
  | .startPlan echo plan station => Sys2Proof.Machine.execStartPlan echo plan station s
  | .stopStation echo station => Sys2Proof.Machine.execStopStation echo station s
  | .resumeStation echo station => Sys2Proof.Machine.execResumeStation echo station s
  | .readStation echo station => Sys2Proof.Machine.execReadStation echo station s
  | .fitBlade echo station serial kerf maxPassDepth maxDepth life costPerUnit lowMark wear => Sys2Proof.Machine.execFitBlade echo station serial kerf maxPassDepth maxDepth life costPerUnit lowMark wear s
  | .removeBlade echo station => Sys2Proof.Machine.execRemoveBlade echo station s
  | .readBlade echo station => Sys2Proof.Machine.execReadBlade echo station s
  | .attachPlant echo => Sys2Proof.Machine.execAttachPlant echo s
  | .detachPlant echo => Sys2Proof.Machine.execDetachPlant echo s
  | .pressNow echo => Sys2Proof.Machine.execPressNow echo s
  | .resetPeriod echo allowance => Sys2Proof.Machine.execResetPeriod echo allowance s
  | .setWater echo hold low fill full pressLevel slow stop resumeFactor autoPress => Sys2Proof.Machine.execSetWater echo hold low fill full pressLevel slow stop resumeFactor autoPress s
  | .readWater echo => Sys2Proof.Machine.execReadWater echo s
  | .openJob echo job => Sys2Proof.Machine.execOpenJob echo job s
  | .setLine echo job line target => Sys2Proof.Machine.execSetLine echo job line target s
  | .readJob echo job => Sys2Proof.Machine.execReadJob echo job s
  | .closeJob echo job => Sys2Proof.Machine.execCloseJob echo job s
  | .retireJob echo job => Sys2Proof.Machine.execRetireJob echo job s
  | .readOverhead echo => Sys2Proof.Machine.execReadOverhead echo s
  | .clearOverhead echo => Sys2Proof.Machine.execClearOverhead echo s
  | .retentionStatus echo => Sys2Proof.Machine.execRetentionStatus echo s
  | .setSettings echo record => Sys2Proof.Machine.execSetSettings echo record s
  | .readSettings echo => Sys2Proof.Machine.execReadSettings echo s
  | .readDevice echo => Sys2Proof.Machine.execReadDevice echo s
  | .nextNotice echo => Sys2Proof.Machine.execNextNotice echo s
  | .noticeDone echo => Sys2Proof.Machine.execNoticeDone echo s
  | .setNotice echo source enable level => Sys2Proof.Machine.execSetNotice echo source enable level s
  | .character line samples => Sys2Proof.Machine.execCharacter line samples s
  | .breakCharacter line => Sys2Proof.Machine.execBreakCharacter line s
  | .idleRun line => Sys2Proof.Machine.execIdleRun line s
  | .gapTimerExpiry line => Sys2Proof.Machine.execGapTimerExpiry line s
  | .accept line noise toggle cut => Sys2Proof.Machine.execAccept line noise toggle cut s
  | .pass line noise toggle cut passIndex seconds => Sys2Proof.Machine.execPass line noise toggle cut passIndex seconds s
  | .finish line noise toggle cut => Sys2Proof.Machine.execFinish line noise toggle cut s
  | .state line noise toggle mode table passesDone => Sys2Proof.Machine.execState line noise toggle mode table passesDone s
  | .fault line noise toggle code cut => Sys2Proof.Machine.execFault line noise toggle code cut s
  | .levels line noise toggle report => Sys2Proof.Machine.execLevels line noise toggle report s
  | .pressState line noise toggle report cake => Sys2Proof.Machine.execPressState line noise toggle report cake s
  | .transmitStart line => Sys2Proof.Machine.execTransmitStart line s
  | .frameSent line => Sys2Proof.Machine.execFrameSent line s
  | .acceptWaitExpiry station => Sys2Proof.Machine.execAcceptWaitExpiry station s
  | .holdWaitExpiry station => Sys2Proof.Machine.execHoldWaitExpiry station s
  | .listeningReplyTimerExpiry station => Sys2Proof.Machine.execListeningReplyTimerExpiry station s
  | .silenceTimerExpiry station => Sys2Proof.Machine.execSilenceTimerExpiry station s
  | .stationQueryTimerExpiry station => Sys2Proof.Machine.execStationQueryTimerExpiry station s
  | .plantQueryTimerExpiry => Sys2Proof.Machine.execPlantQueryTimerExpiry s
  | .staleTimerExpiry => Sys2Proof.Machine.execStaleTimerExpiry s
  | .pressStartTimerExpiry => Sys2Proof.Machine.execPressStartTimerExpiry s
  | .settleTimerExpiry valve => Sys2Proof.Machine.execSettleTimerExpiry valve s
  | .pageWriteStart => Sys2Proof.Machine.execPageWriteStart s
  | .eraseDone => Sys2Proof.Machine.execEraseDone s
  | .programDone => Sys2Proof.Machine.execProgramDone s
  | .verifyDone agrees markerSet => Sys2Proof.Machine.execVerifyDone agrees markerSet s
  | .startBitVerified line samples => Sys2Proof.Machine.execStartBitVerified line samples s
  | .powerFailure => Sys2Proof.Machine.execPowerFailure s

end Sys2Proof.Machine
end

