-- ==== Sys2Proof/Safety.lean ====
section
/-! DEFINITION. What a sound state is, law by law: the laws the spec states of the part, each as a property of
one state that every step is to keep. -/

namespace Sys2Proof.Machine

/-- The write-back queue never holds the same page twice (R155). -/
def State.queueLaw (s : State) : Prop := s.retention.queue.Nodup

/-- Floors rise strictly from bottom to top, and each lies in 1 to 3 (R185); the list has the top first. -/
def State.floorLaw (s : State) : Prop :=
  s.notices.floors.Pairwise (fun upper lower => lower < upper) ∧ ∀ f ∈ s.notices.floors, 1 ≤ f ∧ f ≤ 3

/-- F lies in 0 to 1000 and is 0 in every link state but LIVE; the three factors and F are those the levels, the
solids and the thresholds give (R125). -/
def State.factorLaw (s : State) : Prop :=
  s.water.factor ≤ 1000 ∧ (s.water.link ≠ .live → s.water.factor = 0) ∧ s.water.withFactors = s.water

/-- The make-up valve is commanded OPEN only while the link is LIVE and the allowance is not reached (R121). -/
def State.makeUpLaw (s : State) : Prop :=
  slot s.water.commanded makeUpValve = true → s.water.link = .live ∧ s.water.kept.atAllowance = false

/-- Each supply valve is commanded OPEN exactly while its station is CUTTING or HOLDING (R123). -/
def State.supplyValveLaw (s : State) : Prop :=
  ∀ i : Fin 4, slot s.water.commanded (supplyValve i) = (s.station i).state.wet

/-- A transmit queue holds at most one frame of each kind (R62); a disabled line sends nothing (R50). -/
def State.transmitLaw (s : State) : Prop :=
  ∀ l : Fin 5, ((s.line l).queue.map fun f => f.message.kindCode).Nodup
    ∧ ((s.line l).enabled = false → (s.line l).queue = [] ∧ (s.line l).transmitter = .off)

/-- The buffers follow the port status; the port is STARTING while the part does not run; and of the changes of the
status only those of R167 that no transfer makes are held as met within one (R167, R168, R174). -/
def State.portLaw (s : State) : Prop :=
  (s.port.status = .reply ↔ s.port.reply.isSome) ∧ (s.port.status = .working ↔ s.port.request.isSome)
    ∧ (s.supply ≠ .running → s.port.status = .starting)
    ∧ (s.port.before = none ∨ (s.port.before = some .starting ∧ s.port.status = .idle)
      ∨ (s.port.before = some .working ∧ s.port.status = .reply))

/-- Levels lie in 0 to 3, the ESTOP sources are enabled at level 3, repeat counts lie in 1 to 255 (R181). -/
def State.noticeLaw (s : State) : Prop :=
  ∀ src : Fin 24, (slot s.notices.sources src).level ≤ 3
    ∧ (src.val < 4 → (slot s.notices.sources src).enabled = true ∧ (slot s.notices.sources src).level = 3)
    ∧ ∀ p, (slot s.notices.sources src).pending = some p → 1 ≤ p.count ∧ p.count ≤ 255

/-- The bound plan a station's state demands (R69): present, absent, or either (`none`). -/
def StationState.demandsPlan : StationState → Option Bool
  | .detached | .listening | .ready => some false
  | .staged | .cutting | .holding | .paused => some true
  | .faulted => none

/-- A plan is bound in STAGED, CUTTING, HOLDING and PAUSED, and none in DETACHED, LISTENING and READY (R69). -/
def State.bindingLaw (s : State) : Prop :=
  ∀ (i : Fin 4) (b : Bool), (s.station i).state.demandsPlan = some b → (s.station i).plan.isSome = b

/-- A property of every image in the pages, the page buffer and a page content held back (R154, R156, R159). -/
def State.everyImage (s : State) (P : Image → Prop) : Prop :=
  (∀ (p : Fin 648) (im : Image), s.page p = .valid im → P im)
    ∧ ∀ w, s.retention.write = some w →
      (∀ im, w.image = some im → P im) ∧ ∀ im, w.before = .valid im → P im

/-- A settings image carries a one-to-one map; other images carry none. -/
def Image.mapOneToOne : Image → Prop
  | .settings _ m => m.toList.Nodup
  | _ => True

/-- The Line Map is a one-to-one pairing of users with lines (R64), in the block and in every image. -/
def State.lineMapLaw (s : State) : Prop := s.lineMap.toList.Nodup ∧ s.everyImage Image.mapOneToOne

/-- A threshold record in its ranges, its levels in order (R109). -/
def Thresholds.sound (t : Thresholds) : Prop :=
  (t.hold < t.low ∧ t.low ≤ 1000) ∧ (t.fill < t.full ∧ t.full ≤ 1000)
    ∧ (t.press ≤ t.slow ∧ t.slow < t.stop ∧ t.stop ≤ 999999) ∧ 200 ≤ t.resume ∧ t.resume ≤ 1000

def Image.thresholdsSound : Image → Prop
  | .water k => k.thresholds.sound
  | _ => True

/-- The thresholds lie in their ranges and keep their order (R109), in the block and in every image. -/
def State.thresholdLaw (s : State) : Prop := s.thresholds.sound ∧ s.everyImage Image.thresholdsSound

def Image.bladeInLife : Image → Prop
  | .blade b => b.wearRemaining ≤ b.fittedLife
  | _ => True

/-- Every blade's wear remaining lies between 0 and its fitted life, in the block and in every image; a station
with a bound plan has a blade fitted (R98). -/
def State.bladeLaw (s : State) : Prop :=
  (∀ i b, s.blade i = some b → b.wearRemaining ≤ b.fittedLife) ∧ s.everyImage Image.bladeInLife
    ∧ ∀ i, (s.station i).plan.isSome → (s.blade i).isSome

/-- The tags of the live records are unique (R4). -/
def State.tagLaw (s : State) : Prop :=
  ∀ n m r x, s.slab n = some r → s.slab m = some x → r.tag = x.tag → n = m

/-- Each rack position holds at most one slab, each slab has at most one position, and no CUTTING slab has a
position (R9): the Rack Map and the records agree, position by position. -/
def State.rackLaw (s : State) : Prop :=
  (∀ q tag, slot s.stock.rackMap q = some tag ↔ ∃ n r, s.slab n = some r ∧ r.rack = some q ∧ r.tag = tag)
    ∧ ∀ n r, s.slab n = some r → r.state = .cutting → r.rack = none

/-- The number of live slab records plus the reservation count never exceeds 512 (R6). -/
def State.slotLaw (s : State) : Prop := s.liveSlabs + s.stock.reserved ≤ 512

/-- A slab record is HELD or CUTTING exactly when an occupied plan slot names it, which is its holder (R5). -/
def State.holdingLaw (s : State) : Prop :=
  (∀ n r, s.slab n = some r → (r.state = .available ↔ r.holder = none)
    ∧ ∀ k, r.holder = some k → ∃ p, s.plan k = some p ∧ p.slabTag = r.tag)
    ∧ ∀ k p, s.plan k = some p → ∃ n r, s.slab n = some r ∧ r.tag = p.slabTag ∧ r.holder = some k

/-- No job is CLOSED while any of its lines has a designated count above zero (R140). -/
def State.closedJobLaw (s : State) : Prop :=
  ∀ n j k x, s.job n = some j → j.closed = true → slot j.lines k = some x → x.designated = 0

/-- Delivered plus designated never exceeds the target (R131). -/
def Job.withinTargets (j : Job) : Prop :=
  ∀ k x, slot j.lines k = some x → x.delivered + x.designated ≤ x.target

def Image.withinTargets : Image → Prop
  | .job j => j.withinTargets
  | _ => True

/-- The job line law (R131), in the block and in every image. -/
def State.jobLineLaw (s : State) : Prop :=
  (∀ n j, s.job n = some j → j.withinTargets) ∧ s.everyImage Image.withinTargets

/-- How many leaves of the plan are PARTs for line `line` of job `job` (R33). -/
def Plan.partsOf (p : Plan) (job : Nat) (line : Fin 8) : Nat :=
  p.pieces.toList.countP fun
    | .leaf _ _ d => decide (d = some (.part job line))
    | _ => false

/-- Line `k` of the live job a number names, if there is one. -/
def State.jobLine (s : State) (number : Nat) (k : Fin 8) : Option JobLine :=
  (s.jobOf number).bind fun x => slot x.2.lines k

/-- The numbers of the live jobs are unique (R130), and a job line's designated count equals the number of PART
leaves that name it across all occupied plan slots, so that no leaf names a line that is not there (R33). -/
def State.designationLaw (s : State) : Prop :=
  (∀ n m j x, s.job n = some j → s.job m = some x → j.number = x.number → n = m)
    ∧ ∀ a b, ((s.jobLine a b).map (·.designated)).getD 0
      = ((List.finRange 12).map fun k => ((s.plan k).map (·.partsOf a b)).getD 0).sum

/-- The rectangle of a LEAF or a SPLIT piece (R27). -/
def Piece.rect? : Piece → Option Rect
  | .unused => none
  | .leaf r _ _ => some r
  | .split r _ => some r

/-- The sum of the areas of the leaves whose designation passes a test (R40). -/
def Plan.sumOfLeaves (p : Plan) (test : Option Designation → Bool) : Nat :=
  (p.pieces.toList.map fun
    | .leaf r _ d => if test d then r.length * r.width else 0
    | _ => 0).sum

/-- The pieces are those the cuts make of piece 0: cut c splits its target, one of the pieces before its own, into
the pieces 2c + 1 and 2c + 2 by the geometry of R28 and the sliver rule; no piece is split twice or without a cut;
and the area law of R29 holds. -/
def Plan.wellCut (p : Plan) : Prop :=
  p.cuts.length ≤ 31
    ∧ (∀ j : Fin 64, slot p.pieces j = .unused ↔ 2 * p.cuts.length < j.val)
    ∧ (∀ j r o, slot p.pieces j = .split r o → ∃ g ∈ p.cuts, g.target = j)
    ∧ (p.cuts.map Cut.target).Nodup
    ∧ (∀ c g, p.cuts[c]? = some g → g.target.val ≤ 2 * c ∧ ∃ r o, slot p.pieces g.target = .split r o
      ∧ sliverOk g.axis p.kerf g.offset r = true
      ∧ (slot p.pieces (pieceIndex (2 * c + 1))).rect? = some (cutGeometry g.axis p.kerf g.offset r).low
      ∧ (slot p.pieces (pieceIndex (2 * c + 2))).rect? = some (cutGeometry g.axis p.kerf g.offset r).high
      ∧ g.travel = (cutGeometry g.axis p.kerf g.offset r).travel
      ∧ g.startX = (cutGeometry g.axis p.kerf g.offset r).startX
      ∧ g.startY = (cutGeometry g.axis p.kerf g.offset r).startY)
    ∧ p.sumOfLeaves (fun _ => true) + (p.cuts.map fun g => p.kerf * g.travel).sum = p.slabArea

/-- Every plan is well cut, and its piece 0 is the whole of the slab it holds, so that the areas of its leaves and
the strips of its cuts add up exactly to the area of its slab (R27, R29, R30). -/
def State.planLaw (s : State) : Prop :=
  ∀ k p, s.plan k = some p → p.wellCut ∧ ∃ n r, s.slab n = some r ∧ r.tag = p.slabTag ∧ r.holder = some k
    ∧ (slot p.pieces 0).rect? = some { x := 0, y := 0, length := r.length, width := r.width }

/-- A plan's progress in its state: the cuts DONE are those below cuts done; while BOUND there is a current cut, and
the remaining travel is the sum over the PENDING cuts of travel times pass count, less the current cut's travel
times the passes reported; while LOCKED it is the sum of the travels (R25, R41, R46). -/
def Plan.onCourse (p : Plan) : Prop :=
  (∀ c g, p.cuts[c]? = some g → (g.state = .done ↔ c < p.cutsDone))
    ∧ (p.state ≠ .bound → p.cutsDone = 0 ∧ p.passesReported = 0 ∧ p.touched = false)
    ∧ (p.state = .opened → p.passCount = none ∧ p.remainingTravel = none)
    ∧ (p.state = .locked → p.cuts ≠ [] ∧ p.passCount = some 1
      ∧ p.remainingTravel = some (p.cuts.map Cut.travel).sum)
    ∧ (p.state = .bound → ∃ count left g, p.passCount = some count ∧ p.remainingTravel = some left
      ∧ p.cuts[p.cutsDone]? = some g ∧ p.passesReported ≤ count
      ∧ left + g.travel * p.passesReported = ((p.cuts.drop p.cutsDone).map Cut.travel).sum * count)

/-- Every plan is on course; a plan is BOUND exactly to the station whose record names it, and plan and station
count the same passes of the current cut (R41, R46, R74, R80). -/
def State.progressLaw (s : State) : Prop :=
  (∀ k p, s.plan k = some p → p.onCourse
      ∧ (p.state = .bound → ∃ i, p.station = some i ∧ (s.station i).plan = some k))
    ∧ ∀ i k, (s.station i).plan = some k → ∃ p, s.plan k = some p ∧ p.state = .bound ∧ p.station = some i
      ∧ p.passesReported = (s.station i).passesTaken

/-- An order outstanding is for the first PENDING cut of the plan bound to its station, and so is an ORDER that
still waits for its line; a CUTTING station finds F above 0; and a station PAUSED by water finds it below the
resume factor (R77, R93). -/
def State.orderLaw (s : State) : Prop :=
  (∀ i, (s.station i).state = .cutting → 0 < s.water.factor)
    ∧ (∀ i, (s.station i).state = .paused → (s.station i).condition = .waterHold →
      s.water.factor < s.thresholds.resume)
    ∧ ∀ i, (s.station i).orderOutstanding = true → ∃ k p, (s.station i).plan = some k ∧ s.plan k = some p
      ∧ p.cutsDone < p.cuts.length
      ∧ ∀ f o, f ∈ (s.line (s.stationLine i)).queue → f.message = .order o →
        o.plan = k ∧ o.cut = p.cutsDone ∧ f.toggle = (s.station i).toggle

/-- All the laws together: what every state a run reaches meets. -/
structure Lawful (s : State) : Prop where
  queue : s.queueLaw
  floors : s.floorLaw
  notices : s.noticeLaw
  port : s.portLaw
  factor : s.factorLaw
  makeUp : s.makeUpLaw
  supplyValves : s.supplyValveLaw
  thresholds : s.thresholdLaw
  blades : s.bladeLaw
  transmit : s.transmitLaw
  lineMap : s.lineMapLaw
  binding : s.bindingLaw
  closedJobs : s.closedJobLaw
  jobLines : s.jobLineLaw
  designations : s.designationLaw
  tags : s.tagLaw
  rack : s.rackLaw
  slots : s.slotLaw
  holding : s.holdingLaw
  plans : s.planLaw
  progress : s.progressLaw
  orders : s.orderLaw

/-! ### The words the statements use -/

/-- A command's request is in service: the port is WORKING on it, or IDLE and takes it whole (R168, R171,
assumption 3). -/
def State.serving (s : State) (i : Instr) : Prop :=
  ∃ q, i.request? = some q
    ∧ (s.port.status = .idle ∨ (s.port.status = .working ∧ s.port.request = some q))

/-- The port with the reply of a request built and its request buffer empty, its status WORKING until then
(R167, R172). -/
def Port.replied (p : Port) (echo : Byte) (code : ReplyCode) (fields : List Byte) : Port :=
  { p with
    status := .reply, before := some .working, request := none
    reply := some { code := code, echo := echo, fields := fields } }

/-- A tag in range names the record in slot `n`, and no other live record (R4, R10). -/
def State.tagNames (s : State) (tag : Nat) (n : Fin 512) (r : Slab) : Prop :=
  1 ≤ tag ∧ tag ≤ 16777215 ∧ s.slab n = some r ∧ r.tag = tag
    ∧ ∀ m x, s.slab m = some x → x.tag = tag → m = n

/-- A job number in range names the record in slot `n`, and no other live record (R130, R136). -/
def State.jobNames (s : State) (number : Nat) (n : Fin 96) (j : Job) : Prop :=
  1 ≤ number ∧ number ≤ 65535 ∧ s.job n = some j ∧ j.number = number
    ∧ ∀ m x, s.job m = some x → x.number = number → m = n

/-- The write-back queue of `t` is that of `s` with nothing but the given pages behind it, each of them in it
(R155). -/
def State.enqueuedOnly (s t : State) (pages : List (Fin 648)) : Prop :=
  s.retention.queue <+: t.retention.queue ∧ (∀ p ∈ pages, p ∈ t.retention.queue)
    ∧ ∀ p ∈ t.retention.queue, p ∈ s.retention.queue ∨ p ∈ pages

/-- The fields of a slab block in the order of 11.4. -/
def Slab.statedFields (r : Slab) (n : Fin 512) : List (Nat × Nat) :=
  [(3, r.tag), (1, match r.kind with
      | .full => 0
      | .remnant => 1),
    (1, r.material.val), (2, r.length), (2, r.width), (2, r.thickness), (3, r.cost), (3, r.parent.getD 0),
    (1, (r.rack.map (·.val)).getD 255),
    (1, match r.state with
      | .available => 0
      | .held => 1
      | .cutting => 2),
    (1, (r.holder.map (·.val)).getD 255), (1, if r.interrupted then 1 else 0), (2, n.val)]

/-- The fields of a job line block in the order of 11.4; an absent line carries its number and zeros. -/
def JobLine.statedFields (k : Fin 8) (x : Option JobLine) : List (Nat × Nat) :=
  match x with
  | none => [(1, k.val + 1), (1, 0), (1, 0), (1, 0), (1, 0), (4, 0), (4, 0)]
  | some y => [(1, k.val + 1), (1, 1), (1, y.target), (1, y.delivered), (1, y.designated),
      (4, y.materialCents), (4, y.processCents)]

/-- The fields of a job block and its eight line blocks in the order of 11.4. -/
def Job.statedFields (j : Job) (n : Fin 96) : List (Nat × Nat) :=
  [(2, j.number), (1, n.val), (1, if j.closed then 1 else 0), (4, j.materialTotal), (4, j.processTotal),
    (1, if j.saturated then 1 else 0)] ++ (List.finRange 8).flatMap fun k => JobLine.statedFields k (slot j.lines k)

/-- What FIND_SLAB asks of a record (R14): a candidate that fits directly, or turned when unveined. -/
def Slab.findsFit (r : Slab) (c : Fin 32) (veined : Bool) (thickness minLength minWidth : Nat) : Prop :=
  r.state = .available ∧ r.interrupted = false ∧ r.material = c ∧ r.thickness = thickness
    ∧ ((minLength ≤ r.length ∧ minWidth ≤ r.width)
      ∨ (veined = false ∧ minLength ≤ r.width ∧ minWidth ≤ r.length))

/-- What the plant's line gets when valves are commanded: one VALVES with all five commands where they changed, and
nothing where they did not (R123). -/
def State.valvesSent (s t : State) : Prop :=
  t.line s.plantLine =
    { s.line s.plantLine with
      queue := if t.water.commanded ≠ s.water.commanded ∧ (s.line s.plantLine).enabled then
          queueFrame (s.line s.plantLine).queue { toggle := false, message := .valves t.water.commanded }
        else (s.line s.plantLine).queue }

/-- The outcome is a device reset from `s` with the given supply and cause (R162, R167, R174): everything as after
reset but the pages, which are kept, the page of a write in flight left as the step in hand left it. -/
def State.resetsTo (s : State) (o : Host.Outcome State Fault Refusal) (supply : Supply) (cause : ResetCause) :
    Prop :=
  ∃ t, o = .next t
    ∧ t = { State.reset with
        supply := supply
        port := { State.reset.port with resetCause := cause }
        retention := { State.reset.retention with pages := t.retention.pages }
        freeUses := t.freeUses
        pending := s.pending }
    ∧ (∀ p, (∀ w, s.retention.write = some w → w.page ≠ p) → t.page p = s.page p)
    ∧ ∀ w, s.retention.write = some w →
      (w.image = none ∨ w.phase = .erasing → t.page w.page = .blank ∨ t.page w.page = .torn)
      ∧ (w.image ≠ none → w.phase = .programming → t.page w.page = .torn)
      ∧ ∀ im, w.image = some im → w.phase = .verifying →
        t.page w.page = .torn ∨ t.page w.page = .valid im

/-- The settle timers once valve `v` is commanded `opened`: a changed command has its valve tested at once, while the
link is LIVE and the plant has reported its valves (R123, R124). -/
def Water.settleOnCommand (w : Water) (v : Fin 5) (opened : Bool) (period : Nat) : Vector SettleTimer 5 :=
  match w.link, w.reported with
  | .live, some r =>
    if slot w.commanded v = opened then w.settle
    else put w.settle v (if slot r v = opened then .stopped else match slot w.settle v with
      | .stopped => .running period
      | x => x)
  | _, _ => w.settle

/-- From `s` to `t` station `i` alone takes the record `st`, a notice with detail `d` is raised at `src`, and the
station's supply valve, if its state had opened it, is commanded CLOSED, which the plant is sent; the other
lines and all else stay (R69, R70, R123). What becomes of the station's own line is not said here. -/
def State.stopsAt (s t : State) (i : Fin 4) (st : Station) (src : Fin 24) (d : Detail) : Prop :=
  t.stations = put s.stations i st
    ∧ t.notices = { s.notices with
        sources := put s.notices.sources src ((slot s.notices.sources src).raised d) }
    ∧ t.water.commanded = (if (s.station i).state.wet then put s.water.commanded (supplyValve i) false
        else s.water.commanded)
    ∧ t.water.settle = (if (s.station i).state.wet then
          s.water.settleOnCommand (supplyValve i) false s.settings.valveSettleTime
        else s.water.settle)
    ∧ (∀ j, j ≠ s.stationLine i → s.userOf j ≠ .station i → j ≠ s.plantLine → t.line j = s.line j)
    ∧ (s.userOf s.plantLine ≠ .station i → s.plantLine ≠ s.stationLine i → s.valvesSent t)
    ∧ t = { s with
        stations := t.stations, lines := t.lines, notices := t.notices
        water := { s.water with commanded := t.water.commanded, settle := t.water.settle } }

/-- Command `e` decides a break character on line `l`: BREAK_CHARACTER in the start search, or a CHARACTER whose bits and
stop bit are all decided 0; `seen` 1-samples then stand in a row (R53, R54). -/
def State.decidesBreak (s : State) (l : Fin 5) (e : Instr) (seen : Nat) : Prop :=
  (e = .breakCharacter l ∧ (∃ ones zeros, (s.line l).receiver = .search ones zeros) ∧ seen = 0)
  ∨ ∃ mark c, e = .character l c ∧ (s.line l).receiver = .inCharacter mark ∧ c.framing = true ∧ c.byte = 0
      ∧ seen = onesRun (s.line l).onesSeen c.samples

/-- A line with one more frame taken, its bad count 0 (R58, R60). -/
def Line.counted (x : Line) (noise : Bool) : Line :=
  { x with
    badCount := 0
    takenFrames := min 65535 (x.takenFrames + 1)
    noisyFrames := if noise then min 65535 (x.noisyFrames + 1) else x.noisyFrames }

/-- What LINE_NOISE does at the user of line `l` (R90, R113): a CUTTING or HOLDING station is FAULTED with
LINE_NOISE, its last mode absent, and a QUERY is handed to its line; another attached station raises HALT alone; an
attached plant raises PLANT; a detached user does nothing. -/
def State.noiseTold (s t : State) (l : Fin 5) : Prop :=
  (∀ i, s.userOf l = .station i →
    ((s.station i).state = .detached → t = s)
    ∧ ((s.station i).state.wet = true → s.stationLine i = l → s.plantLine ≠ l →
      s.stopsAt t i
        { (s.station i).stopTimers with state := .faulted, condition := .lineNoise, sawMode := none }
        (haltSource i) (.halt .lineNoise .faulted none (s.station i).plan (s.currentCutNumber i) none)
      ∧ t.line l = { s.line l with
          queue := if (s.line l).enabled then
              queueFrame (s.line l).queue { toggle := (s.station i).toggle, message := .query }
            else (s.line l).queue })
    ∧ ((s.station i).state ≠ .detached → (s.station i).state.wet = false →
      t = { s with notices := { s.notices with
          sources := put s.notices.sources (haltSource i) ((slot s.notices.sources (haltSource i)).raised
            (.halt .lineNoise (s.station i).state none (s.station i).plan (s.currentCutNumber i) none)) } }))
  ∧ (s.userOf l = .plant → t = if s.water.link = .detached then s else
      { s with notices := { s.notices with
          sources := put s.notices.sources plantSource
            ((slot s.notices.sources plantSource).raised (.plant .lineNoise none s.water.link)) } })

/-- From `s` to `t` line `l`, else `x`, counts one bad frame more; at the limit its count is 0 and its user is told
LINE_NOISE (R59, R60). -/
def State.countsBadFrame (s t : State) (l : Fin 5) (x : Line) : Prop :=
  (x.badCount + 1 < s.settings.badFrameLimit →
    t = s.setLine l { x with badFrames := min 65535 (x.badFrames + 1), badCount := x.badCount + 1 })
  ∧ (s.settings.badFrameLimit ≤ x.badCount + 1 →
    (s.setLine l { x with badFrames := min 65535 (x.badFrames + 1), badCount := 0 }).noiseTold t l)

/-- `s`, its factor just computed, with the factor reported to the four stations in their order (DEDUCED, assumption
12) where it is no longer `old` (or always, behind a SET_WATER), and WATER raised for each crossing made (R126). -/
def State.factorTold (s : State) (old oldResume : Nat) (always : Bool) : State :=
  let changed := decide (s.water.factor ≠ old)
  let t := if changed || always then
      (((s.reportFactor changed 0).reportFactor changed 1).reportFactor changed 2).reportFactor changed 3
    else s
  let u := if 0 < old ∧ s.water.factor = 0 then t.raiseWater .fellToZero else t
  if old < oldResume ∧ s.thresholds.resume ≤ s.water.factor then u.raiseWater .reachedResume else u

/-- The plan in slot `k`, bound to station `i`, its slab `x` in slot `n`, closes from `s` to `t` (R21, R48, R96,
R147 to R150): shares booked, remnants filed in piece order, the slab retired, the slot freed, the station READY with a
flipped toggle and its supply valve CLOSED, and PLAN_DONE raised. What becomes of the station's own line, and the reply,
are not said here. -/
def State.closesPlan (s t : State) (i : Fin 4) (k : Fin 12) (p : Plan) (n : Fin 512) (x : Slab) : Prop :=
  ∃ stocked, stocked = (p.remnants x.cost).foldl (fun y a => y.createRemnant x a.1 a.2) s
    ∧ t.plans = put s.plans k none
    ∧ t.stock = { stocked.stock with slabs := put stocked.stock.slabs n none }
    ∧ t.jobs = (s.bookClose p (x.cost - ((p.remnants x.cost).map (·.2)).sum)).jobs
    ∧ t.overhead = (s.bookClose p (x.cost - ((p.remnants x.cost).map (·.2)).sum)).overhead
    ∧ t.stations = put s.stations i
        { (s.station i).stopTimers with
          state := .ready, plan := none, toggle := !(s.station i).toggle, orderOutstanding := false
          passesTaken := 0, loadedSinceStaging := false, progressCount := 0, condition := .none }
    ∧ t.notices = { s.notices with
        sources := put s.notices.sources (planDoneSource i)
          ((slot s.notices.sources (planDoneSource i)).raised (.planDone k p.slabTag)) }
    ∧ t.water.commanded = put s.water.commanded (supplyValve i)
        (slot s.water.commanded (supplyValve i) && !(s.station i).state.wet)
    ∧ t.water.settle = (if (s.station i).state.wet then
          s.water.settleOnCommand (supplyValve i) false s.settings.valveSettleTime
        else s.water.settle)
    ∧ (∀ j, j ≠ s.stationLine i → j ≠ s.plantLine → t.line j = s.line j) ∧ s.valvesSent t
    ∧ slabPage n ∈ t.retention.queue ∧ s.retention.queue <+: t.retention.queue
    ∧ t = { s with
        port := t.port, plans := t.plans, jobs := t.jobs, overhead := t.overhead, stations := t.stations
        lines := t.lines, notices := t.notices, stock := t.stock
        water := { s.water with commanded := t.water.commanded, settle := t.water.settle }
        retention := { s.retention with queue := t.retention.queue } }

end Sys2Proof.Machine
end

