-- ==== Sys2Proof/Certificates/Slice0/Obligations.lean ====
section
/-! DEFINITION. The statements for the provers, chapter by chapter. A statement of a command's effect gives the
whole next state: the fields that change, and an equation that says every other field is as it was. -/

section Statements

open Sys2Proof Sys2Proof.Machine

/-! ### Chapter 1: slab stock and materials -/

/-- R12: an ADMIT_SLAB that passes its checks files a FULL record in the lowest free slot and fills the Rack Map
at the same event; the reply's slot takes 2 bytes (the model's reading of R189, assumption 22). R12, its checks in
order, for a tag, a material and fields in range: a live tag is a DUPLICATE, a table without room is FULL, a
filled position OCCUPIED; each leaves every record as it was. -/
def Obligations.AdmitSlabFilesRecordInLowestFreeSlot : Prop :=
  (∀ (s : State) (echo : Byte) (tag length width thickness cost rack : Nat) (c : Fin 32) (m : Material)
    (n : Fin 512) (pos : Option (Fin 120)),
    s.serving (.admitSlab echo tag c.val length width thickness cost rack) →
    1 ≤ tag → tag ≤ 8388607 → s.material c = some m →
    (1000 ≤ length ∧ length ≤ 40000) → (1000 ≤ width ∧ width ≤ 24000) →
    (100 ≤ thickness ∧ thickness ≤ 600) → cost ≤ 9999999 →
    (pos = none ∧ rack = 255 ∨ ∃ p : Fin 120, pos = some p ∧ rack = p.val) →
    (∀ k r, s.slab k = some r → r.tag ≠ tag) →
    s.liveSlabs + s.stock.reserved < 512 →
    s.slab n = none → (∀ k, k < n → s.slab k ≠ none) →
    (∀ p, pos = some p → slot s.stock.rackMap p = none) →
    ∃ t, exec (.admitSlab echo tag c.val length width thickness cost rack) s = .next t
      ∧ t.slab n = some
        { tag := tag, kind := .full, material := c, length := length, width := width,
          thickness := thickness, cost := cost, parent := none, rack := pos, state := .available,
          holder := none, interrupted := false }
      ∧ (∀ k, k ≠ n → t.slab k = s.slab k)
      ∧ (∀ p, slot t.stock.rackMap p = if pos = some p then some tag else slot s.stock.rackMap p)
      ∧ s.enqueuedOnly t [slabPage n]
      ∧ t = { s with
          port := s.port.replied echo .ok (leBytes 2 n.val)
          stock := { s.stock with slabs := t.stock.slabs, rackMap := t.stock.rackMap }
          retention := { s.retention with queue := t.retention.queue } })
  ∧ (∀ (s : State) (echo : Byte) (tag length width thickness cost rack : Nat) (c : Fin 32) (m : Material)
    (pos : Option (Fin 120)),
    s.serving (.admitSlab echo tag c.val length width thickness cost rack) →
    1 ≤ tag → tag ≤ 8388607 → s.material c = some m →
    (1000 ≤ length ∧ length ≤ 40000) → (1000 ≤ width ∧ width ≤ 24000) →
    (100 ≤ thickness ∧ thickness ≤ 600) → cost ≤ 9999999 →
    (pos = none ∧ rack = 255 ∨ ∃ p : Fin 120, pos = some p ∧ rack = p.val) →
    ((∃ k r, s.slab k = some r ∧ r.tag = tag) →
      exec (.admitSlab echo tag c.val length width thickness cost rack) s
        = .next { s with port := s.port.replied echo .duplicate [] })
    ∧ ((∀ k r, s.slab k = some r → r.tag ≠ tag) → 512 ≤ s.liveSlabs + s.stock.reserved →
      exec (.admitSlab echo tag c.val length width thickness cost rack) s
        = .next { s with port := s.port.replied echo .full [] })
    ∧ ((∀ k r, s.slab k = some r → r.tag ≠ tag) → s.liveSlabs + s.stock.reserved < 512 →
      (∃ p x, pos = some p ∧ slot s.stock.rackMap p = some x) →
      exec (.admitSlab echo tag c.val length width thickness cost rack) s
        = .next { s with port := s.port.replied echo .occupied [] }))

/-- R10: a tag of 0 or above 16,777,215 is refused with BAD_VALUE and one that names no live record with NO_SUCH,
whatever else the request carries. R2, R3, R71, R73, R88, R92, R101 and R102: a material code above 31 and a
station number above 3 are refused with BAD_VALUE, whatever else the request carries. R26: every plan request but
OPEN_PLAN checks its plan number before any other field: above 11 BAD_VALUE, a free slot NO_SUCH, a state that
does not take the request (R25) WRONG_STATE. R136: SET_LINE, READ_JOB, CLOSE_JOB and RETIRE_JOB check their job
number first: 0 or above 65,535 is refused with BAD_VALUE, one in range that names no live job with NO_SUCH. -/
def Obligations.NumbersAreCheckedBeforeAnythingElse : Prop :=
  (∀ (s : State) (i : Instr) (echo : Byte) (tag : Nat),
    ((i = .readSlab echo tag) ∨ (∃ rack, i = .moveSlab echo tag rack)
      ∨ (∃ l w c, i = .amendSlab echo tag l w c) ∨ (∃ reason, i = .retireSlab echo tag reason)) →
    s.serving i →
    ((tag = 0 ∨ 16777215 < tag) → exec i s = .next { s with port := s.port.replied echo .badValue [] })
    ∧ (1 ≤ tag → tag ≤ 16777215 → (∀ k r, s.slab k = some r → r.tag ≠ tag) →
      exec i s = .next { s with port := s.port.replied echo .noSuch [] }))
  ∧ (∀ (s : State) (i : Instr) (echo : Byte) (number : Nat),
    ((31 < number ∧ ((∃ v d b f h x w q, i = .setMaterial echo number v d b f h x w q)
        ∨ (i = .clearMaterial echo number) ∨ i = .readMaterial echo number))
      ∨ (3 < number ∧ ((i = .attachStation echo number) ∨ (i = .detachStation echo number)
        ∨ (i = .stopStation echo number) ∨ (i = .resumeStation echo number)
        ∨ (i = .removeBlade echo number) ∨ i = .readBlade echo number))) →
    s.serving i → exec i s = .next { s with port := s.port.replied echo .badValue [] })
  ∧ (∀ (s : State) (i : Instr) (echo : Byte) (plan : Nat) (taken : PlanState → Prop),
    (((∃ p a o, i = .addCut echo plan p a o) ∨ (i = .undoCut echo plan)
          ∨ (∃ p d j l, i = .markPiece echo plan p d j l) ∨ (i = .lockPlan echo plan))
        ∧ taken = (· = .opened)
      ∨ ((i = .unlockPlan echo plan) ∨ (∃ st, i = .startPlan echo plan st)) ∧ taken = (· = .locked)
      ∨ (i = .dropPlan echo plan) ∧ taken = (· ≠ .bound)
      ∨ (i = .abandonPlan echo plan) ∧ taken = (· = .bound)
      ∨ (∃ st, i = .readPlan echo plan st) ∧ taken = fun _ => True) →
    s.serving i →
    (11 < plan → exec i s = .next { s with port := s.port.replied echo .badValue [] })
    ∧ ∀ k : Fin 12, plan = k.val →
      (s.plan k = none → exec i s = .next { s with port := s.port.replied echo .noSuch [] })
      ∧ ∀ p, s.plan k = some p → ¬ taken p.state →
        exec i s = .next { s with port := s.port.replied echo .wrongState [] })
  ∧ (∀ (s : State) (i : Instr) (echo : Byte) (number : Nat),
    ((∃ line target, i = .setLine echo number line target) ∨ (i = .readJob echo number)
      ∨ (i = .closeJob echo number) ∨ (i = .retireJob echo number)) →
    s.serving i →
    ((number = 0 ∨ 65535 < number) →
      exec i s = .next { s with port := s.port.replied echo .badValue [] })
    ∧ (1 ≤ number → number ≤ 65535 → (∀ n j, s.job n = some j → j.number ≠ number) →
      exec i s = .next { s with port := s.port.replied echo .noSuch [] }))

/-- R11, R13 and R3: READ_SLAB gives the record a tag names; LIST_STOCK the first match at or after the cursor, or
END; READ_MATERIAL the entry, its fields in the order of R1 (the model's reading of R189, assumption 22). None of
them changes a record. R45: READ_PLAN gives the header, the pieces from the start piece on, up to eight and none
beyond 63, and the next piece number, 255 when it passes 63; it changes nothing. A piece's job byte is 0 and its
line byte 255 where it is no PART, which is the model's choice (assumption 17). -/
def Obligations.StockAndPlanReadsChangeNothing : Prop :=
  ((∀ (s : State) (echo : Byte) (tag : Nat) (n : Fin 512) (r : Slab),
    s.serving (.readSlab echo tag) → s.tagNames tag n r →
    exec (.readSlab echo tag) s = .next { s with port := s.port.replied echo .ok (leFields (r.statedFields n)) })
  ∧ (∀ (s : State) (echo : Byte) (cursor material slabState : Nat) (n : Fin 512) (r : Slab),
    s.serving (.listStock echo cursor material slabState) →
    (material = 255 ∨ material ≤ 31) → (slabState = 255 ∨ slabState ≤ 2) → cursor ≤ n.val →
    s.slab n = some r →
    (material ≠ 255 → r.material.val = material) → (slabState ≠ 255 → r.state.code = slabState) →
    (∀ k x, cursor ≤ k.val → k < n → s.slab k = some x →
      ¬((material ≠ 255 → x.material.val = material) ∧ (slabState ≠ 255 → x.state.code = slabState))) →
    exec (.listStock echo cursor material slabState) s
      = .next { s with port := s.port.replied echo .ok (leFields (r.statedFields n ++ [(2, n.val + 1)])) })
  ∧ (∀ (s : State) (echo : Byte) (cursor material slabState : Nat),
    s.serving (.listStock echo cursor material slabState) → cursor ≤ 512 →
    (material = 255 ∨ material ≤ 31) → (slabState = 255 ∨ slabState ≤ 2) →
    (∀ k x, cursor ≤ k.val → s.slab k = some x →
      ¬((material ≠ 255 → x.material.val = material) ∧ (slabState ≠ 255 → x.state.code = slabState))) →
    exec (.listStock echo cursor material slabState) s
      = .next { s with port := s.port.replied echo .ended [] })
  ∧ ∀ (s : State) (echo : Byte) (c : Fin 32) (m : Material),
    s.serving (.readMaterial echo c.val) → s.material c = some m →
    exec (.readMaterial echo c.val) s = .next { s with port := s.port.replied echo .ok m.block })
  ∧ (∀ (s : State) (echo : Byte) (k : Fin 12) (p : Plan) (start : Nat),
    s.serving (.readPlan echo k.val start) → s.plan k = some p → start ≤ 63 →
    exec (.readPlan echo k.val start) s = .next { s with
      port := s.port.replied echo .ok (p.header
        ++ (List.range (min 8 (64 - start))).flatMap
          (fun d => (slot p.pieces (Fin.ofNat 64 (start + d))).block (start + d))
        ++ leBytes 1 (if start + 8 ≤ 63 then start + 8 else 255)) })

/-- R14: of the candidates that fit FIND_SLAB returns one of least area, then a REMNANT, then of least cost, then
of lowest slot, with DIRECT (0) or ROTATED (1); with none the reply is NONE. It changes no record. -/
def Obligations.FindSlabReturnsTheBestFit : Prop :=
  ∀ (s : State) (echo : Byte) (c : Fin 32) (m : Material) (thickness minLength minWidth : Nat),
    s.serving (.findSlab echo c.val thickness minLength minWidth) → s.material c = some m →
    (100 ≤ thickness ∧ thickness ≤ 600) → (1 ≤ minLength ∧ minLength ≤ 40000) →
    (1 ≤ minWidth ∧ minWidth ≤ 40000) →
    ((∀ k x, s.slab k = some x → ¬ x.findsFit c m.veined thickness minLength minWidth) →
      exec (.findSlab echo c.val thickness minLength minWidth) s
        = .next { s with port := s.port.replied echo .nothing [] })
    ∧ ∀ (n : Fin 512) (r : Slab), s.slab n = some r → r.findsFit c m.veined thickness minLength minWidth →
      (∀ k x, s.slab k = some x → x.findsFit c m.veined thickness minLength minWidth →
        toLex (r.length * r.width, toLex (if r.kind = .remnant then 0 else 1, toLex (r.cost, n.val)))
          ≤ toLex (x.length * x.width, toLex (if x.kind = .remnant then 0 else 1, toLex (x.cost, k.val)))) →
      exec (.findSlab echo c.val thickness minLength minWidth) s
        = .next { s with port := s.port.replied echo .ok (leFields (r.statedFields n
            ++ [(1, if minLength ≤ r.length ∧ minWidth ≤ r.width then 0 else 1)])) }

/-- R15: a MOVE_SLAB that passes its checks empties the old position, fills the new one and keeps the Rack Map in
step; to the slab's own position it changes nothing. Behind the tag check a position above 119 is refused with
BAD_VALUE, then a CUTTING record with WRONG_STATE, then a position of another slab with OCCUPIED. R16: AMEND_SLAB
of an AVAILABLE record takes the three fields and clears the interrupted flag; the page is enqueued when the
record differs (the model's reading of R22 and R175, assumption 13). Behind the tag check a field out of range is
refused with BAD_VALUE, then a record that is not AVAILABLE with WRONG_STATE. R17: RETIRE_SLAB of an AVAILABLE
record frees its slot and its position; DAMAGED (1) books the cost basis to the overhead material total,
saturating, and SOLD (0) books nothing. Behind the tag check another reason is refused with BAD_VALUE, then a
record that is not AVAILABLE with WRONG_STATE. -/
def Obligations.MoveAmendAndRetireSlab : Prop :=
  (∀ (s : State) (echo : Byte) (tag rack : Nat) (n : Fin 512) (r : Slab) (pos : Option (Fin 120)),
    s.serving (.moveSlab echo tag rack) → s.tagNames tag n r →
    (119 < rack → rack ≠ 255 →
      exec (.moveSlab echo tag rack) s = .next { s with port := s.port.replied echo .badValue [] })
    ∧ ((pos = none ∧ rack = 255 ∨ ∃ p : Fin 120, pos = some p ∧ rack = p.val) →
    (r.state = .cutting →
      exec (.moveSlab echo tag rack) s = .next { s with port := s.port.replied echo .wrongState [] })
    ∧ (r.state ≠ .cutting → (∃ p x, pos = some p ∧ slot s.stock.rackMap p = some x ∧ x ≠ tag) →
      exec (.moveSlab echo tag rack) s = .next { s with port := s.port.replied echo .occupied [] })
    ∧ (r.state ≠ .cutting → (∀ p x, pos = some p → slot s.stock.rackMap p = some x → x = tag) →
    (pos = r.rack → exec (.moveSlab echo tag rack) s = .next { s with port := s.port.replied echo .ok [] })
    ∧ (pos ≠ r.rack →
      ∃ t, exec (.moveSlab echo tag rack) s = .next t
        ∧ t.slab n = some { r with rack := pos } ∧ (∀ k, k ≠ n → t.slab k = s.slab k)
        ∧ (∀ p, slot t.stock.rackMap p =
            if pos = some p then some tag else if r.rack = some p then none else slot s.stock.rackMap p)
        ∧ s.enqueuedOnly t [slabPage n]
        ∧ t = { s with
            port := s.port.replied echo .ok []
            stock := { s.stock with slabs := t.stock.slabs, rackMap := t.stock.rackMap }
            retention := { s.retention with queue := t.retention.queue } }))))
  ∧ (∀ (s : State) (echo : Byte) (tag length width cost : Nat) (n : Fin 512) (r : Slab),
    s.serving (.amendSlab echo tag length width cost) → s.tagNames tag n r →
    (length < 1000 ∨ 40000 < length ∨ width < 1000 ∨ 24000 < width ∨ 9999999 < cost →
      exec (.amendSlab echo tag length width cost) s = .next { s with port := s.port.replied echo .badValue [] })
    ∧ ((1000 ≤ length ∧ length ≤ 40000) → (1000 ≤ width ∧ width ≤ 24000) → cost ≤ 9999999 →
    (r.state ≠ .available →
      exec (.amendSlab echo tag length width cost) s = .next { s with port := s.port.replied echo .wrongState [] })
    ∧ (r.state = .available → ∃ t a, exec (.amendSlab echo tag length width cost) s = .next t
      ∧ a = { r with length := length, width := width, cost := cost, interrupted := false }
      ∧ t.slab n = some a ∧ (∀ k, k ≠ n → t.slab k = s.slab k)
      ∧ s.enqueuedOnly t (if a = r then [] else [slabPage n])
      ∧ t = { s with
          port := s.port.replied echo .ok (leFields (a.statedFields n))
          stock := { s.stock with slabs := t.stock.slabs }
          retention := { s.retention with queue := t.retention.queue } })))
  ∧ (∀ (s : State) (echo : Byte) (tag reason : Nat) (n : Fin 512) (r : Slab),
    s.serving (.retireSlab echo tag reason) → s.tagNames tag n r →
    (1 < reason →
      exec (.retireSlab echo tag reason) s = .next { s with port := s.port.replied echo .badValue [] })
    ∧ (reason ≤ 1 → r.state ≠ .available →
      exec (.retireSlab echo tag reason) s = .next { s with port := s.port.replied echo .wrongState [] })
    ∧ (reason ≤ 1 → r.state = .available →
    ∃ t, exec (.retireSlab echo tag reason) s = .next t
      ∧ t.slab n = none ∧ (∀ k, k ≠ n → t.slab k = s.slab k)
      ∧ (∀ p, slot t.stock.rackMap p = if r.rack = some p then none else slot s.stock.rackMap p)
      ∧ t.overhead = (if reason = 1 then
          { s.overhead with
            materialTotal := min 999999999 (s.overhead.materialTotal + r.cost)
            saturated := s.overhead.saturated || decide (999999999 < s.overhead.materialTotal + r.cost) }
        else s.overhead)
      ∧ s.enqueuedOnly t (if t.overhead = s.overhead then [slabPage n] else [overheadPage, slabPage n])
      ∧ t = { s with
          port := s.port.replied echo .ok (leFields [(3, r.tag), (3, r.cost), (1, reason)])
          stock := { s.stock with slabs := t.stock.slabs, rackMap := t.stock.rackMap }
          overhead := t.overhead
          retention := { s.retention with queue := t.retention.queue } }))

/-- R2: SET_MATERIAL clamps every setting, the base feed before the minimum feed; an optional field left absent
(0, or 65,535 for the value factor) keeps its value, or takes its default on an UNDEFINED entry; the reply gives
the entry in the order of R1 (the model's reading, assumption 22), and an equal entry enqueues no page (the
model's reading of R175, assumption 13). R3: CLEAR_MATERIAL of a DEFINED entry no live record names makes it
UNDEFINED; of one that is named it is refused with IN_USE, of an UNDEFINED one with NO_SUCH. -/
def Obligations.MaterialEntriesAreSetAndCleared : Prop :=
  (∀ (s : State) (echo : Byte) (c : Fin 32)
    (veined density baseFeed minFeed hardness minRemLength minRemWidth valueFactor : Nat),
    s.serving (.setMaterial echo c.val veined density baseFeed minFeed hardness minRemLength minRemWidth
      valueFactor) →
    ∃ t m, exec (.setMaterial echo c.val veined density baseFeed minFeed hardness minRemLength minRemWidth
        valueFactor) s = .next t
      ∧ m =
        { density := max 200 (min 400 density)
          hardness := if hardness = 0 then ((s.material c).map (·.hardness)).getD 16
            else max 1 (min 32 hardness)
          veined := decide (veined ≠ 0)
          minRemLength := if minRemLength = 0 then ((s.material c).map (·.minRemLength)).getD 3000
            else max 1000 (min 40000 minRemLength)
          minRemWidth := if minRemWidth = 0 then ((s.material c).map (·.minRemWidth)).getD 3000
            else max 1000 (min 24000 minRemWidth)
          valueFactor := if valueFactor = 65535 then ((s.material c).map (·.valueFactor)).getD 192
            else min 256 valueFactor
          baseFeed := max 100 (min 4000 baseFeed)
          minFeed := max 50 (min (max 100 (min 4000 baseFeed)) minFeed) }
      ∧ t.material c = some m ∧ (∀ d, d ≠ c → t.material d = s.material d)
      ∧ s.enqueuedOnly t (if s.material c = some m then [] else [materialPage c])
      ∧ t = { s with
          port := s.port.replied echo .ok m.block
          stock := { s.stock with materials := t.stock.materials }
          retention := { s.retention with queue := t.retention.queue } })
  ∧ (∀ (s : State) (echo : Byte) (c : Fin 32), s.serving (.clearMaterial echo c.val) →
    (s.material c = none →
      exec (.clearMaterial echo c.val) s = .next { s with port := s.port.replied echo .noSuch [] })
    ∧ (s.material c ≠ none → (∃ k r, s.slab k = some r ∧ r.material = c) →
      exec (.clearMaterial echo c.val) s = .next { s with port := s.port.replied echo .inUse [] })
    ∧ (s.material c ≠ none → (∀ k r, s.slab k = some r → r.material ≠ c) →
      ∃ t, exec (.clearMaterial echo c.val) s = .next t
        ∧ t.material c = none ∧ (∀ d, d ≠ c → t.material d = s.material d)
        ∧ s.enqueuedOnly t [materialPage c]
        ∧ t = { s with
            port := s.port.replied echo .ok []
            stock := { s.stock with materials := t.stock.materials }
            retention := { s.retention with queue := t.retention.queue } }))

/-! ### Chapter 2: cut plans -/

/-- R30 and R18: an OPEN_PLAN that passes its checks takes the lowest free slot in OPEN, piece 0 the whole slab,
and the slab is HELD by it where it stands. R18 and R30, the checks of OPEN_PLAN in order: the kerf (BAD_VALUE), a
free plan slot (FULL), the tag (BAD_VALUE, NO_SUCH), the slab AVAILABLE and not interrupted (WRONG_STATE), its
material DEFINED (BAD_VALUE); no slot is taken. -/
def Obligations.OpenPlanTakesLowestSlotAndHoldsSlab : Prop :=
  (∀ (s : State) (echo : Byte) (tag kerf : Nat) (k : Fin 12) (n : Fin 512) (r : Slab) (m : Material),
    s.serving (.openPlan echo tag kerf) → 20 ≤ kerf → kerf ≤ 80 →
    s.plan k = none → (∀ j, j < k → s.plan j ≠ none) →
    s.tagNames tag n r → r.state = .available → r.interrupted = false → s.material r.material = some m →
    ∃ t, exec (.openPlan echo tag kerf) s = .next t
      ∧ t.plan k = some
        { state := .opened, slabTag := tag, kerf := kerf, station := none, snapshot := none
          pieces := Vector.ofFn fun i => if i.val = 0 then
              .leaf { x := 0, y := 0, length := r.length, width := r.width } none none else .unused
          cuts := [], cutsDone := 0, passCount := none, passDepth := none, remainingTravel := none
          passesReported := 0, touched := false, pool := 0, poolSaturated := false, reservedRemnants := 0
          yields := none }
      ∧ (∀ j, j ≠ k → t.plan j = s.plan j)
      ∧ t.slab n = some { r with state := .held, holder := some k }
      ∧ (∀ j, j ≠ n → t.slab j = s.slab j)
      ∧ s.enqueuedOnly t [slabPage n]
      ∧ t = { s with
          port := s.port.replied echo .ok (leFields [(1, k.val), (2, r.length), (2, r.width),
            (2, r.thickness), (1, r.material.val)])
          plans := t.plans
          stock := { s.stock with slabs := t.stock.slabs }
          retention := { s.retention with queue := t.retention.queue } })
  ∧ (∀ (s : State) (echo : Byte) (tag kerf : Nat) (code : ReplyCode), s.serving (.openPlan echo tag kerf) →
    (((kerf < 20 ∨ 80 < kerf) ∧ code = .badValue)
      ∨ (20 ≤ kerf ∧ kerf ≤ 80
        ∧ (((∀ k, s.plan k ≠ none) ∧ code = .full)
          ∨ ((∃ k, s.plan k = none)
            ∧ (((tag = 0 ∨ 16777215 < tag) ∧ code = .badValue)
              ∨ (1 ≤ tag ∧ tag ≤ 16777215 ∧ (∀ n r, s.slab n = some r → r.tag ≠ tag) ∧ code = .noSuch)
              ∨ ∃ n r, s.tagNames tag n r
                ∧ (((r.state ≠ .available ∨ r.interrupted = true) ∧ code = .wrongState)
                  ∨ (r.state = .available ∧ r.interrupted = false ∧ s.material r.material = none
                    ∧ code = .badValue))))))) →
    exec (.openPlan echo tag kerf) s = .next { s with port := s.port.replied echo code [] })

/-- R28 and R31: an ADD_CUT on an undesignated LEAF splits it; the low and the high child take numbers 2c + 1 and
2c + 2 with the geometry of R28, and the cut its travel and start point; the reply gives each child's origin and
dimensions as in the piece block (the model's reading of R189, assumption 22). R31, its checks behind the plan
checks, in order: the piece number, the axis and the offset in range (BAD_VALUE), a LEAF (NOT_LEAF), undesignated
(DESIGNATED), the sliver rule (SLIVER), and at most 31 cuts (FULL); each refusal leaves the plan as it was. -/
def Obligations.AddCutSplitsTheLeaf : Prop :=
  (∀ (s : State) (echo : Byte) (k : Fin 12) (p : Plan) (i : Fin 64) (offset x y l w c : Nat)
    (o : Option Origin) (axis : Axis) (low high : Rect) (cut : Cut),
    s.serving (.addCut echo k.val i.val axis.code offset) → s.plan k = some p → p.state = .opened →
    slot p.pieces i = .leaf { x := x, y := y, length := l, width := w } o none →
    offset ≤ 40000 → 200 ≤ offset →
    (axis = .rip → 200 + offset + p.kerf ≤ w) → (axis = .cross → 200 + offset + p.kerf ≤ l) →
    c = p.cuts.length → c < 31 →
    low = (if axis = .rip then { x := x, y := y, length := l, width := offset }
      else { x := x, y := y, length := offset, width := w }) →
    high = (if axis = .rip then
        { x := x, y := y + offset + p.kerf, length := l, width := w - offset - p.kerf }
      else { x := x + offset + p.kerf, y := y, length := l - offset - p.kerf, width := w }) →
    cut = { target := i, axis := axis, offset := offset, travel := if axis = .rip then l else w
            startX := if axis = .rip then x else x + offset
            startY := if axis = .rip then y + offset else y
            state := .pending } →
    ∃ t q, exec (.addCut echo k.val i.val axis.code offset) s = .next t
      ∧ t.plan k = some { p with cuts := p.cuts ++ [cut], pieces := q }
      ∧ (∀ j : Fin 64, slot q j =
          if j.val = 2 * c + 2 then .leaf high (some { parent := i.val, cut := c }) none
          else if j.val = 2 * c + 1 then .leaf low (some { parent := i.val, cut := c }) none
          else if j = i then .split { x := x, y := y, length := l, width := w } o
          else slot p.pieces j)
      ∧ (∀ j, j ≠ k → t.plan j = s.plan j)
      ∧ t = { s with
          plans := t.plans
          port := s.port.replied echo .ok (leFields [(1, c), (1, 2 * c + 1), (1, 2 * c + 2),
            (2, low.x), (2, low.y), (2, low.length), (2, low.width),
            (2, high.x), (2, high.y), (2, high.length), (2, high.width),
            (2, cut.travel), (2, cut.startX), (2, cut.startY)]) })
  ∧ (∀ (s : State) (echo : Byte) (k : Fin 12) (p : Plan) (piece axis offset : Nat) (code : ReplyCode),
    s.serving (.addCut echo k.val piece axis offset) → s.plan k = some p → p.state = .opened →
    (((63 < piece ∨ 1 < axis ∨ 40000 < offset) ∧ code = .badValue)
      ∨ ∃ i : Fin 64, piece = i.val ∧ axis ≤ 1 ∧ offset ≤ 40000
        ∧ ((slot p.pieces i = .unused ∧ code = .notLeaf)
          ∨ (∃ r o, slot p.pieces i = .split r o ∧ code = .notLeaf)
          ∨ (∃ r o d, slot p.pieces i = .leaf r o (some d) ∧ code = .designated)
          ∨ ∃ r o, slot p.pieces i = .leaf r o none
            ∧ (((offset < 200 ∨ (if axis = 0 then r.width else r.length) < offset + p.kerf + 200)
                ∧ code = .sliver)
              ∨ (200 ≤ offset ∧ offset + p.kerf + 200 ≤ (if axis = 0 then r.width else r.length)
                ∧ 31 ≤ p.cuts.length ∧ code = .full)))) →
    exec (.addCut echo k.val piece axis offset) s = .next { s with port := s.port.replied echo code [] })

/-- R29, the area law: the two children of a cut that obeys the sliver rule and the strip, kerf times travel, add
up to the piece; and each child measures at least 200 across the cut. R32: UNDO_CUT of an OPEN plan whose last cut
has no designated child makes the cut's target a LEAF again and its two pieces UNUSED; without a cut it is refused
with NO_SUCH, with a designated child with DESIGNATED. R29, R31 and R32: an UNDO_CUT right after an ADD_CUT on
pieces 2c + 1 and 2c + 2 that were UNUSED gives the plan back as it was before the cut. -/
def Obligations.CutsAreExactAndCanBeTakenBack : Prop :=
  (∀ (axis : Axis) (kerf offset : Nat) (r : Rect), sliverOk axis kerf offset r = true →
    (cutGeometry axis kerf offset r).low.area + (cutGeometry axis kerf offset r).high.area
        + kerf * (cutGeometry axis kerf offset r).travel = r.area
    ∧ (axis = .rip → 200 ≤ (cutGeometry axis kerf offset r).low.width
        ∧ 200 ≤ (cutGeometry axis kerf offset r).high.width)
    ∧ (axis = .cross → 200 ≤ (cutGeometry axis kerf offset r).low.length
        ∧ 200 ≤ (cutGeometry axis kerf offset r).high.length))
  ∧ (∀ (s : State) (echo : Byte) (k : Fin 12) (p : Plan), s.serving (.undoCut echo k.val) → s.plan k = some p →
    p.state = .opened →
    (p.cuts = [] → exec (.undoCut echo k.val) s = .next { s with port := s.port.replied echo .noSuch [] })
    ∧ ∀ (cuts : List Cut) (g : Cut) (low high : Fin 64), p.cuts = cuts ++ [g] →
      low.val = 2 * cuts.length + 1 → high.val = 2 * cuts.length + 2 →
      ((∃ r o d, slot p.pieces low = .leaf r o (some d) ∨ slot p.pieces high = .leaf r o (some d)) →
        exec (.undoCut echo k.val) s = .next { s with port := s.port.replied echo .designated [] })
      ∧ ∀ r o, (∀ x y d, slot p.pieces low ≠ .leaf x y (some d) ∧ slot p.pieces high ≠ .leaf x y (some d)) →
        g.target < low → slot p.pieces g.target = .split r o →
        ∃ t q, exec (.undoCut echo k.val) s = .next t
          ∧ (∀ j, slot q j = if j = g.target then .leaf r o none else if j = low ∨ j = high then .unused
              else slot p.pieces j)
          ∧ t = { s.setPlan k (some { p with cuts := cuts, pieces := q }) with
              port := s.port.replied echo .ok (leFields [(1, cuts.length), (1, g.target.val)]) })
  ∧ (∀ (s t : State) (echo echo' : Byte) (k : Fin 12) (p : Plan) (i : Fin 64) (offset c : Nat) (r : Rect)
    (o : Option Origin) (axis : Axis) (lowChild highChild : Fin 64),
    s.serving (.addCut echo k.val i.val axis.code offset) → s.plan k = some p → p.state = .opened →
    slot p.pieces i = .leaf r o none → c = p.cuts.length → c < 31 →
    lowChild.val = 2 * c + 1 → highChild.val = 2 * c + 2 →
    slot p.pieces lowChild = .unused → slot p.pieces highChild = .unused →
    offset ≤ 40000 → sliverOk axis p.kerf offset r = true →
    exec (.addCut echo k.val i.val axis.code offset) s = .next t →
    exec (.undoCut echo' k.val) { t with port := { t.port with status := .idle, reply := none } }
      = .next { s with port := s.port.replied echo' .ok (leFields [(1, c), (1, i.val)]) })

/-- R33 to R36: a MARK_PIECE whose new designation passes its test sets it; the designated count of the old job
line falls by one and that of the new one rises by one, no other line changes, and the page of each job so changed
is enqueued, also where the leaf keeps the designation it has (assumption 13); the reply is the piece block, its
job and line bytes by the model's layout (assumptions 17 and 22). R34 to R36: a new designation that fails its
test is refused (a REMNANT with TOO_SMALL and the piece, a PART with NO_SUCH, JOB_CLOSED or LINE_FULL) and every
record is as it stood, the old designation with it. -/
def Obligations.MarkPieceMovesOneDesignation : Prop :=
  (∀ (s : State) (echo : Byte) (k : Fin 12) (p : Plan) (i : Fin 64) (designation job line : Nat) (r : Rect)
    (o : Option Origin) (old new : Option Designation),
    s.serving (.markPiece echo k.val i.val designation job line) → s.plan k = some p → p.state = .opened →
    slot p.pieces i = .leaf r o old →
    (designation = 0 ∧ new = none ∨ designation = 2 ∧ new = some .remnant
      ∨ designation = 3 ∧ new = some .scrap
      ∨ ∃ b : Fin 8, designation = 1 ∧ 1 ≤ job ∧ job ≤ 65535 ∧ line = b.val + 1
        ∧ new = some (.part job b)) →
    (new = some .remnant → ∃ n x m, s.slabOf p.slabTag = some (n, x) ∧ s.material x.material = some m
      ∧ ((m.minRemLength ≤ r.length ∧ m.minRemWidth ≤ r.width)
        ∨ (m.veined = false ∧ m.minRemLength ≤ r.width ∧ m.minRemWidth ≤ r.length))) →
    (∀ b, new = some (.part job b) → ∃ n j x, s.jobOf job = some (n, j) ∧ j.closed = false
      ∧ slot j.lines b = some x
      ∧ x.delivered + (x.designated - if old = new then 1 else 0) < x.target) →
    ∃ t q, exec (.markPiece echo k.val i.val designation job line) s = .next t
      ∧ t.plan k = some { p with pieces := q }
      ∧ (∀ j, slot q j = if j = i then .leaf r o new else slot p.pieces j)
      ∧ (∀ j, j ≠ k → t.plan j = s.plan j)
      ∧ (∀ a b, t.jobLine a b = (s.jobLine a b).map fun x =>
          { x with designated := (x.designated - if old = some (.part a b) then 1 else 0)
                    + if new = some (.part a b) then 1 else 0 })
      ∧ (∀ n, (t.job n).map (fun j => { j with lines := Vector.replicate 8 none })
          = (s.job n).map fun j => { j with lines := Vector.replicate 8 none })
      ∧ (∀ q, q ∈ t.retention.queue ↔ q ∈ s.retention.queue
          ∨ ∃ n a b x, (old = some (.part a b) ∨ new = some (.part a b)) ∧ s.findJob a = some n
            ∧ s.jobLine a b = some x ∧ q = jobPage n)
      ∧ s.retention.queue <+: t.retention.queue
      ∧ t = { s with
          port := s.port.replied echo .ok ((Piece.leaf r o new).block i.val)
          plans := t.plans
          jobs := t.jobs
          retention := { s.retention with queue := t.retention.queue } })
  ∧ (∀ (s : State) (echo : Byte) (k : Fin 12) (p : Plan) (i : Fin 64) (job line : Nat) (r : Rect)
    (o : Option Origin) (old : Option Designation), s.plan k = some p → p.state = .opened →
    slot p.pieces i = .leaf r o old →
    (s.serving (.markPiece echo k.val i.val 2 job line) →
      ∀ (n : Fin 512) (x : Slab) (m : Material), s.slabOf p.slabTag = some (n, x) →
      s.material x.material = some m →
      ¬(m.minRemLength ≤ r.length ∧ m.minRemWidth ≤ r.width) →
      ¬(m.veined = false ∧ m.minRemLength ≤ r.width ∧ m.minRemWidth ≤ r.length) →
      exec (.markPiece echo k.val i.val 2 job line) s
        = .next { s with port := s.port.replied echo .tooSmall (leFields [(1, i.val)]) })
    ∧ ∀ b : Fin 8, line = b.val + 1 → 1 ≤ job → job ≤ 65535 →
      s.serving (.markPiece echo k.val i.val 1 job line) →
      ((∀ n j, s.job n = some j → j.number ≠ job) →
        exec (.markPiece echo k.val i.val 1 job line) s
          = .next { s with port := s.port.replied echo .noSuch [] })
      ∧ ∀ n j, s.jobOf job = some (n, j) →
        (j.closed = true → exec (.markPiece echo k.val i.val 1 job line) s
          = .next { s with port := s.port.replied echo .jobClosed [] })
        ∧ (j.closed = false → slot j.lines b = none → exec (.markPiece echo k.val i.val 1 job line) s
          = .next { s with port := s.port.replied echo .noSuch [] })
        ∧ ∀ x, j.closed = false → slot j.lines b = some x → old ≠ some (.part job b) →
          x.target ≤ x.delivered + x.designated →
          exec (.markPiece echo k.val i.val 1 job line) s
            = .next { s with port := s.port.replied echo .lineFull [] })

/-- R37 to R41: a LOCK_PLAN that passes its checks takes the snapshot, the reservation of its REMNANT leaves, the
yield figures, pass count 1 and the sum of the travels, and changes nothing else. The widths of the yield and of
the reserved count in the reply are the model's reading (assumption 22). R37 and R39, the checks of LOCK_PLAN
behind the plan checks, in order: a cut (WRONG_STATE), every leaf designated (UNDESIGNATED with the lowest that is
not), every REMNANT large enough (TOO_SMALL with the lowest that is not), room for the reservation (NO_ROOM); each
refusal leaves the plan OPEN as it was. R42: UNLOCK_PLAN gives the reservation back and discards the snapshot, the
yield figures, the remaining travel and the pass count; cuts, pieces and designations stay. R43: DROP_PLAN
releases every PART designation, the reservation and the slab with its position kept, and frees the slot. -/
def Obligations.PlansAreLockedUnlockedAndDropped : Prop :=
  (∀ (s : State) (echo : Byte) (k : Fin 12) (p : Plan) (n : Fin 512) (x : Slab) (m : Material) (a : Nat)
    (y : Yield) (remnants : Nat),
    s.serving (.lockPlan echo k.val) → s.plan k = some p → p.state = .opened → p.cuts ≠ [] →
    (∀ i r o, slot p.pieces i ≠ .leaf r o none) →
    s.slabOf p.slabTag = some (n, x) → s.material x.material = some m →
    (∀ i r o, slot p.pieces i = .leaf r o (some .remnant) →
      (m.minRemLength ≤ r.length ∧ m.minRemWidth ≤ r.width)
        ∨ (m.veined = false ∧ m.minRemLength ≤ r.width ∧ m.minRemWidth ≤ r.length)) →
    remnants = p.pieces.toList.countP (fun
      | .leaf _ _ (some .remnant) => true
      | _ => false) →
    s.liveSlabs + s.stock.reserved + remnants ≤ 512 →
    a = p.slabArea → y.parts = p.sumOfLeaves (fun
      | some (.part _ _) => true
      | _ => false) → y.remnant = p.sumOfLeaves (fun d => decide (d = some .remnant)) →
    y.scrap = p.sumOfLeaves (fun d => decide (d = some .scrap)) →
    y.kerf = a - p.sumOfLeaves (fun _ => true) → y.perMille = 1000 * y.parts / a →
    exec (.lockPlan echo k.val) s = .next
      ({ s with
          port := s.port.replied echo .ok (leFields [(4, y.parts), (4, y.remnant), (4, y.scrap),
            (4, y.kerf), (2, y.perMille), (1, remnants), (3, (p.cuts.map Cut.travel).sum)])
          stock := { s.stock with reserved := s.stock.reserved + remnants } }.setPlan k (some
        { p with
          state := .locked
          snapshot := some { code := x.material, entry := m }
          reservedRemnants := remnants
          yields := some y
          passCount := some 1
          remainingTravel := some (p.cuts.map Cut.travel).sum })))
  ∧ (∀ (s : State) (echo : Byte) (k : Fin 12) (p : Plan) (n : Fin 512) (x : Slab) (m : Material)
    (small : Rect → Prop), s.serving (.lockPlan echo k.val) → s.plan k = some p → p.state = .opened →
    (p.cuts = [] → exec (.lockPlan echo k.val) s = .next { s with port := s.port.replied echo .wrongState [] })
    ∧ (p.cuts ≠ [] →
      (∀ i r o, slot p.pieces i = .leaf r o none → (∀ j y z, j < i → slot p.pieces j ≠ .leaf y z none) →
        exec (.lockPlan echo k.val) s
          = .next { s with port := s.port.replied echo .undesignated (leFields [(1, i.val)]) })
      ∧ ((∀ i r o, slot p.pieces i ≠ .leaf r o none) → s.slabOf p.slabTag = some (n, x) →
        s.material x.material = some m →
        (∀ r, small r ↔ ¬(m.minRemLength ≤ r.length ∧ m.minRemWidth ≤ r.width)
          ∧ ¬(m.veined = false ∧ m.minRemLength ≤ r.width ∧ m.minRemWidth ≤ r.length)) →
        (∀ i r o, slot p.pieces i = .leaf r o (some .remnant) → small r →
          (∀ j y z, j < i → slot p.pieces j = .leaf y z (some .remnant) → ¬ small y) →
          exec (.lockPlan echo k.val) s
            = .next { s with port := s.port.replied echo .tooSmall (leFields [(1, i.val)]) })
        ∧ ((∀ i r o, slot p.pieces i = .leaf r o (some .remnant) → ¬ small r) →
          512 < s.liveSlabs + s.stock.reserved + p.pieces.toList.countP (fun
            | .leaf _ _ (some .remnant) => true
            | _ => false) →
          exec (.lockPlan echo k.val) s = .next { s with port := s.port.replied echo .noRoom [] }))))
  ∧ (∀ (s : State) (echo : Byte) (k : Fin 12) (p : Plan),
    s.serving (.unlockPlan echo k.val) → s.plan k = some p → p.state = .locked →
    exec (.unlockPlan echo k.val) s = .next
      ({ s with
          port := s.port.replied echo .ok []
          stock := { s.stock with reserved := s.stock.reserved - p.reservedRemnants } }.setPlan k (some
        { p with state := .opened, snapshot := none, reservedRemnants := 0, yields := none
                 passCount := none, remainingTravel := none })))
  ∧ (∀ (s : State) (echo : Byte) (k : Fin 12) (p : Plan) (n : Fin 512) (x : Slab),
    s.serving (.dropPlan echo k.val) → s.plan k = some p → p.state ≠ .bound →
    s.tagNames p.slabTag n x →
    ∃ t, exec (.dropPlan echo k.val) s = .next t
      ∧ t.plan k = none ∧ (∀ j, j ≠ k → t.plan j = s.plan j)
      ∧ t.slab n = some { x with state := .available, holder := none }
      ∧ (∀ j, j ≠ n → t.slab j = s.slab j)
      ∧ t.stock.reserved = s.stock.reserved - p.reservedRemnants
      ∧ (∀ a b, t.jobLine a b = (s.jobLine a b).map fun y =>
          { y with designated := y.designated - p.partsOf a b })
      ∧ (∀ m, (t.job m).map (fun j => { j with lines := Vector.replicate 8 none })
          = (s.job m).map fun j => { j with lines := Vector.replicate 8 none })
      ∧ slabPage n ∈ t.retention.queue ∧ s.retention.queue <+: t.retention.queue
      ∧ t = { s with
          port := s.port.replied echo .ok (leFields [(3, p.slabTag)])
          plans := t.plans
          jobs := t.jobs
          stock := { s.stock with slabs := t.stock.slabs, reserved := t.stock.reserved }
          retention := { s.retention with queue := t.retention.queue } })

/-! ### Chapter 3: station lines -/

/-- R64: MAP_LINES refuses a number above 4 or a number twice with BAD_VALUE, then a change for a user that is not
DETACHED with WRONG_STATE; else it replaces the whole map and returns it. A map equal to the present one enqueues
no page (the model's reading of R175, assumption 13). -/
def Obligations.MapLinesReplacesTheMapOfDetachedUsers : Prop :=
  ∀ (s : State) (echo : Byte) (lines : Vector Nat 5), s.serving (.mapLines echo lines) →
    (¬((∀ n ∈ lines.toList, n ≤ 4) ∧ lines.toList.Nodup) →
      exec (.mapLines echo lines) s = .next { s with port := s.port.replied echo .badValue [] })
    ∧ ∀ m : Vector (Fin 5) 5, lines = m.map (·.val) → m.toList.Nodup →
      ((∃ i : Fin 4, slot m i.castSucc ≠ s.stationLine i ∧ (s.station i).state ≠ .detached)
          ∨ (slot m 4 ≠ s.plantLine ∧ s.water.link ≠ .detached) →
        exec (.mapLines echo lines) s = .next { s with port := s.port.replied echo .wrongState [] })
      ∧ ((∀ i : Fin 4, slot m i.castSucc = s.stationLine i ∨ (s.station i).state = .detached) →
          (slot m 4 = s.plantLine ∨ s.water.link = .detached) →
        ∃ t, exec (.mapLines echo lines) s = .next t
          ∧ s.enqueuedOnly t (if m = s.lineMap then [] else [settingsPage])
          ∧ t = { s with
              lineMap := m
              port := s.port.replied echo .ok (leFields (lines.toList.map fun n => (1, n)))
              retention := { s.retention with queue := t.retention.queue } })

/-- R62 and R63: a frame handed to an enabled line takes the place of the frame of its kind, or joins at the tail;
a HOLD takes the head and removes every ORDER and FEED, the other frames keeping their order. R62: a frame handed
to a disabled line is dropped. R61: the free transmitter takes the head of the queue onto the wire, with the
toggle it was handed with (the model's choice for HOLD, FEED and QUERY, assumption 29); it takes nothing while a
frame is on the wire, from an empty queue or on a line that is off (that the command then changes nothing is the
model's choice, assumption 5). R51, R61 and R190: an enabled line asserts LDEn and holds LTXn at 1 but for a frame
on the wire, whose characters follow one another, each a start bit at 0, eight data bits LSB first and a stop bit
at 1: a lead byte with kind, toggle and direction 1, the payload length, the payload, and a check byte that makes
the sum 0. R61 and R85: the frame on the wire is sent, the separating idle begins, and the sent event of an ORDER
in CUTTING starts the ACCEPT wait, that of a HOLD in HOLDING the hold wait; any other starts nothing. -/
def Obligations.TransmitQueueAndTransmitter : Prop :=
  (∀ (s : State) (l : Fin 5) (f : TxFrame), (s.line l).enabled = true →
    (∀ before old after, (s.line l).queue = before ++ old :: after → f.message ≠ .hold →
      old.message.kindCode = f.message.kindCode → s.transmitLaw →
      s.handFrame l f = s.setLine l { s.line l with queue := before ++ f :: after })
    ∧ (f.message ≠ .hold → (∀ g ∈ (s.line l).queue, g.message.kindCode ≠ f.message.kindCode) →
      s.handFrame l f = s.setLine l { s.line l with queue := (s.line l).queue ++ [f] })
    ∧ (f.message = .hold → ∃ rest, s.handFrame l f = s.setLine l { s.line l with queue := f :: rest }
      ∧ rest.Sublist (s.line l).queue
      ∧ ∀ g, g ∈ rest ↔ g ∈ (s.line l).queue ∧ g.message ≠ .hold ∧ (∀ o, g.message ≠ .order o)
          ∧ ∀ v, g.message ≠ .feed v))
  ∧ (∀ (s : State) (l : Fin 5) (f : TxFrame), (s.line l).enabled = false → s.handFrame l f = s)
  ∧ (∀ (s : State) (l : Fin 5),
    (∀ f rest, (s.line l).transmitter = .openingIdle ∨ (s.line l).transmitter = .separatingIdle →
      (s.line l).queue = f :: rest →
      exec (.transmitStart l) s
        = .next (s.setLine l { s.line l with transmitter := .sending f, queue := rest }))
    ∧ ((∃ f, (s.line l).transmitter = .sending f) ∨ (s.line l).transmitter = .off ∨ (s.line l).queue = [] →
      exec (.transmitStart l) s = .next s))
  ∧ (∀ (s : State) (l : Fin 5), s.transmitEnable l = (s.line l).enabled
    ∧ ((s.line l).enabled = true →
      ((∀ f, (s.line l).transmitter ≠ .sending f) → ∀ bit, s.transmitPin l bit = some true)
      ∧ ∀ f, (s.line l).transmitter = .sending f →
        ∃ lead check bytes, bytes = lead :: BitVec.ofNat 8 f.message.payload.length :: f.message.payload ++ [check]
          ∧ lead.toNat = f.message.kindCode + (if f.toggle then 64 else 0) + 128
          ∧ bytes.sum = 0
          ∧ (∀ j b, bytes[j]? = some b →
            s.transmitPin l (10 * j) = some false
              ∧ (∀ k, k < 8 → s.transmitPin l (10 * j + 1 + k) = some (b.getLsbD k))
              ∧ s.transmitPin l (10 * j + 9) = some true)
          ∧ ∀ bit, 10 * bytes.length ≤ bit → s.transmitPin l bit = some true))
  ∧ (∀ (s : State) (l : Fin 5) (f : TxFrame), (s.line l).transmitter = .sending f →
    (∀ i, s.userOf l = .station i →
      exec (.frameSent l) s = .next
        (if f.message.isOrder = true ∧ (s.station i).state = .cutting
              ∧ (s.station i).orderOutstanding = true ∧ f.toggle = (s.station i).toggle
            ∨ f.message = .hold ∧ (s.station i).state = .holding then
          (s.setLine l { s.line l with transmitter := .separatingIdle }).setStation i
            { s.station i with replyTimer := some s.settings.replyTimeout }
        else s.setLine l { s.line l with transmitter := .separatingIdle }))
    ∧ (s.userOf l = .plant →
      exec (.frameSent l) s = .next (s.setLine l { s.line l with transmitter := .separatingIdle })))

/-- R52 to R55: the samples of the search, the model's operand of START_BIT_VERIFIED (assumption 7), taken one by
one. Behind four 1-samples a 0 begins the start check, also behind a long idle: with two or three of samples 3 to
5 at 0 the start bit is verified, with a noise mark unless all three are, and a running gap timer stops; with
fewer the search begins again, its counts at 0. A 0 without four 1s before it is counted; the 160th is a break
character, the 160th 1 seen in a row an idle run. A disabled line ignores its pin. R54: the run of 1-samples is
what stands behind the last 0-sample, counted to 160, over all samples seen: those of a character are samples 6 to
16 of its start bit, all of its data bits and 1 to 9 of its stop bit. R53 and R56: a decided character without a
framing error is thrown away in SETTLING and DISCARDING, is the lead byte in READY, and joins a frame that it
neither completes nor shows too long; the gap timer starts afresh and the break run clears. R53, R54 and R56: a
character with a framing error in READY or ASSEMBLING, any in SEPARATING, and a length byte above 24 are one bad
frame and lead to DISCARDING; in SETTLING and DISCARDING a framing error is not counted. During BREAK the
assembler gets no character. Outside a character CHARACTER does nothing (assumption 7). R53: an undisturbed
character gives its byte, LSB first, without a noise mark or a framing error. R56 to R58: the last character of a
frame of 3 + n characters completes it; the frame of any message that fits the wire is read as that message with
that toggle, handed on at once, and the assembler is in SEPARATING; a frame whose sum is not 0, whose direction
bit is 1 or whose kind has another length or is none of 11.6.1 is one bad frame. -/
def Obligations.ReceivedCharactersMakeUpTheFrame : Prop :=
  (∀ (s : State) (l : Fin 5) (ones zeros seen n tail : Nat) (a x y z : Bool) (low : Nat),
    (s.line l).receiver = .search ones zeros → (s.line l).onesSeen = seen → low = [x, y, z].count false →
    tail = ([z, y, x, a].takeWhile id).length →
    ((s.line l).enabled = false → ∀ samples, exec (.startBitVerified l samples) s = .next s)
    ∧ ((s.line l).enabled = true →
      (4 ≤ ones + n → seen + n < 160 ∨ 160 ≤ seen →
        exec (.startBitVerified l (List.replicate n true ++ [false, a, x, y, z])) s = .next (s.setLine l
          (if 2 ≤ low then
            { s.line l with
              receiver := .inCharacter (decide (low ≠ 3))
              onesSeen := tail
              gap := match (s.line l).gap with
                | .running => .stopped
                | g => g }
          else { s.line l with receiver := .search 0 0, onesSeen := tail })))
      ∧ (ones < 4 → zeros + 1 < 160 → exec (.startBitVerified l [false]) s
          = .next (s.setLine l { s.line l with receiver := .search 0 (zeros + 1), onesSeen := 0 }))
      ∧ (ones < 4 → zeros + 1 = 160 → exec (.startBitVerified l [false]) s = exec (.breakCharacter l) s)
      ∧ (seen + 1 < 160 ∨ 160 ≤ seen → exec (.startBitVerified l [true]) s = .next (s.setLine l
          { s.line l with receiver := .search (min 4 (ones + 1)) 0, onesSeen := min 160 (seen + 1) }))
      ∧ (seen + 1 = 160 → exec (.startBitVerified l [true]) s = exec (.idleRun l) s)
      ∧ ∀ before behind t, exec (.startBitVerified l before) s = .next t → (t.line l).enabled = true →
          exec (.startBitVerified l (before ++ behind)) s = exec (.startBitVerified l behind) t))
  ∧ ((∀ (n k : Nat) (xs : List Bool), n ≤ 160 →
    onesRun n (List.replicate k true) = min 160 (n + k)
      ∧ onesRun n (xs ++ false :: List.replicate k true) = min 160 k)
  ∧ ∀ c : CharSamples, c.samples.length = 148
    ∧ (∀ k, k < 11 → c.samples[k]? = some (c.start.getLsbD k))
    ∧ (∀ (bit : Fin 8) k, k < 16 → c.samples[11 + 16 * bit.val + k]? = some ((slot c.data bit).getLsbD k))
    ∧ ∀ k, k < 9 → c.samples[139 + k]? = some (c.stop.getLsbD k))
  ∧ (∀ (s : State) (l : Fin 5) (c : CharSamples) (x : Line) (mark : Bool),
    (s.line l).enabled = true → (s.line l).inBreak = false → (s.line l).receiver = .inCharacter mark →
    c.framing = false →
    x = { s.line l with
      receiver := .startSearch, onesSeen := onesRun (s.line l).onesSeen c.samples, breakRun := false
      gap := .running } →
    ((s.line l).assembler = .settling ∨ (s.line l).assembler = .discarding →
      exec (.character l c) s = .next (s.setLine l x))
    ∧ ((s.line l).assembler = .ready →
      exec (.character l c) s = .next (s.setLine l
        { x with assembler := .assembling [c.byte] (mark || c.noisy) }))
    ∧ ∀ bs noise, (s.line l).assembler = .assembling bs noise → bs ≠ [] →
      (∀ n, (bs ++ [c.byte])[1]? = some n → n.toNat ≤ 24 ∧ bs.length + 1 < 3 + n.toNat) →
      exec (.character l c) s = .next (s.setLine l
        { x with assembler :=
            .assembling (bs ++ [c.byte]) (noise || (mark || c.noisy)) }))
  ∧ (∀ (s : State) (l : Fin 5) (c : CharSamples) (x : Line) (mark : Bool), (s.line l).enabled = true →
    ((∀ m, (s.line l).receiver ≠ .inCharacter m) → exec (.character l c) s = .next s)
    ∧ ((s.line l).receiver = .inCharacter mark →
      ((s.line l).inBreak = true → ¬(c.framing = true ∧ c.byte = 0) → exec (.character l c) s
        = .next (s.setLine l
          { s.line l with
            receiver := .startSearch, onesSeen := onesRun (s.line l).onesSeen c.samples, breakRun := false }))
      ∧ ((s.line l).inBreak = false → ¬(c.framing = true ∧ c.byte = 0) →
        x = { s.line l with
          receiver := .startSearch, onesSeen := onesRun (s.line l).onesSeen c.samples, breakRun := false
          gap := .running } →
        (((s.line l).assembler = .settling ∨ (s.line l).assembler = .discarding) → c.framing = true →
          exec (.character l c) s = .next (s.setLine l x))
        ∧ (((c.framing = true ∧ ((s.line l).assembler = .ready ∨ ∃ bs noise,
                (s.line l).assembler = .assembling bs noise))
              ∨ (s.line l).assembler = .separating
              ∨ (∃ lead noise, (s.line l).assembler = .assembling [lead] noise ∧ 24 < c.byte.toNat)) →
          ∃ t, exec (.character l c) s = .next t
            ∧ s.countsBadFrame t l { x with assembler := .discarding }))))
  ∧ (∀ b : Byte, (CharSamples.clean b).byte = b ∧ (CharSamples.clean b).framing = false
    ∧ (CharSamples.clean b).noisy = false)
  ∧ ((∀ (s : State) (l : Fin 5) (m : Message) (toggle noise mark : Bool) (bs : List Byte) (b : Byte),
    (s.line l).enabled = true → (s.line l).inBreak = false → (s.line l).receiver = .inCharacter mark →
    m.fitsWire = true → bs ++ [b] = m.frame toggle → (s.line l).assembler = .assembling bs noise →
    exec (.character l (.clean b)) s = .next
      ((s.setLine l
        { s.line l with
          receiver := .startSearch
          onesSeen := onesRun (s.line l).onesSeen (CharSamples.clean b).samples
          breakRun := false
          gap := .running
          assembler := .separating }).receive l (noise || mark) toggle m))
  ∧ ∀ (s : State) (l : Fin 5) (noise mark : Bool) (bs : List Byte) (b lead n : Byte) (rest : List Byte),
    (s.line l).enabled = true → (s.line l).inBreak = false → (s.line l).receiver = .inCharacter mark →
    (s.line l).assembler = .assembling bs noise → bs ++ [b] = lead :: n :: rest → n.toNat ≤ 24 →
    rest.length = n.toNat + 1 → ((bs ++ [b]).sum ≠ 0 ∨ 128 ≤ lead.toNat
      ∨ (lead.toNat % 16, n.toNat) ∉ [(8, 1), (9, 4), (10, 1), (11, 3), (12, 2), (13, 11), (14, 4)]) →
    ∃ t, exec (.character l (.clean b)) s = .next t
      ∧ s.countsBadFrame t l
        { s.line l with
          receiver := .startSearch, onesSeen := onesRun (s.line l).onesSeen (CharSamples.clean b).samples
          breakRun := false, gap := .running, assembler := .separating })

/-- R190 and R57: the frame of every message that fits the wire is read back as that message with its toggle. -/
def Obligations.StationLineFramesRoundTrip : Prop :=
  ∀ (m : Message) (toggle : Bool), m.fitsWire = true → decodeFrame (m.frame toggle) = some (toggle, m)

/-- R56 and R59: the gap after a frame in assembly ends it short, which is one bad frame, told as LINE_NOISE at
the limit. After SETTLING, SEPARATING and DISCARDING the assembler is READY. A gap timer that does not run, and
one of a disabled line, does nothing (the model's reading, assumption 5). R53, R54 and R56: the first break
character, a BREAK_CHARACTER or a CHARACTER with all bits decided 0, sets the break run and is a bad frame of its
own, but for one in SETTLING or DISCARDING; during BREAK it reports nothing more; the end of BREAK clears the run,
leaves the gap timer expired and the assembler READY, and hands the user's line a QUERY. BREAK_CHARACTER and
IDLE_RUN come in the start search alone (assumption 7). -/
def Obligations.GapAndBreakRunsEndFrames : Prop :=
  (∀ (s : State) (l : Fin 5),
    ((s.line l).enabled = false ∨ (s.line l).gap ≠ .running → exec (.gapTimerExpiry l) s = .next s)
    ∧ ((s.line l).enabled = true → (s.line l).gap = .running →
      ((s.line l).assembler = .settling ∨ (s.line l).assembler = .separating
          ∨ (s.line l).assembler = .discarding ∨ (s.line l).assembler = .ready →
        exec (.gapTimerExpiry l) s
          = .next (s.setLine l { s.line l with gap := .expired, assembler := .ready }))
      ∧ ((∃ bs noise, (s.line l).assembler = .assembling bs noise) →
        ∃ t, exec (.gapTimerExpiry l) s = .next t
          ∧ s.countsBadFrame t l { s.line l with gap := .expired, assembler := .ready })))
  ∧ (∀ (s : State) (l : Fin 5), (s.line l).enabled = true →
    ((∀ ones zeros, (s.line l).receiver ≠ .search ones zeros) →
      exec (.breakCharacter l) s = .next s ∧ exec (.idleRun l) s = .next s)
    ∧ (∀ e seen x, s.decidesBreak l e seen →
      x = { s.line l with receiver := .startSearch, onesSeen := seen, breakRun := true, gap := .running } →
      ((s.line l).inBreak = false → (s.line l).breakRun = false →
        ((s.line l).assembler = .ready ∨ (s.line l).assembler = .separating
          ∨ ∃ bs noise, (s.line l).assembler = .assembling bs noise) →
        ∃ t, exec e s = .next t ∧ s.countsBadFrame t l { x with assembler := .discarding })
      ∧ ((s.line l).inBreak = false → (s.line l).breakRun = false →
        ((s.line l).assembler = .settling ∨ (s.line l).assembler = .discarding) →
        exec e s = .next (s.setLine l x))
      ∧ ((s.line l).inBreak = true → exec e s
          = .next (s.setLine l { s.line l with receiver := .startSearch, onesSeen := seen, breakRun := true })))
    ∧ ∀ ones zeros, (s.line l).receiver = .search ones zeros →
      ((s.line l).inBreak = false → exec (.idleRun l) s
          = .next (s.setLine l { s.line l with receiver := .search 4 0, onesSeen := 160, breakRun := false }))
      ∧ ((s.line l).inBreak = true → (∀ g ∈ (s.line l).queue, g.message ≠ .query) →
        ∀ toggle, (∀ i, s.userOf l = .station i → s.stationLine i = l ∧ toggle = (s.station i).toggle) →
        (s.userOf l = .plant → s.plantLine = l ∧ toggle = false) →
        exec (.idleRun l) s = .next (s.setLine l
          { s.line l with
            receiver := .search 4 0
            onesSeen := 160
            breakRun := false
            inBreak := false
            gap := .expired
            assembler := .ready
            queue := (s.line l).queue ++ [{ toggle := toggle, message := .query }] })))

/-- R58: an ACCEPT, PASS or FINISH whose toggle is not the station's order toggle is stale: it raises the
stale-report counter by one, up to 65,535, and changes nothing else (a message command stands for its whole frame
and leaves receiver, assembler and gap timer, assumption 6). R57, R59, R90 and R113: a report of a kind the line's
user does not send, or with a coded field its kind does not define, is one bad frame whatever else it says; at the
limit its count is 0 and LINE_NOISE makes a CUTTING or HOLDING station FAULTED with LINE_NOISE and a QUERY, raises
HALT alone at another attached one and PLANT at the plant. -/
def Obligations.StaleForeignAndUndefinedReports : Prop :=
  (∀ (s : State) (l : Fin 5) (i : Fin 4) (noise toggle : Bool) (cut passIndex seconds : Nat) (c : Instr),
    (s.line l).enabled = true → (s.line l).inBreak = false → s.userOf l = .station i →
    toggle ≠ (s.station i).toggle →
    (c = .accept l noise toggle cut ∨ c = .pass l noise toggle cut passIndex seconds
      ∨ c = .finish l noise toggle cut) →
    exec c s = .next
      (s.setLine l { s.line l with staleReports := min 65535 ((s.line l).staleReports + 1) }))
  ∧ (∀ (s : State) (l : Fin 5) (noise toggle : Bool) (cut passIndex seconds mode table done code report cake : Nat)
    (levels : LevelsReport) (c : Instr),
    (s.line l).enabled = true → (s.line l).inBreak = false →
    ((∃ i, s.userOf l = .station i)
        ∧ (c = .levels l noise toggle levels ∨ c = .pressState l noise toggle report cake
          ∨ (c = .state l noise toggle mode table done ∧ (3 < mode ∨ 1 < table))
          ∨ c = .fault l noise toggle 0 cut)
      ∨ s.userOf l = .plant
        ∧ (c = .accept l noise toggle cut ∨ c = .pass l noise toggle cut passIndex seconds
          ∨ c = .finish l noise toggle cut ∨ c = .state l noise toggle mode table done
          ∨ c = .fault l noise toggle code cut
          ∨ (c = .levels l noise toggle levels ∧ 32 ≤ levels.valves.toNat)
          ∨ (c = .pressState l noise toggle report cake ∧ 3 < report))) →
    ∃ t, exec c s = .next t ∧ s.countsBadFrame t l (s.line l))

/-! ### Chapter 4: saw stations -/

/-- R50 and R71: ATTACH_STATION of a DETACHED station enables its line with the divisor of the settings record,
its counters at 0 and a QUERY waiting, enters LISTENING and starts the reply timer; the toggle keeps its value.
One that is not DETACHED is refused with WRONG_STATE. R50 and R73: DETACH_STATION of an attached station without a
plan disables its line, which empties the queue and cuts off the frame on the wire and keeps the counters, and
sets the record as after a device reset but for the toggle; what a disabled line's receiver, assembler and gap
timer hold is the model's choice (assumption 1). A station with a plan, or DETACHED, is refused with WRONG_STATE.
-/
def Obligations.StationsAreAttachedAndDetached : Prop :=
  (∀ (s : State) (echo : Byte) (i : Fin 4), s.serving (.attachStation echo i.val) →
    ((s.station i).state ≠ .detached →
      exec (.attachStation echo i.val) s = .next { s with port := s.port.replied echo .wrongState [] })
    ∧ ((s.station i).state = .detached →
    exec (.attachStation echo i.val) s = .next
      { ((s.setLine (s.stationLine i)
          { enabled := true, divisor := slot s.settings.rateDivisor (s.stationLine i), receiver := .startSearch
            onesSeen := 0, breakRun := false, inBreak := false, assembler := .settling, gap := .running, badCount := 0
            queue := [{ toggle := (s.station i).toggle, message := .query }], transmitter := .openingIdle
            takenFrames := 0, badFrames := 0, noisyFrames := 0, staleReports := 0 }).setStation i
          { s.station i with
            state := .listening, tableLoaded := false, loadedSinceStaging := false, sawMode := none
            sawPassesDone := 0, faultCode := none, condition := .none, progressCount := 0
            replyTimer := some s.settings.replyTimeout }) with
        port := s.port.replied echo .ok (leBytes 1 (s.stationLine i).val) }))
  ∧ (∀ (s : State) (echo : Byte) (i : Fin 4), s.serving (.detachStation echo i.val) →
    ((s.station i).state ≠ .detached → (s.station i).state.wet = false → (s.station i).plan = none →
      exec (.detachStation echo i.val) s = .next
        { ((s.setLine (s.stationLine i)
            { s.line (s.stationLine i) with
              enabled := false, receiver := .startSearch, onesSeen := 0, breakRun := false, inBreak := false
              assembler := .settling, gap := .expired, badCount := 0, queue := []
              transmitter := .off }).setStation i
            { State.reset.station i with toggle := (s.station i).toggle }) with
          port := s.port.replied echo .ok [] })
    ∧ ((s.station i).state = .detached ∨ (s.station i).plan ≠ none →
      exec (.detachStation echo i.val) s = .next { s with port := s.port.replied echo .wrongState [] }))

/-- R41, R74 and R103: a START_PLAN that passes its checks binds the LOCKED plan to the READY station with the
pass count ceil(t / m) and the pass depth floor(t / c), and the station is STAGED. R74: the checks of START_PLAN
behind the plan checks, in order: the station READY, a blade, wear above 0, kerf, depth; each refusal leaves plan
and station as they were. R103: the pass count derived for a slab lies in 1 to 6, the depths of its passes add up
to the thickness, and the last pass is never shallower than the others and deeper by at most one less than the
count. -/
def Obligations.StartPlanBindsStagesAndDerivesPasses : Prop :=
  (∀ (s : State) (echo : Byte) (k : Fin 12) (i : Fin 4) (p : Plan) (b : Blade) (n : Fin 512) (x : Slab)
    (c d : Nat),
    s.serving (.startPlan echo k.val i.val) → s.plan k = some p → p.state = .locked →
    (s.station i).state = .ready → s.blade i = some b → 0 < b.wearRemaining → b.kerf ≤ p.kerf →
    s.slabOf p.slabTag = some (n, x) → x.thickness ≤ b.maxDepth → 0 < b.maxPassDepth →
    c = (x.thickness + b.maxPassDepth - 1) / b.maxPassDepth → d = x.thickness / c →
    exec (.startPlan echo k.val i.val) s = .next
      { ((s.setPlan k (some
            { p with
              state := .bound, station := some i, passCount := some c, passDepth := some d
              remainingTravel := some ((p.cuts.map Cut.travel).sum * c) })).setStation i
          { s.station i with
            state := .staged, plan := some k, loadedSinceStaging := false, orderOutstanding := false
            passesTaken := 0, progressCount := 0, condition := .none }) with
        port := s.port.replied echo .ok
          (leFields [(1, c), (2, d), (3, (p.cuts.map Cut.travel).sum * c)]) })
  ∧ (∀ (s : State) (echo : Byte) (k : Fin 12) (station : Nat) (p : Plan) (code : ReplyCode),
    s.serving (.startPlan echo k.val station) → s.plan k = some p → p.state = .locked →
    ((3 < station ∧ code = .badValue)
      ∨ ∃ i : Fin 4, station = i.val
        ∧ (((s.station i).state ≠ .ready ∧ code = .wrongState)
          ∨ ((s.station i).state = .ready ∧ s.blade i = none ∧ code = .noBlade)
          ∨ ∃ b, (s.station i).state = .ready ∧ s.blade i = some b
            ∧ ((b.wearRemaining = 0 ∧ code = .bladeWorn)
              ∨ (0 < b.wearRemaining ∧ p.kerf < b.kerf ∧ code = .kerf)
              ∨ (0 < b.wearRemaining ∧ b.kerf ≤ p.kerf ∧ code = .depth
                ∧ ∃ n x, s.slabOf p.slabTag = some (n, x) ∧ b.maxDepth < x.thickness)))) →
    exec (.startPlan echo k.val station) s = .next { s with port := s.port.replied echo code [] })
  ∧ (∀ t m c d : Nat, 100 ≤ t → t ≤ 600 → 100 ≤ m → m ≤ 600 → c = passCountFor t m → d = passDepthFor t c →
    1 ≤ c ∧ c ≤ 6 ∧ ((List.range c).map fun j => passDepthAt t c d (j + 1)).sum = t
      ∧ d ≤ passDepthAt t c d c ∧ passDepthAt t c d c ≤ d + (c - 1) ∧ d ≤ m)

/-- R75 to R77 and R19: a STATE that brings the loaded edge to a STAGED station while the factor is at or above
the resume factor sends the plan's first ORDER with a flipped toggle and the feed limit of R76, starts the silence
and query timers, makes the HELD slab CUTTING off its rack, opens the supply valve and enters CUTTING. The message
leaves its line's receiver, assembler and gap timer (assumption 6). -/
def Obligations.LoadedEdgeSendsTheFirstOrder : Prop :=
  ∀ (s : State) (l : Fin 5) (i : Fin 4) (noise toggle : Bool) (mode passesDone : Nat) (k : Fin 12) (p : Plan)
    (c : Cut) (sn : Snapshot) (n : Fin 512) (x : Slab),
    (s.line l).enabled = true → (s.line l).inBreak = false → s.userOf l = .station i → s.stationLine i = l →
    s.plantLine ≠ l → (mode = 0 ∨ mode = 2) → (s.station i).state = .staged → (s.station i).plan = some k →
    s.plan k = some p → p.cuts[p.cutsDone]? = some c → p.snapshot = some sn →
    s.tagNames p.slabTag n x → x.state = .held →
    (s.station i).tableLoaded = false → s.thresholds.resume ≤ s.water.factor →
    ∃ t limit, exec (.state l noise toggle mode 1 passesDone) s = .next t
      ∧ limit = max sn.entry.minFeed (sn.entry.baseFeed * s.water.factor / 1000)
      ∧ t.station i =
        { s.station i with
          state := .cutting, toggle := !(s.station i).toggle, orderOutstanding := true
          tableLoaded := true, loadedSinceStaging := true
          sawMode := some (if mode = 0 then .idle else .held), sawPassesDone := passesDone
          condition := .none, lastFeedLimit := some limit
          silenceTimer := some s.settings.silenceLimit, queryTimer := some (s.settings.silenceLimit / 2) }
      ∧ (∀ j, j ≠ i → t.station j = s.station j)
      ∧ t.line l =
        { s.line l with
          queue := queueFrame (s.line l).queue
            { toggle := !(s.station i).toggle
              message := .order
                { plan := k, cut := p.cutsDone, axis := c.axis, startX := c.startX, startY := c.startY
                  travel := c.travel, totalDepth := x.thickness, passCount := p.passCount.getD 0
                  firstPass := (s.station i).passesTaken + 1, passDepth := p.passDepth.getD 0
                  feedLimit := limit } }
          badCount := 0
          takenFrames := min 65535 ((s.line l).takenFrames + 1)
          noisyFrames := if noise then min 65535 ((s.line l).noisyFrames + 1) else (s.line l).noisyFrames }
      ∧ (∀ j, j ≠ l → j ≠ s.plantLine → t.line j = s.line j) ∧ s.valvesSent t
      ∧ t.slab n = some { x with state := .cutting, rack := none }
      ∧ (∀ j, j ≠ n → t.slab j = s.slab j)
      ∧ (∀ q, slot t.stock.rackMap q = if x.rack = some q then none else slot s.stock.rackMap q)
      ∧ (∀ v, slot t.water.commanded v = if v = supplyValve i then true else slot s.water.commanded v)
      ∧ s.enqueuedOnly t [slabPage n]
      ∧ t = { s with
          stations := t.stations
          lines := t.lines
          stock := { s.stock with slabs := t.stock.slabs, rackMap := t.stock.rackMap }
          water := { s.water with commanded := t.water.commanded, settle := t.water.settle }
          retention := { s.retention with queue := t.retention.queue } }

/-- R72, R83, R84, R87 and R91: a STATE with mode IDLE or HELD makes a LISTENING station, and a FAULTED one
without a plan, READY with condition NONE; where nothing more follows it only records what the saw says; in
CUTTING it starts the silence and query timers again, and mode CUTTING in HOLDING a hold wait that runs
(assumption 14). The loaded edge in STAGED is only recorded with mode CUTTING (assumption 15) and below the resume
factor. The message leaves its line's receiver, assembler and gap timer (assumption 6). R87 and R93: a HOLDING
station whose saw reports HELD or IDLE is PAUSED with its condition, its timers stopped and its supply valve
closed; HALT is raised unless the host asked for the stop. The message leaves its line's receiver, assembler and
gap timer (assumption 6). R87 and R93: one with WATER_HOLD pauses so, with its HALT, and where F is at or above
the resume factor resumes in the same event as RESUME_STATION does, its timers of CUTTING started, or on a worn
blade is PAUSED with BLADE_WORN and a second HALT. u is the state between the two. R70, R82, R83: a STATE with
mode FAULT makes an attached station that is not FAULTED with SAW_FAULT so, as a FAULT frame does, with the code
the record holds: HALT is raised, and a station not yet FAULTED stops its timers and closes its supply valve; one
FAULTED with SAW_FAULT only records what the saw says. -/
def Obligations.StateReportsReadyPauseOrRecord : Prop :=
  (∀ (s : State) (l : Fin 5) (i : Fin 4) (noise toggle loaded : Bool) (mode passesDone : Nat) (m : SawMode)
    (st : Station) (counted : Line),
    (s.line l).enabled = true → (s.line l).inBreak = false → s.userOf l = .station i →
    (mode = 0 ∧ m = .idle ∨ mode = 1 ∧ m = .cutting ∨ mode = 2 ∧ m = .held) →
    st = { s.station i with
      sawMode := some m, tableLoaded := loaded, sawPassesDone := passesDone
      loadedSinceStaging := (s.station i).loadedSinceStaging
        || ((s.station i).plan.isSome && loaded && !(s.station i).tableLoaded) } →
    counted = { s.line l with
      badCount := 0
      takenFrames := min 65535 ((s.line l).takenFrames + 1)
      noisyFrames := if noise then min 65535 ((s.line l).noisyFrames + 1) else (s.line l).noisyFrames } →
    (m ≠ .cutting → ((s.station i).state = .listening
          ∨ ((s.station i).state = .faulted ∧ (s.station i).plan = none)) →
      exec (.state l noise toggle mode (if loaded then 1 else 0) passesDone) s = .next
        ((s.setStation i { st.stopTimers with state := .ready, condition := .none }).setLine l counted))
    ∧ ((s.station i).state = .ready ∨ (s.station i).state = .paused
        ∨ ((s.station i).state = .staged ∧ ((s.station i).tableLoaded = true ∨ loaded = false
          ∨ s.water.factor < s.thresholds.resume))
        ∨ ((s.station i).state = .faulted ∧ (s.station i).plan ≠ none)
        ∨ (m = .cutting ∧ ((s.station i).state = .listening ∨ (s.station i).state = .staged
          ∨ (s.station i).state = .faulted)) →
      exec (.state l noise toggle mode (if loaded then 1 else 0) passesDone) s = .next
        ((s.setStation i st).setLine l counted))
    ∧ ((s.station i).state = .cutting →
      exec (.state l noise toggle mode (if loaded then 1 else 0) passesDone) s = .next
        ((s.setStation i
          { st with
            silenceTimer := some s.settings.silenceLimit
            queryTimer := some (s.settings.silenceLimit / 2) }).setLine l counted))
    ∧ ((s.station i).state = .holding → m = .cutting →
      exec (.state l noise toggle mode (if loaded then 1 else 0) passesDone) s = .next
        ((s.setStation i
          { st with
            replyTimer := (s.station i).replyTimer.map fun _ => s.settings.replyTimeout
            silenceTimer := some s.settings.silenceLimit
            queryTimer := some (s.settings.replyTimeout / 2) }).setLine l counted)))
  ∧ (∀ (s : State) (l : Fin 5) (i : Fin 4) (noise toggle loaded : Bool) (mode passesDone : Nat) (m : SawMode)
    (st : Station),
    (s.line l).enabled = true → (s.line l).inBreak = false → s.userOf l = .station i → s.plantLine ≠ l →
    (mode = 0 ∧ m = .idle ∨ mode = 2 ∧ m = .held) → (s.station i).state = .holding →
    ((s.station i).condition = .hostStop ∨ (s.station i).condition = .dryCut
      ∨ ((s.station i).condition = .waterHold ∧ s.water.factor < s.thresholds.resume)) →
    st = { (s.station i).stopTimers with
      state := .paused, sawMode := some m, tableLoaded := loaded, sawPassesDone := passesDone
      loadedSinceStaging := (s.station i).loadedSinceStaging
        || ((s.station i).plan.isSome && loaded && !(s.station i).tableLoaded) } →
    ∃ t, exec (.state l noise toggle mode (if loaded then 1 else 0) passesDone) s = .next t
      ∧ t.line l =
        { s.line l with
          badCount := 0
          takenFrames := min 65535 ((s.line l).takenFrames + 1)
          noisyFrames := if noise then min 65535 ((s.line l).noisyFrames + 1) else (s.line l).noisyFrames }
      ∧ ((s.station i).condition ≠ .hostStop →
        s.stopsAt t i st (haltSource i) (.halt (s.station i).condition .paused none (s.station i).plan
          (s.currentCutNumber i) none))
      ∧ ((s.station i).condition = .hostStop →
        t.water.commanded = put s.water.commanded (supplyValve i) false
        ∧ (∀ j, j ≠ l → j ≠ s.plantLine → t.line j = s.line j) ∧ s.valvesSent t
        ∧ t = { s with
            stations := put s.stations i st, lines := t.lines
            water := { s.water with commanded := t.water.commanded, settle := t.water.settle } }))
  ∧ (∀ (s : State) (l : Fin 5) (i : Fin 4) (noise toggle loaded : Bool) (mode passesDone : Nat) (m : SawMode)
    (st : Station) (b : Blade),
    (s.line l).enabled = true → (s.line l).inBreak = false → s.userOf l = .station i → s.plantLine ≠ l →
    (mode = 0 ∧ m = .idle ∨ mode = 2 ∧ m = .held) → (s.station i).state = .holding →
    (s.station i).condition = .waterHold → s.thresholds.resume ≤ s.water.factor → s.blade i = some b →
    st = { (s.station i).stopTimers with
      state := .paused, sawMode := some m, tableLoaded := loaded, sawPassesDone := passesDone
      loadedSinceStaging := (s.station i).loadedSinceStaging
        || ((s.station i).plan.isSome && loaded && !(s.station i).tableLoaded) } →
    ∃ t u, exec (.state l noise toggle mode (if loaded then 1 else 0) passesDone) s = .next t
      ∧ u.line l = s.line l
      ∧ s.stopsAt u i st (haltSource i) (.halt .waterHold .paused none (s.station i).plan
          (s.currentCutNumber i) none)
      ∧ (∀ r, 0 < b.wearRemaining → r = u.resumeStation i →
        t = (r.setStation i
          { r.station i with
            silenceTimer := if (r.station i).state = .cutting then some s.settings.silenceLimit
              else (r.station i).silenceTimer
            queryTimer := if (r.station i).state = .cutting then some (s.settings.silenceLimit / 2)
              else (r.station i).queryTimer }).setLine l ((r.line l).counted noise))
      ∧ (b.wearRemaining = 0 →
        t = { (u.setStation i { st with condition := .bladeWorn }).setLine l ((s.line l).counted noise) with
          notices := { u.notices with
            sources := put u.notices.sources (haltSource i) ((slot u.notices.sources (haltSource i)).raised
              (.halt .bladeWorn .paused none (s.station i).plan (s.currentCutNumber i) none)) } }))
  ∧ (∀ (s : State) (l : Fin 5) (i : Fin 4) (noise toggle loaded : Bool) (passesDone : Nat) (st : Station),
    (s.line l).enabled = true → (s.line l).inBreak = false → s.userOf l = .station i → s.plantLine ≠ l →
    (s.station i).state ≠ .detached →
    st = { s.station i with
      sawMode := some .fault, tableLoaded := loaded, sawPassesDone := passesDone
      loadedSinceStaging := (s.station i).loadedSinceStaging
        || ((s.station i).plan.isSome && loaded && !(s.station i).tableLoaded) } →
    ∃ t, exec (.state l noise toggle 3 (if loaded then 1 else 0) passesDone) s = .next t
      ∧ t.line l = (s.line l).counted noise
      ∧ ((s.station i).state ≠ .faulted ∨ (s.station i).condition ≠ .sawFault →
        s.stopsAt t i
          { (if (s.station i).state = .faulted then st else st.stopTimers) with
            state := .faulted, condition := .sawFault }
          (haltSource i) (.halt .sawFault .faulted (s.station i).faultCode (s.station i).plan
            (s.currentCutNumber i) (some (s.station i).faultCut)))
      ∧ ((s.station i).state = .faulted → (s.station i).condition = .sawFault →
        t = (s.setStation i st).setLine l ((s.line l).counted noise)))

/-- R78, R79, R84 and R87: an ACCEPT for the outstanding order stops the ACCEPT wait in CUTTING and, as every
taken frame in CUTTING and HOLDING, starts the silence and query timers again; it changes nothing else but the
line's counts (of a message command the line's receiver, assembler and gap timer are left as they were, assumption
6). R47, R78, R81 and R87: a FINISH in HOLDING, PAUSED or FAULTED with every pass reported and cuts remaining
makes the cut DONE and ends the order; the station keeps its state and condition and no order goes out (in HOLDING
its silence and query timers start again). R47, R77 and R81: a FINISH in CUTTING with every pass reported and cuts
remaining sends the ORDER for the next cut when the blade has wear left, and pauses the station with BLADE_WORN
and a HALT when it has none. -/
def Obligations.AcceptAndFinishMoveTheOrder : Prop :=
  (∀ (s : State) (l : Fin 5) (i : Fin 4) (noise : Bool) (cut : Nat) (k : Fin 12) (p : Plan) (c : Cut)
    (st : Station),
    (s.line l).enabled = true → (s.line l).inBreak = false → s.userOf l = .station i → st = s.station i →
    (st.state = .cutting ∨ st.state = .holding ∨ st.state = .paused ∨ st.state = .faulted) →
    st.orderOutstanding = true → st.plan = some k → s.plan k = some p → p.cutsDone = cut →
    p.cuts[cut]? = some c →
    exec (.accept l noise st.toggle cut) s = .next
      ((s.setStation i
        { st with
          replyTimer := if st.state = .cutting then none else st.replyTimer
          silenceTimer := if st.state.wet then some s.settings.silenceLimit else st.silenceTimer
          queryTimer := if st.state = .cutting then some (s.settings.silenceLimit / 2)
            else if st.state = .holding then some (s.settings.replyTimeout / 2)
            else st.queryTimer }).setLine l ((s.line l).counted noise)))
  ∧ (∀ (s : State) (l : Fin 5) (i : Fin 4) (noise : Bool) (cut : Nat) (k : Fin 12) (p : Plan) (c : Cut)
    (st : Station),
    (s.line l).enabled = true → (s.line l).inBreak = false → s.userOf l = .station i → st = s.station i →
    (st.state = .holding ∨ st.state = .paused ∨ st.state = .faulted) →
    st.orderOutstanding = true → st.plan = some k → s.plan k = some p →
    p.cutsDone = cut → p.cuts[cut]? = some c → p.passCount.getD 0 ≤ p.passesReported →
    cut + 1 < p.cuts.length →
    exec (.finish l noise st.toggle cut) s = .next
      (((s.setPlan k (some
          { p with
            cuts := p.cuts.set cut { c with state := .done }, cutsDone := cut + 1, passesReported := 0
            touched := true })).setStation i
        { st with
          passesTaken := 0, orderOutstanding := false
          silenceTimer := if st.state = .holding then some s.settings.silenceLimit else st.silenceTimer
          queryTimer := if st.state = .holding then some (s.settings.replyTimeout / 2) else st.queryTimer }).setLine l
        ((s.line l).counted noise)))
  ∧ (∀ (s : State) (l : Fin 5) (i : Fin 4) (noise : Bool) (cut limit : Nat) (k : Fin 12) (p : Plan) (c next : Cut)
    (sn : Snapshot) (n : Fin 512) (x : Slab) (b : Blade) (counted : Line) (q : Plan),
    (s.line l).enabled = true → (s.line l).inBreak = false → s.userOf l = .station i → s.stationLine i = l →
    s.plantLine ≠ l → (s.station i).state = .cutting → (s.station i).orderOutstanding = true →
    (s.station i).plan = some k → s.plan k = some p → p.cutsDone = cut → p.cuts[cut]? = some c →
    p.cuts[cut + 1]? = some next → p.passCount.getD 0 ≤ p.passesReported → p.snapshot = some sn →
    s.slabOf p.slabTag = some (n, x) → x.state = .cutting → s.blade i = some b →
    q = { p with
      cuts := p.cuts.set cut { c with state := .done }, cutsDone := cut + 1, passesReported := 0
      touched := true } →
    limit = max sn.entry.minFeed (sn.entry.baseFeed * s.water.factor / 1000) →
    counted = { s.line l with
      badCount := 0
      takenFrames := min 65535 ((s.line l).takenFrames + 1)
      noisyFrames := if noise then min 65535 ((s.line l).noisyFrames + 1) else (s.line l).noisyFrames } →
    (0 < b.wearRemaining →
      exec (.finish l noise (s.station i).toggle cut) s = .next
        (((s.setPlan k (some q)).setStation i
          { s.station i with
            passesTaken := 0, orderOutstanding := true, toggle := !(s.station i).toggle, replyTimer := none
            lastFeedLimit := some limit, silenceTimer := some s.settings.silenceLimit
            queryTimer := some (s.settings.silenceLimit / 2) }).setLine l
          { counted with
            queue := queueFrame (s.line l).queue
              { toggle := !(s.station i).toggle
                message := .order
                  { plan := k, cut := cut + 1, axis := next.axis, startX := next.startX
                    startY := next.startY, travel := next.travel, totalDepth := x.thickness
                    passCount := p.passCount.getD 0, firstPass := 1, passDepth := p.passDepth.getD 0
                    feedLimit := limit } } }))
    ∧ (b.wearRemaining = 0 →
      ∃ t, exec (.finish l noise (s.station i).toggle cut) s = .next t
        ∧ (s.setPlan k (some q)).stopsAt t i
          { (s.station i).stopTimers with
            state := .paused, condition := .bladeWorn, passesTaken := 0, orderOutstanding := false }
          (haltSource i) (.halt .bladeWorn .paused none (some k) (some (cut + 1)) none)
        ∧ t.line l = counted))

/-- R59 and R78: with no order outstanding, in a state that takes no reports, or for a cut other than the current
one, an ACCEPT, PASS or FINISH is answered bad: it is one bad frame (LINE_NOISE at the limit) and changes nothing
else (not the line's receiver, assembler or gap timer either, assumption 6). R80: a PASS whose index is not one
more than the passes taken, or of a cut whose passes are all reported, is answered bad in the same way. -/
def Obligations.ReportsOffTheOrderAreAnsweredBad : Prop :=
  (∀ (s : State) (l : Fin 5) (i : Fin 4) (noise : Bool) (cut passIndex seconds : Nat) (c : Instr),
    (s.line l).enabled = true → (s.line l).inBreak = false → s.userOf l = .station i →
    ((s.station i).state = .detached ∨ (s.station i).state = .listening ∨ (s.station i).state = .ready
      ∨ (s.station i).state = .staged ∨ (s.station i).orderOutstanding = false
      ∨ ∃ k p, (s.station i).plan = some k ∧ s.plan k = some p ∧ p.cutsDone ≠ cut) →
    (c = .accept l noise (s.station i).toggle cut ∨ c = .pass l noise (s.station i).toggle cut passIndex seconds
      ∨ c = .finish l noise (s.station i).toggle cut) →
    ∃ t, exec c s = .next t ∧ s.countsBadFrame t l (s.line l))
  ∧ (∀ (s : State) (l : Fin 5) (i : Fin 4) (noise : Bool) (cut passIndex seconds : Nat) (k : Fin 12) (p : Plan),
    (s.line l).enabled = true → (s.line l).inBreak = false → s.userOf l = .station i →
    (s.station i).plan = some k → s.plan k = some p →
    (passIndex ≠ (s.station i).passesTaken + 1 ∨ p.passCount.getD 0 ≤ p.passesReported) →
    ∃ t, exec (.pass l noise (s.station i).toggle cut passIndex seconds) s = .next t
      ∧ s.countsBadFrame t l (s.line l))

/-- R46, R80, R104, R105, R117, R126 and R142: a taken PASS raises the passes of plan and station, lowers the
remaining travel, marks the plan touched, wears the blade (raising BLADE_LOW once), loads the water with solids
and computes F, which is reported with its crossings as `WaterFactorAndItsReport` says; then saw time and wear are
charged to the pool and PROGRESS is counted, and raised at its interval. x is the state F is reported from, y the
one it leaves; the order in which the stations hear of F is the model's reading (assumption 12). The message
leaves its line's receiver, assembler and gap timer (assumption 6). -/
def Obligations.PassIsBookedToPlanBladeWaterAndPool : Prop :=
  ∀ (s : State) (l : Fin 5) (i : Fin 4) (noise : Bool) (cut passIndex seconds depth sum saw wear : Nat)
    (k : Fin 12) (p : Plan) (c : Cut) (n : Fin 512) (slab : Slab) (sn : Snapshot) (b : Blade)
    (count d interval : Nat) (kept : WaterRetained),
    (s.line l).enabled = true → (s.line l).inBreak = false → s.userOf l = .station i → s.plantLine ≠ l →
    ((s.station i).state = .cutting ∨ (s.station i).state = .holding ∨ (s.station i).state = .paused
      ∨ (s.station i).state = .faulted) →
    (s.station i).orderOutstanding = true → (s.station i).plan = some k → s.plan k = some p →
    p.cutsDone = cut → p.cuts[cut]? = some c → s.slabOf p.slabTag = some (n, slab) → p.snapshot = some sn →
    s.blade i = some b → p.passCount = some count → p.passDepth = some d →
    passIndex = (s.station i).passesTaken + 1 → p.passesReported < count →
    depth = (if passIndex < count then d else slab.thickness - d * (count - 1)) →
    interval = slot s.settings.progressInterval i →
    sum = c.travel * depth * sn.entry.hardness + b.wearCarry →
    saw = min 3600 seconds * slot s.settings.stationRate i → wear = sum / 160000 * b.costPerUnit →
    kept = { s.water.kept with
      solids := min 999999 (s.water.kept.solids
        + (c.travel * p.kerf * depth * sn.entry.density + s.water.kept.solidsCarry) / 100000000)
      solidsCarry := (c.travel * p.kerf * depth * sn.entry.density + s.water.kept.solidsCarry) % 100000000 } →
    ∃ (x y t : State) (requested : Bool),
      exec (.pass l noise (s.station i).toggle cut passIndex seconds) s = .next t
      ∧ x.plans = put s.plans k (some
        { p with
          passesReported := p.passesReported + 1
          remainingTravel := p.remainingTravel.map (· - c.travel)
          touched := true })
      ∧ x.stations = put s.stations i
        { s.station i with
          passesTaken := (s.station i).passesTaken + 1
          replyTimer := if (s.station i).state = .cutting then none else (s.station i).replyTimer }
      ∧ x.blades = put s.blades i (some
        { b with
          wearRemaining := b.wearRemaining - sum / 160000
          wearCarry := sum % 160000
          lowRaised := b.lowRaised
            || decide (b.wearRemaining - sum / 160000 ≤ b.lowMark * b.fittedLife / 1000) })
      ∧ x.notices.sources = (if b.lowRaised = false
            ∧ b.wearRemaining - sum / 160000 ≤ b.lowMark * b.fittedLife / 1000 then
          put s.notices.sources bladeLowSource ((slot s.notices.sources bladeLowSource).raised
            (.bladeLow i b.serial (b.wearRemaining - sum / 160000)))
        else s.notices.sources)
      ∧ requested = decide (s.water.press = .idle ∧ kept.thresholds.autoPress = true
          ∧ s.water.link ≠ .detached ∧ kept.thresholds.press ≤ kept.solids)
      ∧ x.water =
        { s.water with
          kept := kept
          press := if requested then .requested else s.water.press
          pressTimer := if requested then some s.settings.pressStartTimeout else s.water.pressTimer }.withFactors
      ∧ x.lines = put s.lines s.plantLine
        { s.line s.plantLine with
          queue := if requested ∧ (s.line s.plantLine).enabled then
              queueFrame (s.line s.plantLine).queue { toggle := false, message := .press }
            else (s.line s.plantLine).queue }
      ∧ s.enqueuedOnly x [bladePage i, waterPage]
      ∧ x = { s with
          plans := x.plans, blades := x.blades, water := x.water, stations := x.stations, lines := x.lines
          notices := { s.notices with sources := x.notices.sources }
          retention := { s.retention with queue := x.retention.queue } }
      ∧ y = x.factorTold s.water.factor s.thresholds.resume false
      ∧ (∀ j, t.plan j = if j = k then (y.plan k).map (fun q =>
          { q with
            pool := min 999999999999 (min 999999999999 (q.pool + saw) + wear)
            poolSaturated := q.poolSaturated || decide (999999999999 < q.pool + saw)
              || decide (999999999999 < min 999999999999 (q.pool + saw) + wear) }) else y.plan j)
      ∧ t.stations = put y.stations i
        { y.station i with
          progressCount := if interval = 0 then (y.station i).progressCount
            else if interval ≤ (y.station i).progressCount + 1 then 0 else (y.station i).progressCount + 1
          silenceTimer := if (y.station i).state.wet then some s.settings.silenceLimit
            else (y.station i).silenceTimer
          queryTimer := if (y.station i).state = .cutting then some (s.settings.silenceLimit / 2)
            else if (y.station i).state = .holding then some (s.settings.replyTimeout / 2)
            else (y.station i).queryTimer }
      ∧ t.notices.sources = (if interval ≠ 0 ∧ interval ≤ (y.station i).progressCount + 1 then
          put y.notices.sources (progressSource i) ((slot y.notices.sources (progressSource i)).raised
            (.progress k cut passIndex (((y.plan k).bind (·.remainingTravel)).getD 0)))
        else y.notices.sources)
      ∧ t.lines = put y.lines l ((y.line l).counted noise)
      ∧ t = { y with
          plans := t.plans, stations := t.stations, lines := t.lines
          notices := { y.notices with sources := t.notices.sources } }

/-- R47, R104, R105, R117, R126 and R143: an unreported pass is booked by geometry: wear to the blade, its cost to
the plan's pool, solids to the water, and F computed and reported with its crossings; the order in which the
stations hear of F is the model's reading (assumption 12). R47, R81, R104 and R143: the passes a saw did not
report are booked so at its FINISH, in pass order, each at the depth of its own pass; blade and solids stand as
they leave them whatever then becomes of plan and station, and with cuts remaining, and no report of F that could
close the plan, the plan and the other stations do too. R47, R48, R77, R81 and R96: behind those bookings, at z,
the FINISH ends the order and goes on as one with no pass unreported: w, z with the order over, closes its plan
where that was the last cut, keeps a station not CUTTING, sends a CUTTING one the next ORDER with the blade's wear
left, and pauses it with BLADE_WORN without. R47, R48, R81 and R96: the FINISH of the last cut, every pass
reported, closes the plan in each of the four states (as `closesPlan` says): the slot is free, the slab retired,
its reservation spent, the remnants filed, the station READY without a plan and with a flipped toggle, ORDER and
FEED withdrawn, and PLAN_DONE raised. The message leaves its line's receiver, assembler and gap timer (assumption
6). R8, R21, R146 and R150: a close files one REMNANT for each REMNANT leaf, in piece order, with its share of the
basis; each takes the lowest free slot and the first tag from the counter on that no live record holds, the
counter then standing one past it (past 16,777,215 at 8,388,608), one reserved slot is spent, and both pages are
enqueued. -/
def Obligations.LastFinishBooksTheRestAndClosesThePlan : Prop :=
  (∀ (s : State) (i : Fin 4) (k : Fin 12) (p q : Plan) (travel depth sum : Nat) (sn : Snapshot) (b : Blade)
    (kept : WaterRetained),
    s.plan k = some q → s.blade i = some b → p.snapshot = some sn →
    sum = travel * depth * sn.entry.hardness + b.wearCarry →
    kept = { s.water.kept with
      solids := min 999999 (s.water.kept.solids
        + (travel * p.kerf * depth * sn.entry.density + s.water.kept.solidsCarry) / 100000000)
      solidsCarry := (travel * p.kerf * depth * sn.entry.density + s.water.kept.solidsCarry) % 100000000 } →
    ∃ (x : State) (requested : Bool),
      s.bookUnreported i k p travel depth = x.factorTold s.water.factor s.thresholds.resume false
      ∧ requested = decide (s.water.press = .idle ∧ kept.thresholds.autoPress = true
          ∧ s.water.link ≠ .detached ∧ kept.thresholds.press ≤ kept.solids)
      ∧ s.enqueuedOnly x [bladePage i, waterPage]
      ∧ x = { s with
          plans := put s.plans k (some
            { q with
              pool := min 999999999999 (q.pool + sum / 160000 * b.costPerUnit)
              poolSaturated := q.poolSaturated
                || decide (999999999999 < q.pool + sum / 160000 * b.costPerUnit) })
          blades := put s.blades i (some
            { b with
              wearRemaining := b.wearRemaining - sum / 160000
              wearCarry := sum % 160000
              lowRaised := b.lowRaised
                || decide (b.wearRemaining - sum / 160000 ≤ b.lowMark * b.fittedLife / 1000) })
          water := { s.water with
            kept := kept
            press := if requested then .requested else s.water.press
            pressTimer := if requested then some s.settings.pressStartTimeout
              else s.water.pressTimer }.withFactors
          lines := put s.lines s.plantLine
            { s.line s.plantLine with
              queue := if requested ∧ (s.line s.plantLine).enabled then
                  queueFrame (s.line s.plantLine).queue { toggle := false, message := .press }
                else (s.line s.plantLine).queue }
          notices := { s.notices with
            sources := if b.lowRaised = false
                ∧ b.wearRemaining - sum / 160000 ≤ b.lowMark * b.fittedLife / 1000 then
              put s.notices.sources bladeLowSource ((slot s.notices.sources bladeLowSource).raised
                (.bladeLow i b.serial (b.wearRemaining - sum / 160000)))
            else s.notices.sources }
          retention := { s.retention with queue := x.retention.queue } })
  ∧ (∀ (s : State) (l : Fin 5) (i : Fin 4) (noise : Bool) (cut count d : Nat) (k : Fin 12) (p : Plan) (c : Cut)
    (n : Fin 512) (x : Slab) (sn : Snapshot) (b : Blade) (depths : List Nat) (z : State),
    (s.line l).enabled = true → (s.line l).inBreak = false → s.userOf l = .station i →
    ((s.station i).state = .cutting ∨ (s.station i).state = .holding ∨ (s.station i).state = .paused
      ∨ (s.station i).state = .faulted) →
    (s.station i).orderOutstanding = true → (s.station i).plan = some k → s.plan k = some p →
    p.cutsDone = cut → p.cuts[cut]? = some c → s.slabOf p.slabTag = some (n, x) → p.snapshot = some sn →
    s.blade i = some b → p.passCount = some count → p.passDepth = some d →
    depths = (List.range (count - p.passesReported)).map (fun j =>
      if p.passesReported + j + 1 < count then d else x.thickness - d * (count - 1)) →
    z = depths.foldl (fun y h => y.bookUnreported i k p c.travel h)
      ((s.setPlan k (some
        { p with
          remainingTravel := p.remainingTravel.map (· - c.travel * (count - p.passesReported))
          cuts := p.cuts.set cut { c with state := .done }, cutsDone := cut + 1, passesReported := 0
          touched := true })).setStation i
        { s.station i with
          replyTimer := if (s.station i).state = .cutting then none else (s.station i).replyTimer }) →
    ∃ t e, exec (.finish l noise (s.station i).toggle cut) s = .next t
      ∧ t.blade i = some e
      ∧ e.wearRemaining = (depths.foldl (fun y h => y.worn c.travel h sn.entry.hardness) b).wearRemaining
      ∧ e.wearCarry = (depths.foldl (fun y h => y.worn c.travel h sn.entry.hardness) b).wearCarry
      ∧ (∀ j, j ≠ i → t.blade j = s.blade j)
      ∧ t.water.kept = depths.foldl (fun y h =>
          { y with
            solids := min 999999
              (y.solids + (c.travel * p.kerf * h * sn.entry.density + y.solidsCarry) / 100000000)
            solidsCarry := (c.travel * p.kerf * h * sn.entry.density + y.solidsCarry) % 100000000 })
          s.water.kept
      ∧ t.blades = z.blades ∧ t.water = { z.water with commanded := t.water.commanded, settle := t.water.settle }
      ∧ slot t.notices.sources waterSource = slot z.notices.sources waterSource
      ∧ (cut + 1 < p.cuts.length → (∀ j, j ≠ i → (s.station j).plan ≠ some k) → s.factorLaw →
        ((s.station i).state = .paused → (s.station i).condition = .waterHold →
          s.water.factor < s.thresholds.resume) →
        t.plans = z.plans ∧ t.stations = put z.stations i (t.station i)
          ∧ ∀ j, j ≠ l → j ≠ s.plantLine → j ≠ s.stationLine i → t.line j = z.line j))
  ∧ (∀ (s : State) (l : Fin 5) (i : Fin 4) (noise : Bool) (cut count d : Nat) (k : Fin 12) (p : Plan) (c : Cut)
    (n : Fin 512) (x : Slab) (depths : List Nat) (z w : State) (st : Station) (q : Plan),
    (s.line l).enabled = true → (s.line l).inBreak = false → s.userOf l = .station i → s.stationLine i = l →
    s.plantLine ≠ l →
    ((s.station i).state = .cutting ∨ (s.station i).state = .holding ∨ (s.station i).state = .paused
      ∨ (s.station i).state = .faulted) →
    (s.station i).orderOutstanding = true → (s.station i).plan = some k → s.plan k = some p →
    p.cutsDone = cut → p.cuts[cut]? = some c → s.slabOf p.slabTag = some (n, x) →
    p.passCount = some count → p.passDepth = some d →
    depths = (List.range (count - p.passesReported)).map (fun j =>
      if p.passesReported + j + 1 < count then d else x.thickness - d * (count - 1)) →
    z = depths.foldl (fun y h => y.bookUnreported i k p c.travel h)
      ((s.setPlan k (some
        { p with
          remainingTravel := p.remainingTravel.map (· - c.travel * (count - p.passesReported))
          cuts := p.cuts.set cut { c with state := .done }, cutsDone := cut + 1, passesReported := 0
          touched := true })).setStation i
        { s.station i with
          replyTimer := if (s.station i).state = .cutting then none else (s.station i).replyTimer }) →
    w = z.setStation i { z.station i with passesTaken := 0, orderOutstanding := false } →
    st = w.station i → st.plan = some k → w.plan k = some q →
    (q.cutsDone = q.cuts.length → ∀ m y, w.tagNames q.slabTag m y → y.rack = none →
      ∃ t, exec (.finish l noise (s.station i).toggle cut) s = .next t
        ∧ w.closesPlan t i k q m y ∧ t.port = s.port
        ∧ t.line l =
          { z.line l with queue := (z.line l).queue.filter (fun f => !f.message.withdrawable) }.counted noise)
    ∧ (q.cutsDone ≠ q.cuts.length →
      (st.state ≠ .cutting → exec (.finish l noise (s.station i).toggle cut) s = .next
        ((w.setStation i
          { st with
            silenceTimer := if st.state = .holding then some s.settings.silenceLimit else st.silenceTimer
            queryTimer := if st.state = .holding then some (s.settings.replyTimeout / 2)
              else st.queryTimer }).setLine l ((z.line l).counted noise)))
      ∧ ∀ b, st.state = .cutting → w.blade i = some b →
        (b.wearRemaining = 0 → ∃ t, exec (.finish l noise (s.station i).toggle cut) s = .next t
          ∧ w.stopsAt t i { st.stopTimers with state := .paused, condition := .bladeWorn }
            (haltSource i) (.halt .bladeWorn .paused none (some k) (some q.cutsDone) none)
          ∧ t.line l = (z.line l).counted noise)
        ∧ (0 < b.wearRemaining → ∀ next sn m y limit, q.cuts[q.cutsDone]? = some next →
          q.snapshot = some sn → w.slabOf q.slabTag = some (m, y) → y.state = .cutting →
          limit = max sn.entry.minFeed (sn.entry.baseFeed * w.water.factor / 1000) →
          exec (.finish l noise (s.station i).toggle cut) s = .next
            ((w.setStation i
              { st with
                orderOutstanding := true, toggle := !st.toggle, lastFeedLimit := some limit
                silenceTimer := some s.settings.silenceLimit
                queryTimer := some (s.settings.silenceLimit / 2) }).setLine l
              { (z.line l).counted noise with
                queue := queueFrame (z.line l).queue
                  { toggle := !st.toggle
                    message := .order
                      { plan := k, cut := q.cutsDone, axis := next.axis, startX := next.startX
                        startY := next.startY, travel := next.travel, totalDepth := y.thickness
                        passCount := q.passCount.getD 0, firstPass := 1, passDepth := q.passDepth.getD 0
                        feedLimit := limit } } }))))
  ∧ (∀ (s : State) (l : Fin 5) (i : Fin 4) (noise : Bool) (cut : Nat) (k : Fin 12) (p : Plan) (n : Fin 512)
    (x : Slab),
    (s.line l).enabled = true → (s.line l).inBreak = false → s.userOf l = .station i → s.stationLine i = l →
    s.plantLine ≠ l →
    ((s.station i).state = .cutting ∨ (s.station i).state = .holding ∨ (s.station i).state = .paused
      ∨ (s.station i).state = .faulted) →
    (s.station i).orderOutstanding = true → (s.station i).plan = some k → s.plan k = some p →
    p.cutsDone = cut → cut + 1 = p.cuts.length → p.passCount.getD 0 ≤ p.passesReported →
    s.tagNames p.slabTag n x → x.rack = none →
    ∃ t, exec (.finish l noise (s.station i).toggle cut) s = .next t
      ∧ s.closesPlan t i k p n x ∧ t.port = s.port
      ∧ t.line l =
        { s.line l with queue := (s.line l).queue.filter (fun f => !f.message.withdrawable) }.counted noise
      ∧ (s.liveSlabs + s.stock.reserved ≤ 512 → p.leaves.countP Leaf.isRemnant ≤ s.stock.reserved →
        (∀ j r, j ≠ n → s.slab j = some r → t.slab j = some r)
        ∧ t.liveSlabs + 1 = s.liveSlabs + p.leaves.countP Leaf.isRemnant
        ∧ t.stock.reserved = s.stock.reserved - p.leaves.countP Leaf.isRemnant))
  ∧ ((∀ (p : Plan) (basis : Nat) (sn : Snapshot), p.snapshot = some sn →
    p.remnants basis = p.pieces.toList.filterMap fun
      | .leaf r _ (some .remnant) =>
        some (r, basis * (r.length * r.width) * sn.entry.valueFactor / (p.slabArea * 256))
      | _ => none)
  ∧ ∀ (s : State) (parent : Slab) (rect : Rect) (basis : Nat) (n : Fin 512) (tag : Nat),
    s.slab n = none → (∀ m, m < n → s.slab m ≠ none) →
    8388608 ≤ s.stock.tagCounter → s.stock.tagCounter ≤ 16777215 → 8388608 ≤ tag → tag ≤ 16777215 →
    (∀ m r, s.slab m = some r → r.tag ≠ tag) →
    (∀ u, 8388608 ≤ u → u ≤ 16777215 →
      (u + 8388608 - s.stock.tagCounter) % 8388608 < (tag + 8388608 - s.stock.tagCounter) % 8388608 →
      ∃ m r, s.slab m = some r ∧ r.tag = u) →
    ∃ t, s.createRemnant parent rect basis = t
      ∧ s.enqueuedOnly t [slabPage n, countersPage]
      ∧ t = { s with
          stock := { s.stock with
            slabs := put s.stock.slabs n (some
              { tag := tag, kind := .remnant, material := parent.material, length := rect.length
                width := rect.width, thickness := parent.thickness, cost := basis, parent := some parent.tag
                rack := none, state := .available, holder := none, interrupted := false })
            reserved := s.stock.reserved - 1
            tagCounter := if tag = 16777215 then 8388608 else tag + 1 }
          retention := { s.retention with queue := t.retention.queue } })

/-- R70, R82: a FAULT of an attached saw makes the station FAULTED with SAW_FAULT, keeps the code and the cut
index given, stops its timers, closes its supply valve and raises HALT; plan and order outstanding are kept, and
the line's receiver, assembler and gap timer with them (assumption 6). R54, R70 and R89: the second break
character of a break run is BREAK, the saw's emergency stop: in every attached state the station is FAULTED with
ESTOP, its last mode absent, its timers stopped and ESTOP raised. -/
def Obligations.FaultAndBreakFaultTheStation : Prop :=
  (∀ (s : State) (l : Fin 5) (i : Fin 4) (noise toggle : Bool) (code cut : Nat),
    (s.line l).enabled = true → (s.line l).inBreak = false → s.userOf l = .station i → s.plantLine ≠ l →
    (s.station i).state ≠ .detached → 1 ≤ code →
    ∃ t, exec (.fault l noise toggle code cut) s = .next t
      ∧ s.stopsAt t i
        { (s.station i).stopTimers with
          state := .faulted, condition := .sawFault, sawMode := some .fault, faultCode := some code
          faultCut := cut }
        (haltSource i) (.halt .sawFault .faulted (some code) (s.station i).plan (s.currentCutNumber i)
          (some cut))
      ∧ t.line l =
        { s.line l with
          badCount := 0
          takenFrames := min 65535 ((s.line l).takenFrames + 1)
          noisyFrames := if noise then min 65535 ((s.line l).noisyFrames + 1) else (s.line l).noisyFrames })
  ∧ (∀ (s : State) (l : Fin 5) (i : Fin 4) (e : Instr) (seen : Nat),
    (s.line l).enabled = true → (s.line l).inBreak = false → (s.line l).breakRun = true →
    s.decidesBreak l e seen →
    s.userOf l = .station i → s.plantLine ≠ l → (s.station i).state ≠ .detached →
    ∃ t, exec e s = .next t
      ∧ s.stopsAt t i
        { (s.station i).stopTimers with state := .faulted, condition := .estop, sawMode := none }
        (estopSource i) (.estop .faulted (s.station i).plan (s.currentCutNumber i))
      ∧ t.line l =
        { s.line l with
          receiver := .startSearch
          onesSeen := seen
          inBreak := true
          gap := .stopped
          assembler := match (s.line l).assembler with
            | .assembling _ _ => .discarding
            | a => a })

/-- R79, R84 and R87: the expiry of a running ACCEPT wait in CUTTING, hold wait in HOLDING or silence timer in
either makes the station FAULTED with NO_ACCEPT, NO_HOLD or SILENT, its last mode absent, its timers stopped, HALT
raised and a QUERY handed to its line. R71, R84 and R87: the reply timer's expiry in LISTENING and the query
timer's in CUTTING and HOLDING hand a QUERY to the line and start the timer again. The expiry of each timer, where
it does not run or the station is in no state that runs it so, changes nothing (the model's reading, assumption
5). -/
def Obligations.StationTimersFaultOrAskAgain : Prop :=
  (∀ (s : State) (i : Fin 4) (event : Instr) (condition : Condition),
    s.plantLine ≠ s.stationLine i →
    ((event = .acceptWaitExpiry i ∧ condition = .noAccept ∧ (s.station i).state = .cutting
        ∧ (s.station i).replyTimer ≠ none)
      ∨ (event = .holdWaitExpiry i ∧ condition = .noHold ∧ (s.station i).state = .holding
        ∧ (s.station i).replyTimer ≠ none)
      ∨ (event = .silenceTimerExpiry i ∧ condition = .silent
        ∧ ((s.station i).state = .cutting ∨ (s.station i).state = .holding)
        ∧ (s.station i).silenceTimer ≠ none)) →
    ∃ t, exec event s = .next t
      ∧ s.stopsAt t i
        { (s.station i).stopTimers with state := .faulted, condition := condition, sawMode := none }
        (haltSource i) (.halt condition .faulted none (s.station i).plan (s.currentCutNumber i) none)
      ∧ t.line (s.stationLine i) =
        { s.line (s.stationLine i) with
          queue := if (s.line (s.stationLine i)).enabled then
            queueFrame (s.line (s.stationLine i)).queue
              { toggle := (s.station i).toggle, message := .query }
            else (s.line (s.stationLine i)).queue })
  ∧ (∀ (s : State) (i : Fin 4),
    ((s.station i).state = .listening → (s.station i).replyTimer ≠ none →
      exec (.listeningReplyTimerExpiry i) s = .next
        ((s.setStation i { s.station i with replyTimer := some s.settings.replyTimeout }).handFrame
          (s.stationLine i) { toggle := (s.station i).toggle, message := .query }))
    ∧ ((s.station i).state = .cutting → (s.station i).queryTimer ≠ none →
      exec (.stationQueryTimerExpiry i) s = .next
        ((s.setStation i { s.station i with queryTimer := some (s.settings.silenceLimit / 2) }).handFrame
          (s.stationLine i) { toggle := (s.station i).toggle, message := .query }))
    ∧ ((s.station i).state = .holding → (s.station i).queryTimer ≠ none →
      exec (.stationQueryTimerExpiry i) s = .next
        ((s.setStation i { s.station i with queryTimer := some (s.settings.replyTimeout / 2) }).handFrame
          (s.stationLine i) { toggle := (s.station i).toggle, message := .query }))
    ∧ ((s.station i).replyTimer = none ∨ (s.station i).state ≠ .listening →
      exec (.listeningReplyTimerExpiry i) s = .next s)
    ∧ ((s.station i).replyTimer = none ∨ (s.station i).state ≠ .cutting →
      exec (.acceptWaitExpiry i) s = .next s)
    ∧ ((s.station i).replyTimer = none ∨ (s.station i).state ≠ .holding → exec (.holdWaitExpiry i) s = .next s)
    ∧ ((s.station i).queryTimer = none
        ∨ ((s.station i).state ≠ .cutting ∧ (s.station i).state ≠ .holding) →
      exec (.stationQueryTimerExpiry i) s = .next s)
    ∧ ((s.station i).silenceTimer = none
        ∨ ((s.station i).state ≠ .cutting ∧ (s.station i).state ≠ .holding) →
      exec (.silenceTimerExpiry i) s = .next s))

/-- R86 and R88: STOP_STATION by the station's state: STAGED is PAUSED with HOST_STOP; CUTTING hands a HOLD, which
withdraws an ORDER and a FEED that wait, and is HOLDING with HOST_STOP; HOLDING, and PAUSED with WATER_HOLD, take
the condition; the rest change nothing; DETACHED, LISTENING and READY are refused. R92: the first two courses of
RESUME_STATION. A station whose slab is still HELD is STAGED with condition NONE, and sends the first ORDER at
once when the loaded edge was seen. With every pass of the current cut taken the cut is finished first: with cuts
remaining the ORDER is for the next one, and with none the plan closes. R92 and R77: a RESUME_STATION of a station
whose slab is being cut, with passes of the current cut to go, sends a new ORDER for that cut with a flipped
toggle from the first pass not taken, and is CUTTING with NONE. R92: the refusals of RESUME_STATION in order:
WRONG_STATE; for a PAUSED station, and a FAULTED one with a plan whose saw reports IDLE or HELD, BLADE_WORN,
WATER_HOLD; each leaves station and plan as they were. -/
def Obligations.StationsAreStoppedAndResumed : Prop :=
  (∀ (s : State) (echo : Byte) (i : Fin 4), s.serving (.stopStation echo i.val) →
    (((s.station i).state = .detached ∨ (s.station i).state = .listening ∨ (s.station i).state = .ready) →
      exec (.stopStation echo i.val) s = .next { s with port := s.port.replied echo .wrongState [] })
    ∧ ((s.station i).state = .staged → exec (.stopStation echo i.val) s = .next
        { (s.setStation i { s.station i with state := .paused, condition := .hostStop }) with
          port := s.port.replied echo .ok (leFields [(1, 6), (1, 1)]) })
    ∧ (((s.station i).state = .holding ∨ ((s.station i).state = .paused
          ∧ (s.station i).condition = .waterHold)) → exec (.stopStation echo i.val) s = .next
        { (s.setStation i { s.station i with condition := .hostStop }) with
          port := s.port.replied echo .ok (leFields [(1, (s.station i).state.code), (1, 1)]) })
    ∧ (((s.station i).state = .faulted ∨ ((s.station i).state = .paused
          ∧ (s.station i).condition ≠ .waterHold)) → exec (.stopStation echo i.val) s = .next
        { s with
          port := s.port.replied echo .ok
            (leFields [(1, (s.station i).state.code), (1, (s.station i).condition.code)]) })
    ∧ ((s.station i).state = .cutting → (s.line (s.stationLine i)).enabled = true →
      exec (.stopStation echo i.val) s = .next
        { ((s.setLine (s.stationLine i)
            { s.line (s.stationLine i) with
              queue := { toggle := (s.station i).toggle, message := .hold }
                :: (s.line (s.stationLine i)).queue.filter
                  (fun f => !f.message.withdrawable && f.message.kindCode != 2) }).setStation i
            { s.station i with
              state := .holding, condition := .hostStop, replyTimer := none
              queryTimer := some (s.settings.replyTimeout / 2)
              orderOutstanding := (s.station i).orderOutstanding
                && !(s.line (s.stationLine i)).queue.any (fun f => f.message.isOrder) }) with
          port := s.port.replied echo .ok (leFields [(1, 5), (1, 1)]) }))
  ∧ (∀ (s : State) (echo : Byte) (i : Fin 4) (k : Fin 12) (p : Plan) (c : Cut) (sn : Snapshot) (n : Fin 512)
    (x : Slab) (b : Blade) (limit : Nat) (order : Nat → Cut → Nat → TxFrame) (sent : Station) (l : Fin 5),
    s.serving (.resumeStation echo i.val) → l = s.stationLine i → s.plantLine ≠ l →
    ((s.station i).state = .paused
      ∨ ((s.station i).state = .faulted ∧ ((s.station i).sawMode = some .idle
        ∨ (s.station i).sawMode = some .held))) →
    (s.station i).plan = some k → s.plan k = some p → p.cuts[p.cutsDone]? = some c → p.snapshot = some sn →
    s.tagNames p.slabTag n x → s.blade i = some b → 0 < b.wearRemaining →
    s.thresholds.resume ≤ s.water.factor → (s.line l).enabled = true →
    limit = max sn.entry.minFeed (sn.entry.baseFeed * s.water.factor / 1000) →
    (∀ cut g first, order cut g first =
      { toggle := !(s.station i).toggle
        message := .order
          { plan := k, cut := cut, axis := g.axis, startX := g.startX, startY := g.startY, travel := g.travel
            totalDepth := x.thickness, passCount := p.passCount.getD 0, firstPass := first
            passDepth := p.passDepth.getD 0, feedLimit := limit } }) →
    sent =
      { s.station i with
        state := .cutting, toggle := !(s.station i).toggle, orderOutstanding := true
        condition := .none, lastFeedLimit := some limit
        silenceTimer := some s.settings.silenceLimit, queryTimer := some (s.settings.silenceLimit / 2) } →
    (x.state = .held → (s.station i).loadedSinceStaging = false →
      exec (.resumeStation echo i.val) s = .next
        { s.setStation i { s.station i with state := .staged, condition := .none } with
          port := s.port.replied echo .ok (leFields [(1, 3), (1, 255), (1, 255)]) })
    ∧ (x.state = .held → (s.station i).loadedSinceStaging = true →
      ∃ t, exec (.resumeStation echo i.val) s = .next t
        ∧ t.line l = { s.line l with
            queue := queueFrame (s.line l).queue (order p.cutsDone c ((s.station i).passesTaken + 1)) }
        ∧ (∀ j, j ≠ l → j ≠ s.plantLine → t.line j = s.line j) ∧ s.valvesSent t
        ∧ t.water.commanded = put s.water.commanded (supplyValve i) true
        ∧ (∀ q, slot t.stock.rackMap q = if x.rack = some q then none else slot s.stock.rackMap q)
        ∧ s.enqueuedOnly t [slabPage n]
        ∧ t = { s with
            port := s.port.replied echo .ok
              (leFields [(1, 4), (1, p.cutsDone), (1, (s.station i).passesTaken + 1)])
            stations := put s.stations i sent
            lines := t.lines
            stock := { s.stock with
              slabs := put s.stock.slabs n (some { x with state := .cutting, rack := none })
              rackMap := t.stock.rackMap }
            water := { s.water with commanded := t.water.commanded, settle := t.water.settle }
            retention := { s.retention with queue := t.retention.queue } })
    ∧ (∀ next, x.state = .cutting → p.passCount = some (s.station i).passesTaken →
      p.cuts[p.cutsDone + 1]? = some next →
      ∃ t, exec (.resumeStation echo i.val) s = .next t
        ∧ t.line l = { s.line l with queue := queueFrame (s.line l).queue (order (p.cutsDone + 1) next 1) }
        ∧ (∀ j, j ≠ l → j ≠ s.plantLine → t.line j = s.line j) ∧ s.valvesSent t
        ∧ t.water.commanded = put s.water.commanded (supplyValve i) true
        ∧ t = { s with
            port := s.port.replied echo .ok (leFields [(1, 4), (1, p.cutsDone + 1), (1, 1)])
            plans := put s.plans k (some
              { p with
                cuts := p.cuts.set p.cutsDone { c with state := .done }, cutsDone := p.cutsDone + 1
                passesReported := 0, touched := true })
            stations := put s.stations i { sent with passesTaken := 0 }
            lines := t.lines
            water := { s.water with commanded := t.water.commanded, settle := t.water.settle } })
    ∧ (x.state = .cutting → x.rack = none → p.passCount = some (s.station i).passesTaken →
      p.cutsDone + 1 = p.cuts.length →
      ∃ t, exec (.resumeStation echo i.val) s = .next t
        ∧ s.closesPlan t i k p n x
        ∧ t.port = s.port.replied echo .ok (leFields [(1, 2), (1, 255), (1, 255)])
        ∧ t.line l =
          { s.line l with queue := (s.line l).queue.filter (fun f => !f.message.withdrawable) }))
  ∧ (∀ (s : State) (echo : Byte) (i : Fin 4) (k : Fin 12) (p : Plan) (c : Cut) (sn : Snapshot) (n : Fin 512)
    (x : Slab) (b : Blade) (limit : Nat),
    s.serving (.resumeStation echo i.val) → s.plantLine ≠ s.stationLine i →
    ((s.station i).state = .paused
      ∨ ((s.station i).state = .faulted ∧ ((s.station i).sawMode = some .idle
        ∨ (s.station i).sawMode = some .held))) →
    (s.station i).plan = some k → s.plan k = some p → p.cuts[p.cutsDone]? = some c → p.snapshot = some sn →
    s.slabOf p.slabTag = some (n, x) → x.state = .cutting → p.passCount ≠ some (s.station i).passesTaken →
    s.blade i = some b → 0 < b.wearRemaining → s.thresholds.resume ≤ s.water.factor →
    (s.line (s.stationLine i)).enabled = true →
    limit = max sn.entry.minFeed (sn.entry.baseFeed * s.water.factor / 1000) →
    ∃ t, exec (.resumeStation echo i.val) s = .next t
      ∧ t.station i =
        { s.station i with
          state := .cutting, toggle := !(s.station i).toggle, orderOutstanding := true
          condition := .none, lastFeedLimit := some limit
          silenceTimer := some s.settings.silenceLimit, queryTimer := some (s.settings.silenceLimit / 2) }
      ∧ (∀ j, j ≠ i → t.station j = s.station j)
      ∧ t.line (s.stationLine i) =
        { s.line (s.stationLine i) with
          queue := queueFrame (s.line (s.stationLine i)).queue
            { toggle := !(s.station i).toggle
              message := .order
                { plan := k, cut := p.cutsDone, axis := c.axis, startX := c.startX, startY := c.startY
                  travel := c.travel, totalDepth := x.thickness, passCount := p.passCount.getD 0
                  firstPass := (s.station i).passesTaken + 1, passDepth := p.passDepth.getD 0
                  feedLimit := limit } } }
      ∧ (∀ j, j ≠ s.stationLine i → j ≠ s.plantLine → t.line j = s.line j) ∧ s.valvesSent t
      ∧ (∀ v, slot t.water.commanded v = if v = supplyValve i then true else slot s.water.commanded v)
      ∧ t = { s with
          port := s.port.replied echo .ok
            (leFields [(1, 4), (1, p.cutsDone), (1, (s.station i).passesTaken + 1)])
          stations := t.stations
          lines := t.lines
          water := { s.water with commanded := t.water.commanded, settle := t.water.settle } })
  ∧ (∀ (s : State) (echo : Byte) (i : Fin 4), s.serving (.resumeStation echo i.val) →
    ((s.station i).state ≠ .paused → ((s.station i).state ≠ .faulted ∨ (s.station i).plan = none
        ∨ ((s.station i).sawMode ≠ some .idle ∧ (s.station i).sawMode ≠ some .held)) →
      exec (.resumeStation echo i.val) s = .next { s with port := s.port.replied echo .wrongState [] })
    ∧ ((s.station i).state = .paused ∨ ((s.station i).state = .faulted ∧ (s.station i).plan ≠ none
          ∧ ((s.station i).sawMode = some .idle ∨ (s.station i).sawMode = some .held)) →
      ((s.blade i).any (fun b => decide (0 < b.wearRemaining)) = false →
        exec (.resumeStation echo i.val) s = .next { s with port := s.port.replied echo .bladeWorn [] })
      ∧ ((s.blade i).any (fun b => decide (0 < b.wearRemaining)) = true →
        s.water.factor < s.thresholds.resume →
        exec (.resumeStation echo i.val) s = .next { s with port := s.port.replied echo .waterHold [] })))

/-- R44, R97, R151 and R152: ABANDON_PLAN of a BOUND plan whose station is STAGED, PAUSED or FAULTED books the
pool, and the basis of a touched slab, to the overhead account, releases the designations and the reservation,
retires the touched slab or releases the untouched one, frees the slot and returns the station to READY; while the
station is CUTTING or HOLDING it is refused. -/
def Obligations.AbandonPlanBooksAndLetsGo : Prop :=
  ∀ (s : State) (echo : Byte) (k : Fin 12) (p : Plan) (i : Fin 4) (n : Fin 512) (x : Slab),
    s.serving (.abandonPlan echo k.val) → s.plan k = some p → p.state = .bound → p.station = some i →
    s.tagNames p.slabTag n x →
    (((s.station i).state = .cutting ∨ (s.station i).state = .holding) →
      exec (.abandonPlan echo k.val) s = .next { s with port := s.port.replied echo .wrongState [] })
    ∧ ((s.station i).state ≠ .cutting → (s.station i).state ≠ .holding →
      ∃ t, exec (.abandonPlan echo k.val) s = .next t
        ∧ t.plan k = none ∧ (∀ j, j ≠ k → t.plan j = s.plan j)
        ∧ t.slab n = (if p.touched then none else some { x with state := .available, holder := none })
        ∧ (∀ j, j ≠ n → t.slab j = s.slab j)
        ∧ (∀ q, slot t.stock.rackMap q =
            if p.touched = true ∧ x.rack = some q then none else slot s.stock.rackMap q)
        ∧ t.stock.reserved = s.stock.reserved - p.reservedRemnants
        ∧ (∀ a b, t.jobLine a b = (s.jobLine a b).map fun y =>
            { y with designated := y.designated - p.partsOf a b })
        ∧ (∀ m, (t.job m).map (fun j => { j with lines := Vector.replicate 8 none })
            = (s.job m).map fun j => { j with lines := Vector.replicate 8 none })
        ∧ t.overhead =
          { materialTotal := if p.touched then min 999999999 (s.overhead.materialTotal + x.cost)
              else s.overhead.materialTotal
            processTotal := min 999999999 (s.overhead.processTotal + (s.overhead.carry + p.pool) / 1000)
            carry := (s.overhead.carry + p.pool) % 1000
            saturated := s.overhead.saturated
              || decide (999999999 < s.overhead.processTotal + (s.overhead.carry + p.pool) / 1000)
              || p.poolSaturated
              || (p.touched && decide (999999999 < s.overhead.materialTotal + x.cost)) }
        ∧ t.station i =
          { (s.station i).stopTimers with
            state := .ready, plan := none, toggle := !(s.station i).toggle, orderOutstanding := false
            passesTaken := 0, loadedSinceStaging := false, progressCount := 0, condition := .none }
        ∧ (∀ j, j ≠ i → t.station j = s.station j)
        ∧ t.lines = put s.lines (s.stationLine i)
            { s.line (s.stationLine i) with
              queue := (s.line (s.stationLine i)).queue.filter (fun f => !f.message.withdrawable) }
        ∧ slabPage n ∈ t.retention.queue ∧ s.retention.queue <+: t.retention.queue
        ∧ t = { s with
            port := s.port.replied echo .ok
              (leFields [(3, p.slabTag), (1, if p.touched then 1 else 0), (5, p.pool)])
            plans := t.plans, jobs := t.jobs, overhead := t.overhead, stations := t.stations, lines := t.lines
            stock := { s.stock with
              slabs := t.stock.slabs, rackMap := t.stock.rackMap, reserved := t.stock.reserved }
            retention := { s.retention with queue := t.retention.queue } })

/-- R60: READ_LINE returns the line's user, enable, divisor in use, BREAK, consecutive-bad count, queue, frame on
the wire and four counters, and changes nothing; a number above 4 is refused with BAD_VALUE. R95: READ_STATION
answers OK with the station record as it stands and changes nothing; a number above 3 is refused with BAD_VALUE. A
timer's two codes are the model's choice (assumption 23). R128: READ_WATER answers OK with the Water Supervisor's
state as it stands and changes nothing; the codes of its timers are the model's reading (assumption 23). -/
def Obligations.LineStationAndWaterReadsChangeNothing : Prop :=
  (∀ (s : State) (echo : Byte),
    (∀ l : Fin 5, s.serving (.readLine echo l.val) →
      exec (.readLine echo l.val) s = .next { s with
        port := s.port.replied echo .ok (leFields
          ([(1, match s.userOf l with
              | .station i => i.val
              | .plant => 4),
            (1, if (s.line l).enabled then 1 else 0),
            (2, if (s.line l).enabled then (s.line l).divisor else 0),
            (1, if (s.line l).inBreak then 1 else 0), (1, (s.line l).badCount)]
          ++ ((List.range 4).map fun d => (1, (((s.line l).queue[d]?).map (·.message.kindCode)).getD 255))
          ++ [(1, match (s.line l).transmitter with
              | .sending f => f.message.kindCode
              | _ => 255),
            (2, (s.line l).takenFrames), (2, (s.line l).badFrames), (2, (s.line l).noisyFrames),
            (2, (s.line l).staleReports)])) })
    ∧ ∀ line, 4 < line → s.serving (.readLine echo line) →
      exec (.readLine echo line) s = .next { s with port := s.port.replied echo .badValue [] })
  ∧ (∀ (s : State) (echo : Byte),
    (∀ i : Fin 4, s.serving (.readStation echo i.val) →
      exec (.readStation echo i.val) s = .next { s with
        port := s.port.replied echo .ok (leFields
          [(1, (s.station i).state.code), (1, (s.stationLine i).val),
            (1, ((s.station i).plan.map (·.val)).getD 255), (1, if (s.station i).toggle then 1 else 0),
            (1, if (s.station i).orderOutstanding then 1 else 0), (1, (s.station i).passesTaken),
            (1, if (s.station i).tableLoaded then 1 else 0),
            (1, if (s.station i).loadedSinceStaging then 1 else 0),
            (1, ((s.station i).sawMode.map (·.code)).getD 255), (1, (s.station i).sawPassesDone),
            (1, (s.station i).condition.code), (1, (s.station i).faultCode.getD 0),
            (2, (s.station i).lastFeedLimit.getD 0), (1, (s.station i).progressCount),
            (2, if s.water.factor = 0 then 0 else ((s.boundPlan i).map fun x =>
              (x.2.snapshot.map fun y =>
                max y.entry.minFeed (y.entry.baseFeed * s.water.factor / 1000)).getD 0).getD 0),
            (1, if (s.blade i).isSome then 1 else 0), (1, if (s.station i).replyTimer.isSome then 0 else 1),
            (1, if (s.station i).silenceTimer.isSome then 0 else 1)]) })
    ∧ ∀ station, 3 < station → s.serving (.readStation echo station) →
      exec (.readStation echo station) s = .next { s with port := s.port.replied echo .badValue [] })
  ∧ (∀ (s : State) (echo : Byte), s.serving (.readWater echo) →
    exec (.readWater echo) s = .next { s with
      port := s.port.replied echo .ok (leFields
        ([(1, s.water.link.code), (1, s.plantLine.val), (2, s.water.clear.getD 65535),
          (2, s.water.settling.getD 65535), (3, s.water.meterBaseline.getD 16777215)]
        ++ (List.finRange 5).flatMap (fun v =>
          [(1, if slot s.water.commanded v then 1 else 0),
            (1, (s.water.reported.map fun r => if slot r v then 1 else 0).getD 255),
            (1, match slot s.water.settle v with
              | .stopped => 0
              | .running _ => 1
              | .expired => 2)])
        ++ [(3, s.water.kept.solids), (4, s.water.kept.solidsCarry), (1, s.water.press.code),
          (1, if s.water.pressTimer.isSome then 1 else 0), (4, s.water.kept.periodUsed),
          (4, s.water.kept.allowance.getD 4294967295), (1, if s.water.allowanceReached then 1 else 0),
          (2, s.water.fClear), (2, s.water.fSettle), (2, s.water.fSolids), (2, s.water.factor),
          (2, s.thresholds.hold), (2, s.thresholds.low), (2, s.thresholds.fill), (2, s.thresholds.full),
          (3, s.thresholds.press), (3, s.thresholds.slow), (3, s.thresholds.stop), (2, s.thresholds.resume),
          (1, if s.thresholds.autoPress then 1 else 0)])) })

/-! ### Chapter 5: blades -/

/-- R98 to R100: a FIT_BLADE that passes its checks stores the record with life, cost and low mark clamped; a
fresh fit (wear 16,777,215) has its whole life, a used one the clamped figure, low-raised when at or below the
threshold; the page is enqueued at every success, also where the record equals the present one (R100 and R107;
that R175 does not speak of such a fit is the model's reading, assumption 31). The reply is the record in the
order of R98, its wear carry in 3 bytes (the model's reading of R189, assumption 22). R99: the checks of FIT_BLADE
in order: station, ranges, the station's state, the bound plan's kerf, the slab's thickness and the plan's pass
depth; each refusal leaves the present record as it was. That the ranges go before the pass depth, where 5.4's
last example has DEPTH for 90, is the model's choice (assumption 30). R101 and R102: REMOVE_BLADE makes the record
absent where no plan is bound and returns it as it stood; READ_BLADE returns the record, the low threshold and the
wear used and changes nothing; both answer NO_BLADE where there is none. -/
def Obligations.BladesAreFittedRemovedAndRead : Prop :=
  (∀ (s : State) (echo : Byte) (i : Fin 4)
    (serial kerf maxPassDepth maxDepth life costPerUnit lowMark wear fitted mark remaining : Nat) (b : Blade),
    s.serving (.fitBlade echo i.val serial kerf maxPassDepth maxDepth life costPerUnit lowMark wear) →
    (1 ≤ serial ∧ serial ≤ 16777215) → (20 ≤ kerf ∧ kerf ≤ 80) →
    (100 ≤ maxPassDepth ∧ maxPassDepth ≤ 600) → (100 ≤ maxDepth ∧ maxDepth ≤ 600) →
    maxPassDepth ≤ maxDepth →
    ((s.station i).state ≠ .staged ∧ (s.station i).state ≠ .cutting ∧ (s.station i).state ≠ .holding) →
    (∀ k p, (s.station i).plan = some k → s.plan k = some p →
      kerf ≤ p.kerf ∧ s.slabThickness p.slabTag ≤ maxDepth ∧ p.passDepth.getD 0 ≤ maxPassDepth) →
    fitted = max 50000 (min 5000000 life) → mark = (if lowMark = 65535 then 100 else min 500 lowMark) →
    remaining = (if wear = 16777215 then fitted else min fitted wear) →
    b = { serial := serial, kerf := kerf, maxPassDepth := maxPassDepth, maxDepth := maxDepth
          fittedLife := fitted, wearRemaining := remaining, wearCarry := 0
          costPerUnit := min 10000 costPerUnit, lowMark := mark
          lowRaised := decide (wear ≠ 16777215 ∧ remaining ≤ mark * fitted / 1000) } →
    ∃ t, exec (.fitBlade echo i.val serial kerf maxPassDepth maxDepth life costPerUnit lowMark wear) s = .next t
      ∧ s.enqueuedOnly t [bladePage i]
      ∧ t = { s with
          blades := put s.blades i (some b)
          port := s.port.replied echo .ok (leFields [(3, serial), (1, kerf), (2, maxPassDepth), (2, maxDepth),
            (3, fitted), (3, remaining), (3, 0), (2, b.costPerUnit), (2, mark),
            (1, if b.lowRaised then 1 else 0)])
          retention := { s.retention with queue := t.retention.queue } })
  ∧ (∀ (s : State) (echo : Byte) (station serial kerf maxPassDepth maxDepth life costPerUnit lowMark wear : Nat)
    (code : ReplyCode) (ranges : Prop),
    s.serving (.fitBlade echo station serial kerf maxPassDepth maxDepth life costPerUnit lowMark wear) →
    (ranges ↔ (1 ≤ serial ∧ serial ≤ 16777215) ∧ (20 ≤ kerf ∧ kerf ≤ 80)
      ∧ (100 ≤ maxPassDepth ∧ maxPassDepth ≤ 600) ∧ (100 ≤ maxDepth ∧ maxDepth ≤ 600)
      ∧ maxPassDepth ≤ maxDepth) →
    (((3 < station ∨ ¬ranges) ∧ code = .badValue)
      ∨ ∃ i : Fin 4, station = i.val ∧ ranges
        ∧ ((((s.station i).state = .staged ∨ (s.station i).state = .cutting ∨ (s.station i).state = .holding)
            ∧ code = .wrongState)
          ∨ ∃ k p, ((s.station i).state = .paused ∨ (s.station i).state = .faulted)
            ∧ (s.station i).plan = some k ∧ s.plan k = some p
            ∧ ((p.kerf < kerf ∧ code = .kerf)
              ∨ (kerf ≤ p.kerf ∧ code = .depth
                ∧ (maxDepth < s.slabThickness p.slabTag ∨ maxPassDepth < p.passDepth.getD 0))))) →
    exec (.fitBlade echo station serial kerf maxPassDepth maxDepth life costPerUnit lowMark wear) s
      = .next { s with port := s.port.replied echo code [] })
  ∧ (∀ (s : State) (echo : Byte) (i : Fin 4) (record : Blade → List (Nat × Nat)),
    (∀ b, record b = [(3, b.serial), (1, b.kerf), (2, b.maxPassDepth), (2, b.maxDepth), (3, b.fittedLife),
      (3, b.wearRemaining), (3, b.wearCarry), (2, b.costPerUnit), (2, b.lowMark),
      (1, if b.lowRaised then 1 else 0)]) →
    (s.serving (.removeBlade echo i.val) →
      (((s.station i).state = .detached ∨ (s.station i).state = .listening ∨ (s.station i).state = .ready
          ∨ (s.station i).state = .faulted) → (s.station i).plan = none →
        (s.blade i = none →
          exec (.removeBlade echo i.val) s = .next { s with port := s.port.replied echo .noBlade [] })
        ∧ ∀ b, s.blade i = some b → ∃ t, exec (.removeBlade echo i.val) s = .next t
          ∧ s.enqueuedOnly t [bladePage i]
          ∧ t = { s with
              blades := put s.blades i none
              port := s.port.replied echo .ok (leFields (record b))
              retention := { s.retention with queue := t.retention.queue } })
      ∧ (((s.station i).state = .staged ∨ (s.station i).state = .cutting ∨ (s.station i).state = .holding
          ∨ (s.station i).state = .paused ∨ (s.station i).plan ≠ none) →
        exec (.removeBlade echo i.val) s = .next { s with port := s.port.replied echo .wrongState [] }))
    ∧ (s.serving (.readBlade echo i.val) →
      (s.blade i = none →
        exec (.readBlade echo i.val) s = .next { s with port := s.port.replied echo .noBlade [] })
      ∧ ∀ b, s.blade i = some b → exec (.readBlade echo i.val) s = .next { s with
          port := s.port.replied echo .ok (leFields (record b
            ++ [(3, b.lowMark * b.fittedLife / 1000), (3, b.fittedLife - b.wearRemaining)])) }))

/-! ### Chapter 6: the water loop -/

/-- R125: each factor is 1000 and 0 at its edges and at least 200 between them; F is the least of the three while
the link is LIVE and 0 in every other link state. R86, R93, R94 and R126: what a report of a changed factor does
to a station: at 0 it holds a CUTTING one with WATER_HOLD and a HOLD at the head of its queue; above 0 it sends a
CUTTING one a FEED when the limit moved by the feed step; it leaves every other station but a STAGED one and one
PAUSED with WATER_HOLD alone, and these too below the resume factor, or a STAGED one whose slab is not loaded. A
report of F as it was, at a SET_WATER, leaves a CUTTING station too. -/
def Obligations.WaterFactorAndItsReport : Prop :=
  (∀ (w : Water) (clear settling : Nat), w.clear = some clear → w.settling = some settling →
    w.kept.thresholds.hold < w.kept.thresholds.low → w.kept.thresholds.slow < w.kept.thresholds.stop →
    (w.withFactors.fClear =
      if w.kept.thresholds.low ≤ clear then 1000 else if clear ≤ w.kept.thresholds.hold then 0
      else max 200 (1000 * (clear - w.kept.thresholds.hold)
        / (w.kept.thresholds.low - w.kept.thresholds.hold)))
    ∧ (w.withFactors.fSettle =
      if settling < 850 then 1000 else if 950 ≤ settling then 0
      else max 200 (1000 * (950 - settling) / 100))
    ∧ (w.withFactors.fSolids =
      if w.kept.solids < w.kept.thresholds.slow then 1000 else if w.kept.thresholds.stop ≤ w.kept.solids then 0
      else max 200 (1000 * (w.kept.thresholds.stop - w.kept.solids)
        / (w.kept.thresholds.stop - w.kept.thresholds.slow)))
    ∧ (w.link = .live → w.withFactors.factor
        = min w.withFactors.fClear (min w.withFactors.fSettle w.withFactors.fSolids))
    ∧ (w.link ≠ .live → w.withFactors.factor = 0)
    ∧ w.withFactors.factor ≤ 1000
    ∧ (w.withFactors.factor = 0 ∨ 200 ≤ w.withFactors.factor))
  ∧ (∀ (s : State) (i : Fin 4) (l : Fin 5), l = s.stationLine i →
    ((s.station i).state = .cutting → s.water.factor = 0 → (s.line l).enabled = true →
      s.reportFactor true i = (s.setLine l
        { s.line l with
          queue := { toggle := (s.station i).toggle, message := .hold }
            :: (s.line l).queue.filter
              (fun f => !f.message.withdrawable && f.message.kindCode != 2) }).setStation i
        { s.station i with
          state := .holding, condition := .waterHold, replyTimer := none
          queryTimer := some (s.settings.replyTimeout / 2)
          orderOutstanding := (s.station i).orderOutstanding
            && !(s.line l).queue.any (fun f => f.message.isOrder) })
    ∧ (∀ k p sn limit last, (s.station i).state = .cutting → 0 < s.water.factor →
      (s.station i).plan = some k → s.plan k = some p → p.snapshot = some sn →
      (s.station i).lastFeedLimit = some last →
      limit = max sn.entry.minFeed (sn.entry.baseFeed * s.water.factor / 1000) →
      ((limit + s.settings.feedStep ≤ last ∨ last + s.settings.feedStep ≤ limit) →
        s.reportFactor true i = (s.handFrame l
          { toggle := (s.station i).toggle, message := .feed limit }).setStation i
          { s.station i with lastFeedLimit := some limit })
      ∧ (limit < last + s.settings.feedStep → last < limit + s.settings.feedStep →
        s.reportFactor true i = s))
    ∧ (((s.station i).state ≠ .cutting ∧ (s.station i).state ≠ .staged
          ∧ ¬((s.station i).state = .paused ∧ (s.station i).condition = .waterHold))
        ∨ ((s.station i).state ≠ .cutting ∧ s.water.factor < s.thresholds.resume)
        ∨ ((s.station i).state = .staged ∧ (s.station i).loadedSinceStaging = false) →
      s.reportFactor true i = s)
    ∧ s.reportFactor false i = (if (s.station i).state = .cutting then s else s.reportFactor true i)
    ∧ ((s.station i).state = .staged → s.thresholds.resume ≤ s.water.factor →
      (s.station i).loadedSinceStaging = true →
      ((s.reportFactor true i).station i).state = .cutting
        ∧ ((s.reportFactor true i).station i).condition = .none)
    ∧ (∀ b, (s.station i).state = .paused → (s.station i).condition = .waterHold →
      s.thresholds.resume ≤ s.water.factor → s.blade i = some b →
      (b.wearRemaining = 0 →
        ((s.reportFactor true i).station i).state = .paused
          ∧ ((s.reportFactor true i).station i).condition = .bladeWorn)
      ∧ (0 < b.wearRemaining → s.reportFactor true i = s.resumeStation i)))

/-- R110: ATTACH_PLANT of a DETACHED link enables its line with a VALVES of the commands as they stand and a QUERY
waiting, and enters LISTENING with no reading and the query timer running; the factors are computed with the
readings absent (the model's reading, assumption 24) and F stays 0. A link that is not DETACHED is refused with
WRONG_STATE. R112: DETACH_PLANT disables the line, stops the link's timers, returns a press that is not SUSPENDED
to IDLE, commands the make-up valve CLOSED and makes F 0; a CUTTING station is held if F was above 0. What a
disabled line's receiver, assembler and gap timer hold is the model's choice (assumption 1). A DETACHED link is
refused with WRONG_STATE. -/
def Obligations.PlantIsAttachedAndDetached : Prop :=
  (∀ (s : State) (echo : Byte), s.serving (.attachPlant echo) →
    (s.water.link ≠ .detached →
      exec (.attachPlant echo) s = .next { s with port := s.port.replied echo .wrongState [] })
    ∧ (s.factorLaw → s.water.link = .detached →
    exec (.attachPlant echo) s = .next
      { s.setLine s.plantLine
          { enabled := true, divisor := slot s.settings.rateDivisor s.plantLine, receiver := .startSearch
            onesSeen := 0, breakRun := false, inBreak := false, assembler := .settling, gap := .running, badCount := 0
            queue := [{ toggle := false, message := .valves s.water.commanded },
              { toggle := false, message := .query }]
            transmitter := .openingIdle, takenFrames := 0, badFrames := 0, noisyFrames := 0
            staleReports := 0 } with
        water := { s.water with
          link := .listening, clear := none, settling := none, meterBaseline := none, reported := none
          queryTimer := some (s.settings.staleLimit / 2) }.withFactors
        port := s.port.replied echo .ok (leBytes 1 s.plantLine.val) }))
  ∧ (∀ (s : State) (echo : Byte), s.serving (.detachPlant echo) →
    (s.water.link = .detached →
      exec (.detachPlant echo) s = .next { s with port := s.port.replied echo .wrongState [] })
    ∧ (s.water.link ≠ .detached → 1 ≤ s.thresholds.resume →
    ∃ t, exec (.detachPlant echo) s = .next t
      ∧ t.water = { s.water with
          link := .detached, queryTimer := none, staleTimer := none, settle := Vector.replicate 5 .stopped
          meterBaseline := none
          press := if s.water.press = Press.suspended then Press.suspended else Press.idle
          pressTimer := none
          commanded := put s.water.commanded makeUpValve false }.withFactors
      ∧ t.water.factor = 0
      ∧ (∀ j, j ≠ s.plantLine → (∀ i, (s.station i).state = .cutting → s.stationLine i ≠ j) →
          t.line j = s.line j)
      ∧ ((∀ i, s.stationLine i ≠ s.plantLine) →
        t.line s.plantLine =
          { State.reset.line 0 with
            divisor := (s.line s.plantLine).divisor
            takenFrames := (s.line s.plantLine).takenFrames, badFrames := (s.line s.plantLine).badFrames
            noisyFrames := (s.line s.plantLine).noisyFrames
            staleReports := (s.line s.plantLine).staleReports })
      ∧ (∀ i, (s.station i).state = .cutting → 0 < s.water.factor →
          (t.station i).state = .holding ∧ (t.station i).condition = .waterHold)
      ∧ (∀ i, (s.station i).state ≠ .cutting ∨ s.water.factor = 0 → t.station i = s.station i)
      ∧ (∀ src, src ≠ waterSource → slot t.notices.sources src = slot s.notices.sources src)
      ∧ (slot t.notices.sources waterSource = if 0 < s.water.factor then
          (slot s.notices.sources waterSource).raised
            (.water .fellToZero 0 t.water.fClear t.water.fSettle t.water.fSolids)
        else slot s.notices.sources waterSource)
      ∧ t = { s with
          port := s.port.replied echo .ok []
          water := t.water, stations := t.stations, lines := t.lines
          notices := { s.notices with sources := t.notices.sources } }))

/-- R118 and R120: PRESS_NOW with the press IDLE or SUSPENDED and the link not DETACHED requests the press:
REQUESTED, a PRESS handed to the plant, the start timer running; in every other case it is refused with
WRONG_STATE. R118 and R119: a PRESS_STATE of an attached plant moves the press by the table; a DONE lowers G by
its cake, at least to 0, and F is computed and, where it changed, reported with its crossings (R126), and a FAILED
suspends; each notice carries G after the report. The order in which the stations hear of F is the model's reading
(assumption 12). The message leaves its line's receiver, assembler and gap timer (assumption 6). -/
def Obligations.PressFollowsRequestsAndReports : Prop :=
  (∀ (s : State) (echo : Byte), s.serving (.pressNow echo) →
    (s.water.link ≠ .detached → (s.water.press = .idle ∨ s.water.press = .suspended) →
      exec (.pressNow echo) s = .next
        { s.handFrame s.plantLine { toggle := false, message := .press } with
          water := { s.water with press := .requested, pressTimer := some s.settings.pressStartTimeout }
          port := s.port.replied echo .ok [] })
    ∧ (s.water.link = .detached ∨ s.water.press = .requested ∨ s.water.press = .running →
      exec (.pressNow echo) s = .next { s with port := s.port.replied echo .wrongState [] }))
  ∧ (∀ (s : State) (l : Fin 5) (noise toggle : Bool) (report cake : Nat) (old new : Press)
    (event : Option PressEvent) (kept : WaterRetained) (w : Water),
    (s.line l).enabled = true → (s.line l).inBreak = false → s.userOf l = .plant →
    s.water.link ≠ .detached → s.water.press = old →
    ((report = 0 ∧ old ≠ .running ∧ new = old ∧ event = none)
      ∨ (report = 0 ∧ old = .running ∧ new = .idle ∧ event = some .idle)
      ∨ (report = 1 ∧ old ≠ .suspended ∧ new = .running ∧ event = none)
      ∨ (report = 1 ∧ old = .suspended ∧ new = .suspended ∧ event = none)
      ∨ (report = 2 ∧ old ≠ .suspended ∧ new = .idle ∧ event = some .done)
      ∨ (report = 2 ∧ old = .suspended ∧ new = .suspended ∧ event = some .done)
      ∨ (report = 3 ∧ old ≠ .suspended ∧ new = .suspended ∧ event = some .failed)
      ∨ (report = 3 ∧ old = .suspended ∧ new = .suspended ∧ event = none)) →
    kept = (if report = 2 then { s.water.kept with solids := s.water.kept.solids - cake }
      else s.water.kept) →
    w = { s.water with
      press := new, kept := kept
      pressTimer := if new = old then s.water.pressTimer else none } →
    (old = .idle ∨ old = .running ∨ old = .suspended → s.water.pressTimer = none) →
    ∃ t x y : State, exec (.pressState l noise toggle report cake) s = .next t
      ∧ s.enqueuedOnly x (if report = 2 then [waterPage] else [])
      ∧ x = { s with
          water := if report = 2 then w.withFactors else w
          retention := { s.retention with queue := x.retention.queue } }
      ∧ y = (if report = 2 then x.factorTold s.water.factor s.thresholds.resume false else x)
      ∧ t = { y.setLine l ((y.line l).counted noise) with
          notices := match event with
            | none => y.notices
            | some e => { y.notices with
                sources := put y.notices.sources pressSource
                  ((slot y.notices.sources pressSource).raised
                    (.press e (if report = 2 then some cake else none) kept.solids new)) } })

/-- R121 and R122: RESET_PERIOD begins a period with the clamped allowance, or none (4,294,967,295), decides the
make-up valve afresh with what the plant is then sent, raises ALLOWANCE at once for an allowance of 0, and returns
the period that ended. The page is enqueued unless loop, stations, lines and notices stand as they did (the
model's reading of R175, assumption 13). R109, R118, R126 and R127: SET_WATER clamps every value and refuses with
BAD_VALUE a record whose levels are out of order; else it stores the record, decides the make-up valve and the
press by it, hands the plant a VALVES and a PRESS where they changed, and computes F, which is reported to all
four stations, changed or not, and its crossings raised (x is the state it is reported from; the order in which
the stations hear of F is the model's reading, assumption 12). The page is enqueued unless loop, stations, lines
and notices stand as they did (assumption 13). -/
def Obligations.PeriodAndThresholdsAreSet : Prop :=
  (∀ (s : State) (echo : Byte) (field : Nat) (allowance : Option Nat) (opened : Bool),
    s.serving (.resetPeriod echo field) →
    allowance = (if field = 4294967295 then none else some (min 1000000 field)) →
    opened = (decide (s.water.link = .live) && decide (allowance ≠ some 0)
      && (match s.water.clear with
        | some x => decide (x ≤ s.thresholds.fill)
            || (decide (x < s.thresholds.full) && slot s.water.commanded makeUpValve)
        | none => slot s.water.commanded makeUpValve)) →
    ∃ t x : State, exec (.resetPeriod echo field) s = .next t
      ∧ s.valvesSent x ∧ (∀ j, j ≠ s.plantLine → x.line j = s.line j)
      ∧ x = { s with
          lines := x.lines
          notices := if allowance = some 0 then
              { s.notices with
                sources := put s.notices.sources allowanceSource
                  ((slot s.notices.sources allowanceSource).raised (.allowance 0 0)) }
            else s.notices
          water := { s.water with
            kept := { s.water.kept with periodUsed := 0, allowance := allowance }
            allowanceReached := decide (allowance = some 0)
            commanded := put s.water.commanded makeUpValve opened
            settle := s.water.settleOnCommand makeUpValve opened s.settings.valveSettleTime } }
      ∧ s.enqueuedOnly t (if s.loopStands x then [] else [waterPage])
      ∧ t = { x with
          port := s.port.replied echo .ok
            (leFields [(4, s.water.kept.periodUsed), (4, s.water.kept.allowance.getD 4294967295)])
          retention := { s.retention with queue := t.retention.queue } })
  ∧ (∀ (s : State) (echo : Byte) (hold low fill full pressLevel slow stop resume auto : Nat) (r : Thresholds),
    s.serving (.setWater echo hold low fill full pressLevel slow stop resume auto) →
    r = { hold := min 1000 hold, low := min 1000 low, fill := min 1000 fill, full := min 1000 full
          press := min 999999 pressLevel, slow := min 999999 slow, stop := min 999999 stop
          resume := max 200 (min 1000 resume), autoPress := decide (auto ≠ 0) } →
    (¬(r.hold < r.low ∧ r.fill < r.full ∧ r.press ≤ r.slow ∧ r.slow < r.stop) →
      exec (.setWater echo hold low fill full pressLevel slow stop resume auto) s
        = .next { s with port := s.port.replied echo .badValue [] })
    ∧ ∀ (requested opened : Bool) (queue : List TxFrame) (x : State),
      (r.hold < r.low ∧ r.fill < r.full ∧ r.press ≤ r.slow ∧ r.slow < r.stop) →
      requested = decide (s.water.press = .idle ∧ r.autoPress = true ∧ s.water.link ≠ .detached
          ∧ r.press ≤ s.water.kept.solids) →
      opened = { s.water with kept := { s.water.kept with thresholds := r } }.makeUpCommand →
      queue = (if opened ≠ slot s.water.commanded makeUpValve then
          queueFrame (s.line s.plantLine).queue
            { toggle := false, message := .valves (put s.water.commanded makeUpValve opened) }
        else (s.line s.plantLine).queue) →
      x = { s with
        lines := put s.lines s.plantLine
          { s.line s.plantLine with
            queue := if (s.line s.plantLine).enabled then
                (if requested then queueFrame queue { toggle := false, message := .press } else queue)
              else (s.line s.plantLine).queue }
        water := { s.water with
          kept := { s.water.kept with thresholds := r }
          commanded := put s.water.commanded makeUpValve opened
          settle := s.water.settleOnCommand makeUpValve opened s.settings.valveSettleTime
          press := if requested then .requested else s.water.press
          pressTimer := if requested then some s.settings.pressStartTimeout
            else s.water.pressTimer }.withFactors } →
      ∃ t y z : State, exec (.setWater echo hold low fill full pressLevel slow stop resume auto) s = .next t
        ∧ z = y.factorTold s.water.factor s.thresholds.resume true
        ∧ s.enqueuedOnly y (if s.loopStands (x.factorTold s.water.factor s.thresholds.resume true) then []
          else [waterPage])
        ∧ y = { x with retention := { s.retention with queue := y.retention.queue } }
        ∧ t = { z with
            port := s.port.replied echo .ok (leFields [(2, r.hold), (2, r.low), (2, r.fill), (2, r.full),
              (3, r.press), (3, r.slow), (3, r.stop), (2, r.resume), (1, if r.autoPress then 1 else 0),
              (2, x.water.factor)]) })

/-- R114 to R116, R121, R122, R124 to R126: a LEVELS of an attached plant is carried through in its order: levels
clamped, meter and draw booked unless the link was LISTENING, ALLOWANCE raised as it is reached, valves recorded,
the link LIVE with its timers started again, the make-up valve decided, each valve tested, and F computed and,
where it changed, reported to all four stations with its crossings (x is the state it is reported from; the order
in which the stations hear of F is the model's reading, assumption 12; that of the four draws is too, assumption
25). The message leaves its line's receiver, assembler and gap timer (assumption 6). -/
def Obligations.LevelsAreTakenInTheirOrder : Prop :=
  ∀ (s : State) (l : Fin 5) (noise toggle : Bool) (r : LevelsReport) (v used drawn : Nat)
    (booked : Bool) (w : Water),
    (s.line l).enabled = true → (s.line l).inBreak = false → s.userOf l = .plant → s.plantLine = l →
    s.water.link ≠ .detached → r.valves.toNat < 32 →
    booked = decide (s.water.link ≠ .listening) →
    v = (if booked then (r.meter + 65536 - s.water.meterBaseline.getD r.meter) % 65536 else 0) →
    used = min 99999999 (s.water.kept.periodUsed + v) → s.water.kept.periodUsed ≤ 99999999 →
    s.overhead.carry < 1000 → s.overhead.processTotal ≤ 999999999 →
    drawn = s.overhead.carry + v * s.settings.freshRate
      + ((List.finRange 4).map fun i => if booked ∧ (s.station i).plan = none then
          slot r.draw i * s.settings.waterRate else 0).sum →
    w = { s.water with
      clear := some (min 1000 r.clear), settling := some (min 1000 r.settling)
      meterBaseline := some r.meter
      kept := { s.water.kept with periodUsed := used }
      allowanceReached := s.water.allowanceReached
        || (decide (used ≠ s.water.kept.periodUsed)
          && (s.water.kept.allowance.map (fun a => decide (a ≤ used))).getD false)
      reported := some (Vector.ofFn fun i => r.valves.getLsbD i.val)
      link := .live
      staleTimer := some s.settings.staleLimit
      queryTimer := some (s.settings.staleLimit / 2) } →
    ∃ t x y : State, exec (.levels l noise toggle r) s = .next t
      ∧ x.water = { w with
          commanded := put w.commanded makeUpValve w.makeUpCommand
          settle := Vector.ofFn fun i =>
            if slot (put w.commanded makeUpValve w.makeUpCommand) i = r.valves.getLsbD i.val then .stopped
            else match slot s.water.settle i with
              | .stopped => .running s.settings.valveSettleTime
              | x => x }.withFactors
      ∧ x.overhead = { s.overhead with
          processTotal := min 999999999 (s.overhead.processTotal + drawn / 1000)
          carry := drawn % 1000
          saturated := s.overhead.saturated
            || decide (999999999 < s.overhead.processTotal + drawn / 1000) }
      ∧ (∀ k, (x.plan k).map (fun p => { p with pool := 0, poolSaturated := false })
          = (s.plan k).map fun p => { p with pool := 0, poolSaturated := false })
      ∧ (∀ k p sum, s.plan k = some p → p.pool ≤ 999999999999 →
        sum = p.pool + ((List.finRange 4).map fun i =>
          if booked ∧ (s.station i).plan = some k then slot r.draw i * s.settings.waterRate else 0).sum →
        (x.plan k).map (fun q => (q.pool, q.poolSaturated))
          = some (min 999999999999 sum, p.poolSaturated || decide (999999999999 < sum)))
      ∧ (∀ j, j ≠ l → x.line j = s.line j)
      ∧ x.line l =
        { s.line l with
          queue := if x.water.commanded ≠ s.water.commanded then
              queueFrame (s.line l).queue { toggle := false, message := .valves x.water.commanded }
            else (s.line l).queue }
      ∧ s.retention.queue <+: x.retention.queue
      ∧ (∀ p ∈ x.retention.queue, p ∈ s.retention.queue ∨ p = waterPage ∨ p = overheadPage)
      ∧ (used ≠ s.water.kept.periodUsed → waterPage ∈ x.retention.queue)
      ∧ (x.overhead ≠ s.overhead → overheadPage ∈ x.retention.queue)
      ∧ (∀ src, src ≠ plantSource → src ≠ allowanceSource →
          slot x.notices.sources src = slot s.notices.sources src)
      ∧ (slot x.notices.sources plantSource = if s.water.link = .stale then
          (slot s.notices.sources plantSource).raised (.plant .live none .live)
        else slot s.notices.sources plantSource)
      ∧ (slot x.notices.sources allowanceSource = match s.water.kept.allowance with
        | some a => if used ≠ s.water.kept.periodUsed ∧ s.water.allowanceReached = false ∧ a ≤ used then
            (slot s.notices.sources allowanceSource).raised (.allowance used a)
          else slot s.notices.sources allowanceSource
        | none => slot s.notices.sources allowanceSource)
      ∧ x = { s with
          lines := x.lines, water := x.water, overhead := x.overhead, plans := x.plans
          notices := { s.notices with sources := x.notices.sources }
          retention := { s.retention with queue := x.retention.queue } }
      ∧ y = x.factorTold s.water.factor s.thresholds.resume false
      ∧ t = y.setLine l ((y.line l).counted noise)

/-- R111, R118 and R124: the plant's timers: the query timer's expiry hands a QUERY and starts it again; the press
start timer's returns a REQUESTED press to IDLE and raises PRESS; a running settle timer's marks it expired and
raises VALVE, and a supply valve OPEN and reported CLOSED holds its CUTTING station with DRY_CUT, a HOLD at the
head of its queue. The expiry of each timer, where it does not run or the link or the press is in no state that
runs it, changes nothing (the model's choice, assumption 5). R111 and R113: in LIVE the stale timer's expiry, and
BREAK on the plant's line, make the link STALE: the readings kept, the make-up valve CLOSED with a VALVES where
that is a change, the settle timers stopped, F 0 and reported with every CUTTING station held, PLANT raised with
STALE and its cause. x is the state F is reported from; the order in which the stations hear of F is the model's
reading (assumption 12). R113: BREAK on the plant's line in LISTENING or STALE keeps the link and all else but the
line, and raises PLANT with BREAK. -/
def Obligations.PlantTimersAndSilence : Prop :=
  (∀ (s : State),
    (s.water.link = .detached ∨ s.water.queryTimer = none → exec .plantQueryTimerExpiry s = .next s)
    ∧ (s.water.link ≠ .live ∨ s.water.staleTimer = none → exec .staleTimerExpiry s = .next s)
    ∧ (s.water.press ≠ .requested ∨ s.water.pressTimer = none → exec .pressStartTimerExpiry s = .next s)
    ∧ (∀ v, slot s.water.settle v = .stopped ∨ slot s.water.settle v = .expired →
      exec (.settleTimerExpiry v) s = .next s)
    ∧ (s.water.link ≠ .detached → s.water.queryTimer ≠ none →
      exec .plantQueryTimerExpiry s = .next
        { s.handFrame s.plantLine { toggle := false, message := .query } with
          water := { s.water with queryTimer := some (s.settings.staleLimit / 2) } })
    ∧ (s.water.press = .requested → s.water.pressTimer ≠ none →
      exec .pressStartTimerExpiry s = .next
        { s with
          water := { s.water with press := .idle, pressTimer := none }
          notices := { s.notices with
            sources := put s.notices.sources pressSource ((slot s.notices.sources pressSource).raised
              (.press .startTimeout none s.water.kept.solids .idle)) } })
    ∧ (∀ v period reported, slot s.water.settle v = .running period → s.water.reported = some reported →
      (v = makeUpValve ∨ slot s.water.commanded v = false ∨ slot reported v = true
        ∨ ∀ i, v = supplyValve i → (s.station i).state ≠ .cutting) →
      exec (.settleTimerExpiry v) s = .next
        { s with
          water := { s.water with settle := put s.water.settle v .expired }
          notices := { s.notices with
            sources := put s.notices.sources valveSource ((slot s.notices.sources valveSource).raised
              (.valve v (slot s.water.commanded v) (slot reported v))) } })
    ∧ ∀ i period reported, slot s.water.settle (supplyValve i) = .running period →
      s.water.reported = some reported → slot s.water.commanded (supplyValve i) = true →
      slot reported (supplyValve i) = false → (s.station i).state = .cutting →
      ∃ t, exec (.settleTimerExpiry (supplyValve i)) s = .next t
        ∧ t.station i =
          { s.station i with
            state := .holding, condition := .dryCut, replyTimer := none
            queryTimer := some (s.settings.replyTimeout / 2)
            orderOutstanding := (s.station i).orderOutstanding
              && !((s.line (s.stationLine i)).enabled
                && (s.line (s.stationLine i)).queue.any (fun f => f.message.isOrder)) }
        ∧ (∀ j, j ≠ i → t.station j = s.station j)
        ∧ t.lines = put s.lines (s.stationLine i)
          { s.line (s.stationLine i) with
            queue := if (s.line (s.stationLine i)).enabled then
                { toggle := (s.station i).toggle, message := .hold }
                  :: (s.line (s.stationLine i)).queue.filter
                    (fun f => !f.message.withdrawable && f.message.kindCode != 2)
              else (s.line (s.stationLine i)).queue }
        ∧ t = { s with
            stations := t.stations, lines := t.lines
            water := { s.water with settle := put s.water.settle (supplyValve i) .expired }
            notices := { s.notices with
              sources := put s.notices.sources valveSource ((slot s.notices.sources valveSource).raised
                (.valve (supplyValve i) true false)) } })
  ∧ (∀ (s base : State) (l : Fin 5) (event : Instr) (cause : StaleCause) (seen : Nat),
    s.water.link = .live → 1 ≤ s.thresholds.resume →
    ((event = .staleTimerExpiry ∧ cause = .silence ∧ s.water.staleTimer ≠ none ∧ base = s)
      ∨ (s.decidesBreak l event seen ∧ cause = .lineBreak ∧ s.userOf l = .plant ∧ (s.line l).enabled = true
        ∧ (s.line l).inBreak = false ∧ (s.line l).breakRun = true
        ∧ base = s.setLine l
          { s.line l with
            receiver := .startSearch, onesSeen := seen, inBreak := true, gap := .stopped
            assembler := match (s.line l).assembler with
              | .assembling _ _ => .discarding
              | a => a })) →
    ∃ t x y : State, exec event s = .next t
      ∧ x = { s with
          lines := put base.lines s.plantLine
            { base.line s.plantLine with
              queue := if slot s.water.commanded makeUpValve = true ∧ (base.line s.plantLine).enabled then
                  queueFrame (base.line s.plantLine).queue
                    { toggle := false, message := .valves (put s.water.commanded makeUpValve false) }
                else (base.line s.plantLine).queue }
          water := t.water }
      ∧ y = x.factorTold s.water.factor s.thresholds.resume false
      ∧ t = { y with notices := { y.notices with
          sources := put y.notices.sources plantSource
            ((slot y.notices.sources plantSource).raised (.plant .stale (some cause) .stale)) } }
      ∧ t.water = { s.water with
          link := .stale, staleTimer := none, queryTimer := some (s.settings.staleLimit / 2)
          settle := Vector.replicate 5 .stopped
          commanded := put s.water.commanded makeUpValve false }.withFactors
      ∧ t.water.factor = 0
      ∧ (∀ j, j ≠ s.plantLine → j ≠ l → (∀ i, (s.station i).state = .cutting → s.stationLine i ≠ j) →
          t.line j = s.line j)
      ∧ (∀ i, (s.station i).state = .cutting → 0 < s.water.factor →
          (t.station i).state = .holding ∧ (t.station i).condition = .waterHold)
      ∧ (∀ i, (s.station i).state ≠ .cutting ∨ s.water.factor = 0 → t.station i = s.station i)
      ∧ slot t.notices.sources plantSource
          = (slot s.notices.sources plantSource).raised (.plant .stale (some cause) .stale)
      ∧ (∀ src, src ≠ plantSource → src ≠ waterSource →
          slot t.notices.sources src = slot s.notices.sources src)
      ∧ t = { s with
          water := t.water, stations := t.stations, lines := t.lines
          notices := { s.notices with sources := t.notices.sources } })
  ∧ (∀ (s : State) (l : Fin 5) (e : Instr) (seen : Nat),
    (s.line l).enabled = true → (s.line l).inBreak = false → (s.line l).breakRun = true →
    s.decidesBreak l e seen → s.userOf l = .plant → (s.water.link = .listening ∨ s.water.link = .stale) →
    exec e s = .next
      { s.setLine l
          { s.line l with
            receiver := .startSearch, onesSeen := seen, inBreak := true, gap := .stopped
            assembler := match (s.line l).assembler with
              | .assembling _ _ => .discarding
              | a => a } with
        notices := { s.notices with
          sources := put s.notices.sources plantSource ((slot s.notices.sources plantSource).raised
            (.plant .lineBreak none s.water.link)) } })

/-! ### Chapter 7: job costing -/

/-- R137: an OPEN_JOB of a number in range that names no live job takes the lowest free slot, OPEN and empty; the
reply gives the slot in 1 byte (the model's reading of R189, assumption 22). R138: a SET_LINE on an OPEN job with
a target of at least delivered plus designated creates the line, changes its target alone, or with a target of 0
removes it; the page is enqueued when the record changed, and the reply is the line block (the model's reading of
R189, assumption 22). A closed job is refused with JOB_CLOSED, a lower target with LINE_FULL. R140 and R141:
CLOSE_JOB of an OPEN job closes it, or names the lowest line that holds a designation with JOB_BUSY; RETIRE_JOB of
a CLOSED job returns its figures and frees the slot; each is refused with WRONG_STATE in the other state. -/
def Obligations.JobsAreOpenedLinedClosedAndRetired : Prop :=
  (∀ (s : State) (echo : Byte) (number : Nat) (n : Fin 96),
    s.serving (.openJob echo number) → 1 ≤ number → number ≤ 65535 →
    (∀ m j, s.job m = some j → j.number ≠ number) →
    s.job n = none → (∀ m, m < n → s.job m ≠ none) →
    ∃ t, exec (.openJob echo number) s = .next t
      ∧ s.enqueuedOnly t [jobPage n]
      ∧ t = { s with
          jobs := put s.jobs n (some
            { number := number, closed := false, lines := Vector.replicate 8 none
              materialTotal := 0, processTotal := 0, saturated := false })
          port := s.port.replied echo .ok (leFields [(1, n.val)])
          retention := { s.retention with queue := t.retention.queue } })
  ∧ (∀ (s : State) (echo : Byte) (number line target : Nat) (n : Fin 96) (j : Job) (k : Fin 8) (used : Nat)
    (x : Option JobLine),
    s.serving (.setLine echo number line target) → s.jobNames number n j → line = k.val + 1 → target ≤ 15 →
    used = (match slot j.lines k with
      | none => 0
      | some y => y.delivered + y.designated) →
    x = (if target = 0 then none else some
      { target := target
        delivered := ((slot j.lines k).map (·.delivered)).getD 0
        designated := ((slot j.lines k).map (·.designated)).getD 0
        materialCents := ((slot j.lines k).map (·.materialCents)).getD 0
        processCents := ((slot j.lines k).map (·.processCents)).getD 0 }) →
    (j.closed = true →
      exec (.setLine echo number line target) s = .next { s with port := s.port.replied echo .jobClosed [] })
    ∧ (j.closed = false → target < used →
      exec (.setLine echo number line target) s = .next { s with port := s.port.replied echo .lineFull [] })
    ∧ (j.closed = false → used ≤ target →
      ∃ t, exec (.setLine echo number line target) s = .next t
        ∧ s.enqueuedOnly t (if x = slot j.lines k then [] else [jobPage n])
        ∧ t = { s with
            jobs := put s.jobs n (some { j with lines := put j.lines k x })
            port := s.port.replied echo .ok (leFields (JobLine.statedFields k x))
            retention := { s.retention with queue := t.retention.queue } }))
  ∧ (∀ (s : State) (echo : Byte) (number : Nat) (n : Fin 96) (j : Job), s.jobNames number n j →
    (s.serving (.closeJob echo number) →
      (j.closed = true →
        exec (.closeJob echo number) s = .next { s with port := s.port.replied echo .wrongState [] })
      ∧ (∀ k x, j.closed = false → slot j.lines k = some x → 0 < x.designated →
          (∀ m y, m < k → slot j.lines m = some y → y.designated = 0) →
          exec (.closeJob echo number) s
            = .next { s with port := s.port.replied echo .jobBusy (leFields [(1, k.val + 1)]) })
      ∧ (j.closed = false → (∀ k x, slot j.lines k = some x → x.designated = 0) →
          ∃ t, exec (.closeJob echo number) s = .next t ∧ s.enqueuedOnly t [jobPage n]
            ∧ t = { s with
                jobs := put s.jobs n (some { j with closed := true })
                port := s.port.replied echo .ok []
                retention := { s.retention with queue := t.retention.queue } }))
    ∧ (s.serving (.retireJob echo number) →
      (j.closed = false →
        exec (.retireJob echo number) s = .next { s with port := s.port.replied echo .wrongState [] })
      ∧ (j.closed = true →
          ∃ t, exec (.retireJob echo number) s = .next t ∧ s.enqueuedOnly t [jobPage n]
            ∧ t = { s with
                jobs := put s.jobs n none
                port := s.port.replied echo .ok (leFields (j.statedFields n))
                retention := { s.retention with queue := t.retention.queue } })))

/-- R139 and R135: READ_JOB and READ_OVERHEAD return the record and change nothing; CLEAR_OVERHEAD returns the
account as it stands and then zeroes both totals and clears the flag, keeping the carry; one that changes nothing
enqueues no page (R175, as the model reads it, assumption 13). -/
def Obligations.JobAndOverheadReadsAndClear : Prop :=
  (∀ (s : State) (echo : Byte) (number : Nat) (n : Fin 96) (j : Job),
    s.serving (.readJob echo number) → s.jobNames number n j →
    exec (.readJob echo number) s
      = .next { s with port := s.port.replied echo .ok (leFields (j.statedFields n)) })
  ∧ ∀ (s : State) (echo : Byte) (account : List (Nat × Nat)),
    account = [(4, s.overhead.materialTotal), (4, s.overhead.processTotal), (2, s.overhead.carry),
      (1, if s.overhead.saturated then 1 else 0)] →
    (s.serving (.readOverhead echo) →
      exec (.readOverhead echo) s
        = .next { s with port := s.port.replied echo .ok (leFields account) })
    ∧ (s.serving (.clearOverhead echo) →
      ∃ t, exec (.clearOverhead echo) s = .next t
        ∧ s.enqueuedOnly t (if s.overhead.materialTotal = 0 ∧ s.overhead.processTotal = 0
            ∧ s.overhead.saturated = false then [] else [overheadPage])
        ∧ t = { s with
            overhead := { s.overhead with materialTotal := 0, processTotal := 0, saturated := false }
            port := s.port.replied echo .ok (leFields account)
            retention := { s.retention with queue := t.retention.queue } })

/-- R134: a booking of a millicents to the overhead process total goes through the carry; a booking of 0 changes
nothing; and two bookings leave the same cents and carry as one of their sum. -/
def Obligations.OverheadBookingGoesThroughTheCarry : Prop :=
  ∀ (s : State) (a t : Nat), t = s.overhead.carry + a →
    s.overhead.carry < 1000 → s.overhead.processTotal ≤ 999999999 →
    ∃ u, s.bookOverhead (fun o => o.bookProcess a) = u
      ∧ u.overhead = { s.overhead with
          processTotal := min 999999999 (s.overhead.processTotal + t / 1000)
          carry := t % 1000
          saturated := s.overhead.saturated || decide (999999999 < s.overhead.processTotal + t / 1000) }
      ∧ s.enqueuedOnly u (if u.overhead = s.overhead then [] else [overheadPage])
      ∧ (a = 0 → u = s)
      ∧ u = { s with
          overhead := u.overhead
          retention := { s.retention with queue := u.retention.queue } }
      ∧ ∀ b, ((s.overhead.bookProcess a).bookProcess b) = s.overhead.bookProcess (a + b)

/-- R146, R148 and the law of R145: the material shares of the parts and the bases of the remnants add up to the
slab's basis, the process shares to the pool rounded half up to cents; each share is its floor or one cent more,
which the larger remainders take first and among equal ones the lower piece. R147 and R149: at a close with parts
each job line gets, saturating, its parts' shares of the net material and of the pool, and its parts move from
designated to delivered; each job's totals take the shares of all its parts, and its saturated flag is set by any
clamp and by the pool's mark; without parts both go to the overhead account. -/
def Obligations.CloseAllocationIsExactAndBooked : Prop :=
  ((∀ (x : Nat) (areas : List Nat), 0 < areas.sum →
    (shares x areas).sum = x ∧ (shares x areas).length = areas.length
    ∧ ∀ i a y : Nat, areas[i]? = some a → (shares x areas)[i]? = some y →
        (y = x * a / areas.sum ∨ y = x * a / areas.sum + 1)
        ∧ ∀ j b z : Nat, areas[j]? = some b → (shares x areas)[j]? = some z →
          y = x * a / areas.sum → z = x * b / areas.sum + 1 →
          x * a % areas.sum < x * b % areas.sum ∨ (x * a % areas.sum = x * b % areas.sum ∧ j < i))
  ∧ ∀ (p : Plan) (basis q : Nat) (areas : List Nat) (sn : Snapshot),
    p.snapshot = some sn → q = sn.entry.valueFactor → q ≤ 256 → 0 < p.slabArea →
    p.sumOfLeaves (fun d => decide (d = some .remnant)) ≤ p.slabArea →
    areas = p.parts.map (fun x => x.2.2) → 0 < areas.sum →
    (∀ r v, (r, v) ∈ p.remnants basis → v = basis * (r.length * r.width) * q / (p.slabArea * 256))
    ∧ (shares (basis - ((p.remnants basis).map (·.2)).sum) areas).sum + ((p.remnants basis).map (·.2)).sum
        = basis
    ∧ (shares (poolCents p.pool) areas).sum = (p.pool + 500) / 1000)
  ∧ ((∀ (s : State) (p : Plan) (net : Nat) (share : Nat → Nat → Fin 8 → Nat) (total : Nat → Nat → Nat),
    p.parts ≠ [] →
    (∀ a b x, s.jobLine a b = some x → x.materialCents ≤ 999999999 ∧ x.processCents ≤ 999999999) →
    (∀ x a b, share x a b = (((p.parts.zip (shares x (p.parts.map (fun y => y.2.2)))).filter
      (fun y => decide (y.1.1 = a ∧ y.1.2.1 = b))).map (·.2)).sum) →
    (∀ x a, total x a = (((p.parts.zip (shares x (p.parts.map (fun y => y.2.2)))).filter
      (fun y => decide (y.1.1 = a))).map (·.2)).sum) →
    (∀ a b, (s.bookClose p net).jobLine a b = (s.jobLine a b).map fun x =>
      { x with
        delivered := x.delivered + p.partsOf a b
        designated := x.designated - p.partsOf a b
        materialCents := min 999999999 (x.materialCents + share net a b)
        processCents := min 999999999 (x.processCents + share ((p.pool + 500) / 1000) a b) })
    ∧ (∀ a n j u, (∀ x ∈ p.parts, (s.jobLine x.1 x.2.1).isSome) → s.jobOf a = some (n, j) → j.number = a →
      j.materialTotal ≤ 999999999 → j.processTotal ≤ 999999999 → (s.bookClose p net).job n = some u →
      u = { j with
        lines := u.lines
        materialTotal := min 999999999 (j.materialTotal + total net a)
        processTotal := min 999999999 (j.processTotal + total ((p.pool + 500) / 1000) a)
        saturated := j.saturated || (p.poolSaturated && p.parts.any (fun x => x.1 == a))
          || decide (999999999 < j.materialTotal + total net a)
          || decide (999999999 < j.processTotal + total ((p.pool + 500) / 1000) a)
          || (List.finRange 8).any (fun b => (slot j.lines b).any fun x =>
            decide (999999999 < x.materialCents + share net a b)
              || decide (999999999 < x.processCents + share ((p.pool + 500) / 1000) a b)) })
    ∧ (s.bookClose p net).overhead = s.overhead)
  ∧ ∀ (s : State) (p : Plan) (net : Nat), p.parts = [] →
    (s.bookClose p net).jobs = s.jobs
    ∧ (s.bookClose p net).overhead =
      { materialTotal := min 999999999 (s.overhead.materialTotal + net)
        processTotal := min 999999999 (s.overhead.processTotal + (s.overhead.carry + p.pool) / 1000)
        carry := (s.overhead.carry + p.pool) % 1000
        saturated := s.overhead.saturated || decide (999999999 < s.overhead.materialTotal + net)
          || decide (999999999 < s.overhead.processTotal + (s.overhead.carry + p.pool) / 1000)
          || p.poolSaturated })

/-! ### Chapter 8: record retention -/

/-- R154 and R156 to R160: the idle write unit takes the head of the queue with the record of that page as it
stands; the page is erased, a present record programmed, then verified; a success clears the unsaved mark, a first
failure starts the write again, a second gives it up, sets the mark and raises RETENTION. That the end of a step
that is not in hand, and a start with no page to take or a unit not ready to take it, do nothing is the model's
choice (assumption 5), and so are the operands of VERIFY_DONE (assumption 11) and the form of what an erase given
up leaves (assumption 2). -/
def Obligations.WriteUnitCarriesOnePageThroughItsSteps : Prop :=
  (∀ s : State,
    (∀ n, s.imageOf (slabPage n) = (s.slab n).map .slab) ∧ (∀ n, s.imageOf (jobPage n) = (s.job n).map .job)
    ∧ s.imageOf 608 = some (.overhead s.overhead)
    ∧ (∀ c, s.imageOf (materialPage c) = (s.material c).map .material)
    ∧ (∀ i, s.imageOf (bladePage i) = (s.blade i).map .blade)
    ∧ s.imageOf 645 = some (.water s.water.kept) ∧ s.imageOf 646 = some (.settings s.settings s.lineMap)
    ∧ s.imageOf 647 = some (.counters s.stock.tagCounter))
  ∧ (∀ (s : State) (p : Fin 648) (rest : List (Fin 648)), s.retention.queue = p :: rest →
    s.retention.write = none → s.supply = .running → s.port.status ≠ .starting →
    exec .pageWriteStart s = .next { s with
      retention := { s.retention with
        queue := rest
        write := some { page := p, image := s.imageOf p, phase := .erasing, retry := false
                        before := s.page p } } })
  ∧ (∀ s : State, (s.retention.queue = [] ∨ s.retention.write ≠ none ∨ s.supply ≠ .running
      ∨ s.port.status = .starting) → exec .pageWriteStart s = .next s)
  ∧ (∀ s : State, s.retention.write = none → exec .eraseDone s = .next s ∧ exec .programDone s = .next s
      ∧ ∀ a m, exec (.verifyDone a m) s = .next s)
  ∧ ∀ (s : State) (w : PageWrite), s.retention.write = some w →
    (w.phase ≠ .erasing → exec .eraseDone s = .next s)
    ∧ (w.phase ≠ .programming → exec .programDone s = .next s)
    ∧ (w.phase ≠ .verifying → ∀ agrees markerSet, exec (.verifyDone agrees markerSet) s = .next s)
    ∧ (w.phase = .erasing → exec .eraseDone s = .next { s with
      retention := { s.retention with
        pages := put s.retention.pages w.page .blank
        write := some { w with phase := if w.image = none then .verifying else .programming } } })
    ∧ (w.phase = .programming → exec .programDone s = .next { s with
      retention := { s.retention with
        pages := put s.retention.pages w.page .torn
        write := some { w with phase := .verifying } } })
    ∧ ∀ agrees markerSet : Bool, w.phase = .verifying →
      (agrees = true → (w.image = none ∨ markerSet = true) →
        exec (.verifyDone agrees markerSet) s = .next { s with
          retention := { s.retention with
            pages := put s.retention.pages w.page (match w.image with
              | none => .blank
              | some im => .valid im)
            unsaved := put s.retention.unsaved w.page false
            write := none } })
      ∧ ((agrees = false ∨ (w.image ≠ none ∧ markerSet = false)) → w.retry = false →
        exec (.verifyDone agrees markerSet) s = .next { s with
          retention := { s.retention with write := some { w with phase := .erasing, retry := true } } })
      ∧ ((agrees = false ∨ (w.image ≠ none ∧ markerSet = false)) → w.retry = true →
        ∃ t, exec (.verifyDone agrees markerSet) s = .next t
          ∧ (t.page w.page = .torn ∨ (w.image = none ∧ t.page w.page = w.before
              ∧ ∃ im, w.before = .valid im))
          ∧ t = { s with
              retention := { s.retention with
                pages := put s.retention.pages w.page (t.page w.page)
                unsaved := put s.retention.unsaved w.page true
                write := none }
              notices := { s.notices with
                sources := put s.notices.sources retentionSource
                  ((slot s.notices.sources retentionSource).raised
                    (.retention w.page (pageRecord w.page).kind (decide (w.image = none)))) }
              freeUses := t.freeUses })

/-- R163 to R166, R23 and R153: the end of the start-up restore hands every valid page's record to its block and
settles it (no plan stands: HELD and CUTTING slabs AVAILABLE, designations 0, of two records with one tag or job
number, or one position, the lower slot favoured), enqueues in page order the torn pages and those whose record
changed, raises START_UP and opens the port; all else is as after a device reset. The interrupted count is taken
before duplicates are dropped; an image of another kind is no record (assumption 18), and that all else stands as
after a reset is the model's reading (assumption 19). -/
def Obligations.RestoreSettlesTheRecordsAndOpensThePort : Prop :=
  ∀ (s : State), s.supply = .running → s.port.status = .starting →
    ∃ t torn interrupted duplicates, exec .startUpRestoreEnd s = .next t
      ∧ (∀ n, (∀ r, s.page (slabPage n) ≠ .valid (.slab r)) → t.slab n = none)
      ∧ (∀ n r, s.page (slabPage n) = .valid (.slab r) →
        ((∃ m x, m < n ∧ s.page (slabPage m) = .valid (.slab x) ∧ x.tag = r.tag) → t.slab n = none)
        ∧ ((∀ m x, m < n → s.page (slabPage m) = .valid (.slab x) → x.tag ≠ r.tag) →
          ∃ rack, t.slab n = some
              { r with
                rack := rack, state := .available, holder := none
                interrupted := r.interrupted || decide (r.state = .cutting) }
            ∧ (r.state = .cutting → rack = none)
            ∧ ((∃ m x y, m < n ∧ s.page (slabPage m) = .valid (.slab x) ∧ t.slab m = some y
                ∧ x.state ≠ .cutting ∧ x.rack = r.rack) → rack = none)
            ∧ (r.state ≠ .cutting → (∀ m x y, m < n → s.page (slabPage m) = .valid (.slab x) →
                t.slab m = some y → x.state ≠ .cutting → x.rack ≠ r.rack) → rack = r.rack)))
      ∧ (∀ q tag, slot t.stock.rackMap q = some tag ↔ ∃ n x, t.slab n = some x ∧ x.rack = some q ∧ x.tag = tag)
      ∧ (∀ n, (∀ j, s.page (jobPage n) ≠ .valid (.job j)) → t.job n = none)
      ∧ (∀ n j, s.page (jobPage n) = .valid (.job j) →
        ((∃ m x, m < n ∧ s.page (jobPage m) = .valid (.job x) ∧ x.number = j.number) → t.job n = none)
        ∧ ((∀ m x, m < n → s.page (jobPage m) = .valid (.job x) → x.number ≠ j.number) →
          t.job n = some { j with lines := j.lines.map fun x => x.map fun y => { y with designated := 0 } }))
      ∧ (∀ c, t.material c = match s.page (materialPage c) with
          | .valid (.material m) => some m
          | _ => none)
      ∧ (∀ i, t.blade i = match s.page (bladePage i) with
          | .valid (.blade b) => some b
          | _ => none)
      ∧ (∀ p, p ∈ t.retention.queue ↔ s.page p = .torn
          ∨ ∃ im, s.page p = .valid im ∧ t.imageOf p ≠ some im
            ∧ ((∃ r, im = .slab r) ∨ ∃ j, im = .job j))
      ∧ t.retention.queue.Pairwise (· < ·)
      ∧ torn = (List.finRange 648).countP (fun p => decide (s.page p = .torn))
      ∧ interrupted = (List.finRange 512).countP (fun n => match s.page (slabPage n) with
        | .valid (.slab r) => r.interrupted || decide (r.state = .cutting)
        | _ => false)
      ∧ duplicates = (List.finRange 512).countP (fun n => (s.page (slabPage n)).slab.isSome && (t.slab n).isNone)
          + (List.finRange 96).countP (fun n => (s.page (jobPage n)).job.isSome && (t.job n).isNone)
      ∧ t = { State.reset with
          supply := s.supply
          port := { State.reset.port with
            status := .idle, before := some .starting, resetCause := s.port.resetCause, sdo := s.port.sdo }
          notices := { State.reset.notices with
            sources := put State.reset.notices.sources startUpSource
              ((slot State.reset.notices.sources startUpSource).raised
                (.startUp s.port.resetCause torn interrupted duplicates)) }
          stock := { t.stock with
            reserved := 0
            tagCounter := match s.page countersPage with
              | .valid (.counters c) => c
              | _ => 8388608 }
          jobs := t.jobs
          overhead := match s.page overheadPage with
            | .valid (.overhead o) => o
            | _ => State.reset.overhead
          blades := t.blades
          settings := match s.page settingsPage with
            | .valid (.settings r _) => r
            | _ => State.reset.settings
          lineMap := match s.page settingsPage with
            | .valid (.settings _ m) => m
            | _ => State.reset.lineMap
          water := { State.reset.water with
            kept := match s.page waterPage with
              | .valid (.water k) => k
              | _ => State.reset.water.kept
            allowanceReached := t.water.kept.atAllowance }.withFactors
          retention := { State.reset.retention with pages := s.retention.pages, queue := t.retention.queue }
          freeUses := s.freeUses
          pending := s.pending }

/-! ### Chapter 9: the request port, supply and settings -/

/-- R162, R167 and R174: power-on, the fall of RESET_N while the part runs and the loss of the supply are device
resets, with the cause POWER set at power-on; the release of RESET_N starts the part, with the cause PIN unless it
was powered on with the pin low. Without supply the pin only moves. That a RESET_N_ASSERT with the pin low, a
RESET_N_RELEASE with the pin high and a POWER_FAILURE without supply change nothing is the model's choice
(assumption 5). That POWER_ON is a reset from every state, and that the pin's level is kept without supply, is the
model's reading (assumption 10). That the retained records and the disabled lines hold the values of State.reset
while the restore is pending is the model's choice (assumption 1). -/
def Obligations.SupplyAndResetEvents : Prop :=
  ∀ (s : State),
    (s.resetsTo (exec .powerOn s) (match s.supply with
      | .off false | .running => .running
      | .off true | .held _ => .held true) .power)
    ∧ (s.supply = .running → s.resetsTo (exec .resetNAssert s) (.held false) s.port.resetCause)
    ∧ (∀ low, s.supply = .off low → exec .resetNAssert s = .next { s with supply := .off true }
        ∧ exec .resetNRelease s = .next { s with supply := .off false } ∧ exec .powerFailure s = .next s)
    ∧ (s.supply = .held true → exec .resetNRelease s = .next { s with supply := .running })
    ∧ (s.supply = .held false → exec .resetNRelease s = .next
        { s with supply := .running, port := { s.port with resetCause := .pin } })
    ∧ ((∃ b, s.supply = .held b) → exec .resetNAssert s = .next s
        ∧ s.resetsTo (exec .powerFailure s) (.off true) s.port.resetCause)
    ∧ (s.supply = .running → exec .resetNRelease s = .next s
        ∧ s.resetsTo (exec .powerFailure s) (.off false) s.port.resetCause)

/-- R168 to R170 and R189: a SEND (operation byte 161) whose status was IDLE when SSEL_N fell is judged by length,
check, kind and the kind's length, in this order; a good frame is taken for service, any other is answered with
the refusal and its second byte as echo. In every other status, and without a frame byte, it changes nothing but
what was clocked out, the status at each byte's start. `early` is how many bytes had begun at the last change of
the status, and `before` the status up to it, by which the model tells them (assumption 8). -/
def Obligations.SendIsJudgedInTheOrderOfItsChecks : Prop :=
  ∀ (s : State) (early : Nat) (frame : List Byte) (declared : Nat) (echo : Byte) (before : PortStatus) (p : Port),
    s.supply = .running → before = s.port.before.getD s.port.status →
    declared = ((frame[2]?).getD 0).toNat + 256 * ((frame[3]?).getD 0).toNat → echo = (frame[1]?).getD 0 →
    p = { s.port with
      before := none
      sdo := (List.range (frame.length + 1)).map fun k =>
        if k < early then before.byte else s.port.status.byte } →
    ((if early = 0 then s.port.status else before) ≠ .idle ∨ frame = [] →
      exec (.send ⟨early, frame⟩) s = .next { s with port := p })
    ∧ ((if early = 0 then s.port.status else before) = .idle → frame ≠ [] →
      ((frame.length < 5 ∨ frame.length ≠ 5 + declared ∨ 64 < declared) →
        exec (.send ⟨early, frame⟩) s = .next { s with port := p.replied echo .badLength [] })
      ∧ (frame.length = 5 + declared → declared ≤ 64 →
        (frame.sum ≠ 0 → exec (.send ⟨early, frame⟩) s = .next { s with port := p.replied echo .badCheck [] })
        ∧ ∀ kind, frame[0]? = some kind → frame.sum = 0 →
          (requestLength kind.toNat = none →
            exec (.send ⟨early, frame⟩) s = .next { s with port := p.replied echo .unknownRequest [] })
          ∧ (∀ n, requestLength kind.toNat = some n → n ≠ declared →
            exec (.send ⟨early, frame⟩) s = .next { s with port := p.replied echo .badLength [] })
          ∧ (requestLength kind.toNat = some declared → exec (.send ⟨early, frame⟩) s = .next { s with
            port := { p with
              status := .working
              request := some { kind := kind, echo := echo, fields := (frame.drop 4).take declared } } })))

/-- R168, R173 and R189: a FETCH (operation byte 162) whose status was REPLY when SSEL_N fell clocks out the reply
frame from its first byte, then the fill; whole, it empties the reply buffer and the status is IDLE, cut short the
reply stays. In every other status, and with another operation byte, a transfer clocks out the status, at each
byte's start (192 STARTING, 193 IDLE, 194 WORKING, 195 REPLY), and changes nothing; `early` and `before` are the
model's way to tell a change within it (assumption 8). A POLL_TRANSFER whose operation byte is 161 is a SEND of
bytes of 0, and one whose byte is 162 a FETCH: both are the model's choice (assumption 8). With RESET_N low no
transfer is taken (R174), nor without supply (the model's choice, assumption 5). -/
def Obligations.FetchAndPollTransfers : Prop :=
  (PortStatus.byte .starting = 192 ∧ PortStatus.byte .idle = 193 ∧ PortStatus.byte .working = 194
    ∧ PortStatus.byte .reply = 195)
  ∧ ∀ (s : State) (operation : Byte) (early clocked : Nat) (before decided : PortStatus) (p : Port),
    before = s.port.before.getD s.port.status → decided = (if early = 0 then s.port.status else before) →
    p = { s.port with
      before := none
      sdo := (List.range (clocked + 1)).map fun k => if k < early then before.byte else s.port.status.byte } →
    exec (.pollTransfer ⟨161, early, clocked⟩) s = exec (.send ⟨early, List.replicate clocked 0⟩) s
    ∧ exec (.pollTransfer ⟨162, early, clocked⟩) s = exec (.fetch ⟨early, clocked⟩) s
    ∧ (s.supply ≠ .running → exec (.fetch ⟨early, clocked⟩) s = .next s
      ∧ exec (.pollTransfer ⟨operation, early, clocked⟩) s = .next s ∧ ∀ frame, exec (.send ⟨early, frame⟩) s = .next s)
    ∧ (s.supply = .running →
      (operation ≠ 161 → operation ≠ 162 →
        exec (.pollTransfer ⟨operation, early, clocked⟩) s = .next { s with port := p })
      ∧ (decided ≠ .reply ∨ s.port.reply = none → exec (.fetch ⟨early, clocked⟩) s = .next { s with port := p })
      ∧ ∀ r bytes, decided = .reply → s.port.reply = some r →
        bytes = withCheck (BitVec.ofNat 8 r.code.code :: r.echo :: leBytes 2 r.fields.length ++ r.fields) →
        (bytes.length ≤ clocked → exec (.fetch ⟨early, clocked⟩) s = .next { s with
          port := { p with
            status := .idle, reply := none
            sdo := 195 :: (bytes ++ List.replicate (clocked - bytes.length) 255) } })
        ∧ (clocked < bytes.length → exec (.fetch ⟨early, clocked⟩) s = .next { s with
          port := { p with sdo := 195 :: bytes.take clocked } }))

/-- R161 and R176 to R179: SET_SETTINGS stores every field clamped and returns the record as stored;
READ_SETTINGS, READ_DEVICE and RETENTION_STATUS return what stands and change nothing. Settings that are the
present ones enqueue no page (R175, as the model reads it, assumption 13), and the attempt byte is 0 with no write
in flight (the model's choice, assumption 23). -/
def Obligations.SettingsDeviceAndRetentionRequests : Prop :=
  ∀ (s : State) (echo : Byte),
    (∀ r x : Settings, s.serving (.setSettings echo r) →
      x = { stationRate := r.stationRate.map (min 100000)
            progressInterval := r.progressInterval.map (min 15)
            replyTimeout := max 50 (min 5000 r.replyTimeout)
            silenceLimit := max 500 (min 10000 r.silenceLimit)
            feedStep := max 10 (min 500 r.feedStep)
            badFrameLimit := max 1 (min 15 r.badFrameLimit)
            rateDivisor := r.rateDivisor.map (fun d => max 1 (min 4095 d))
            staleLimit := max 1000 (min 30000 r.staleLimit)
            pressStartTimeout := max 2000 (min 60000 r.pressStartTimeout)
            valveSettleTime := max 500 (min 30000 r.valveSettleTime)
            waterRate := min 100000 r.waterRate
            freshRate := min 100000 r.freshRate } →
      ∃ t, exec (.setSettings echo r) s = .next t
        ∧ s.enqueuedOnly t (if x = s.settings then [] else [settingsPage])
        ∧ t = { s with
            settings := x
            port := s.port.replied echo .ok x.bytes
            retention := { s.retention with queue := t.retention.queue } })
    ∧ (s.serving (.readSettings echo) → exec (.readSettings echo) s = .next { s with
        port := s.port.replied echo .ok (s.settings.bytes
          ++ leFields ((List.finRange 5).map fun u => (1, (slot s.lineMap u).val))) })
    ∧ (s.serving (.readDevice echo) → exec (.readDevice echo) s = .next { s with
        port := s.port.replied echo .ok (leFields [(1, if s.port.resetCause = .power then 0 else 1), (1, 1),
          (2, (List.finRange 512).countP fun n => (s.slab n).isSome), (2, s.stock.reserved),
          (1, (List.finRange 12).countP fun k => (s.plan k).isNone), (2, s.water.factor)]) })
    ∧ (s.serving (.retentionStatus echo) → exec (.retentionStatus echo) s = .next { s with
        port := s.port.replied echo .ok (leFields [(2, s.retention.queue.length),
          (2, (List.finRange 648).countP fun p => slot s.retention.unsaved p),
          (2, (((List.finRange 648).find? fun p => slot s.retention.unsaved p).map (·.val)).getD 65535),
          (1, match s.retention.write.map PageWrite.phase with
            | none => 0
            | some .erasing => 1
            | some .programming => 2
            | some .verifying => 3),
          (2, (s.retention.write.map (·.page.val)).getD 65535),
          (1, if s.retention.write.any (·.retry) then 1 else 0)]) })

/-- R171, R172, R175 and R180: every request in service is answered by exactly one reply with its own echo, and an
answer other than OK changes nothing but the port; a request not in service changes nothing at all, which, with
the words `in service`, is how the model lets one command stand for a SEND and its service (assumption 3). -/
def Obligations.EveryRequestIsAnsweredOnceAndARefusalChangesNothing : Prop :=
  ∀ (s : State) (i : Instr) (q : Request), i.request? = some q →
    (s.serving i → ∃ t code fields, exec i s = .next t ∧ t.port = s.port.replied q.echo code fields
      ∧ (code ≠ .ok → t = { s with port := s.port.replied q.echo code fields }))
    ∧ (¬ s.serving i → exec i s = .next s)

/-- R169, R170 and R189: the frame of every request command passes the four checks and is taken whole into the
request buffer, and the request so taken determines the well-formed command it stands for: no bit of a field is
dropped. Said for a SEND the status does not change within (`early` and `before`, assumption 8). -/
def Obligations.RequestFramesAreTakenAndDetermineTheCommand : Prop :=
  (∀ (s : State) (early : Nat) (i : Instr) (q : Request), i.request? = some q → s.supply = .running →
    s.port.status = .idle → (early = 0 ∨ s.port.before = none) →
    exec (.send ⟨early, q.frame⟩) s = .next { s with
      port := { s.port with
        status := .working, before := none, request := some q, sdo := List.replicate (q.fields.length + 6) 193 } })
  ∧ ∀ (i j : Instr) (q : Request), i.wellFormed = true → j.wellFormed = true → i.request? = some q →
    j.request? = some q → i = j

/-! ### Chapter 10: notices -/

/-- R184 to R186: NEXT_NOTICE takes, of the sources pending, enabled and at or above the floor, the highest level
and of that level the lowest number; its record is returned and made absent, and below level 3 the next floor is
pushed. With none the reply is NONE with the number held back, and nothing changes. -/
def Obligations.NextNoticeTakesTheMostUrgent : Prop :=
  ∀ (s : State) (echo : Byte) (floor : Nat), s.serving (.nextNotice echo) →
    floor = s.notices.floors.head?.getD 0 → (∀ src, (slot s.notices.sources src).level ≤ 3) →
    (∀ src n p, n = slot s.notices.sources src → n.pending = some p → n.enabled = true → floor ≤ n.level →
      (∀ other, (slot s.notices.sources other).pending ≠ none →
        (slot s.notices.sources other).enabled = true →
        (slot s.notices.sources other).level < n.level
          ∨ ((slot s.notices.sources other).level = n.level ∧ src ≤ other)) →
      exec (.nextNotice echo) s = .next { s with
        notices :=
          { sources := put s.notices.sources src { n with pending := none }
            floors := if n.level < 3 then (n.level + 1) :: s.notices.floors else s.notices.floors }
        port := s.port.replied echo .ok (leFields [(1, src.val),
            (1, if src.val < 16 then src.val / 4 else src.val - 12), (1, n.level), (1, p.count)]
          ++ p.detail.bytes ++ leFields [(1, if n.level < 3 then n.level + 1 else 255)]) })
    ∧ ((∀ src, (slot s.notices.sources src).pending = none ∨ (slot s.notices.sources src).enabled = false
          ∨ (slot s.notices.sources src).level < floor) →
      exec (.nextNotice echo) s = .next { s with
        port := s.port.replied echo .nothing (leFields [(1, (List.finRange 24).countP fun src =>
          (slot s.notices.sources src).pending.isSome && (slot s.notices.sources src).enabled
            && decide ((slot s.notices.sources src).level < floor))]) })

/-- R184: NOTICE_N is asserted exactly while the part runs and some source is pending, enabled and at a level at
or above the floor, which is the top of the floor stack or 0; so it is released without supply and while RESET_N
is low. It follows from the state alone, so it changes at an event that changes what it reads and at no other
moment. -/
def Obligations.NoticeLineFollowsSourcesAndFloor : Prop :=
  ∀ (s : State) (floor : Nat),
    (s.notices.floors = [] ∧ floor = 0 ∨ ∃ rest, s.notices.floors = floor :: rest) →
    (s.noticeAsserted = true ↔ s.supply = .running ∧ ∃ src, (slot s.notices.sources src).pending ≠ none
      ∧ (slot s.notices.sources src).enabled = true ∧ floor ≤ (slot s.notices.sources src).level)

/-- R187: NOTICE_DONE on an empty floor stack is refused with NOTHING_OPEN; else the top floor is popped, the
current floor is the entry below it or 0, the NOTICE line is judged by it, and the reply is OK with that floor and
the number of entries left. It touches no source. -/
def Obligations.NoticeDonePopsTheTopFloor : Prop :=
  ∀ (s : State) (echo : Byte), s.serving (.noticeDone echo) →
    (s.notices.floors = [] →
      exec (.noticeDone echo) s = .next { s with port := s.port.replied echo .nothingOpen [] })
    ∧ ∀ top rest, s.notices.floors = top :: rest →
      ∃ t, exec (.noticeDone echo) s = .next t
        ∧ t.floor = rest.head?.getD 0
        ∧ (t.noticeAsserted = true ↔ s.supply = .running ∧ ∃ src, (slot s.notices.sources src).pending ≠ none
          ∧ (slot s.notices.sources src).enabled = true ∧ t.floor ≤ (slot s.notices.sources src).level)
        ∧ t = { s with
            notices := { s.notices with floors := rest }
            port := s.port.replied echo .ok (leFields [(1, t.floor), (1, rest.length)]) }

/-- R188: SET_NOTICE stores the enable and the clamped level, enabled at 3 for the ESTOP sources, and returns them
with the pending record (in the model's layout, assumption 26); a source above 23 or an enable above 1 is refused.
-/
def Obligations.SetNoticeStoresEnableAndLevel : Prop :=
  ∀ (s : State) (echo : Byte) (source enable level : Nat), s.serving (.setNotice echo source enable level) →
    (23 < source ∨ 1 < enable → exec (.setNotice echo source enable level) s
      = .next { s with port := s.port.replied echo .badValue [] })
    ∧ ∀ (src : Fin 24) (n : NoticeSource), source = src.val → enable ≤ 1 →
      n = { slot s.notices.sources src with
        enabled := decide (src.val < 4 ∨ enable = 1)
        level := if src.val < 4 then 3 else min 3 level } →
      exec (.setNotice echo source enable level) s = .next { s with
        notices := { s.notices with sources := put s.notices.sources src n }
        port := s.port.replied echo .ok (leFields [(1, src.val), (1, if n.enabled then 1 else 0),
          (1, n.level)] ++ (match n.pending with
            | none => List.replicate 14 0
            | some p => leFields [(1, 1), (1, p.count)] ++ p.detail.bytes)) }

/-! ### The whole block -/

/-- The command at the front of the queue runs, on the state with the rest of the queue; on an empty queue the
block idles, which is the model's choice (assumption 4). -/
def Obligations.StepRunsTheFrontCommand : Prop :=
  (∀ (s : State) (c : Instr), step { s with pending := c :: s.pending } = exec c s)
  ∧ ∀ s : State, s.pending = [] → step s = .next s

/-- R171 and R180 for requests, and for the other commands the model's choice that one which cannot occur in a
state leaves it as it was (assumption 5): every command of the table is answered with a next state in every state,
and leaves the commands waiting, a field of the model's own (assumption 1), as they are. -/
def Obligations.EveryCommandAnswersNextAndKeepsTheQueue : Prop :=
  ∀ (c : Instr) (s : State), ∃ t, exec c s = .next t ∧ t.pending = s.pending

/-- R155, R167, R181 and R185: every step keeps the write-back queue without repeats, the floors rising strictly
in 1 to 3, the sources' levels and counts in range with the ESTOP sources enabled at 3, and the port's buffers in
step with its status (and the model's own `before`, assumption 8, a status that can have come before it). -/
def Obligations.StepKeepsQueueFloorsSourcesAndPort : Prop :=
  ∀ s t : State, step s = .next t →
    (s.queueLaw → t.queueLaw) ∧ (s.floorLaw → t.floorLaw) ∧ (s.noticeLaw → t.noticeLaw)
      ∧ (s.portLaw → t.portLaw)

/-- R98, R109, R121, R123 and R125: every step keeps F in range, 0 unless the link is LIVE and what the levels,
solids and thresholds give; the make-up valve CLOSED unless the link is LIVE and the allowance not reached; each
supply valve OPEN exactly in CUTTING and HOLDING; the thresholds in range and order; and each blade's wear
remaining within its fitted life, with a blade at every station that has a plan. -/
def Obligations.StepKeepsTheWaterLaws : Prop :=
  ∀ s t : State, step s = .next t →
    (s.factorLaw → t.factorLaw) ∧ (s.makeUpLaw → t.makeUpLaw) ∧ (s.supplyValveLaw → t.supplyValveLaw)
      ∧ (s.thresholdLaw → t.thresholdLaw) ∧ (s.bladeLaw → t.bladeLaw)

/-- R33, R50, R62, R64, R69, R77, R93, R131 and R140: every step keeps at most one frame of each kind in a
transmit queue and a disabled line silent, the Line Map one-to-one, a plan bound exactly in the states that have
one, and no designation on a CLOSED job; and of a lawful state the job line law (delivered plus designated at most
the target), the designated counts equal to the PART leaves that name the line, and the order law (an order
outstanding is for the first PENDING cut of the bound plan, as is an ORDER that waits; CUTTING only with F above
0, PAUSED with WATER_HOLD only below the resume factor). -/
def Obligations.StepKeepsLineStationAndJobLaws : Prop :=
  ∀ s t : State, step s = .next t →
    (s.transmitLaw → t.transmitLaw) ∧ (s.lineMapLaw → t.lineMapLaw) ∧ (s.bindingLaw → t.bindingLaw)
      ∧ (s.closedJobLaw → t.closedJobLaw)
      ∧ (Lawful s → t.jobLineLaw ∧ t.designationLaw ∧ t.orderLaw)

/-- R4, R5, R6, R9, R27, R29, R41 and R46: every step keeps the tags of the live records unique and the Rack Map
in step with their positions; the live records and the reservations within 512; and, with unique tags, a record
HELD or CUTTING exactly when an occupied plan slot names it; and of a lawful state the plan law (the pieces are
what the cuts make of the whole slab, and leaves and strips add up to its area) and the progress law (cuts done,
passes and the remaining travel agree, at plan and station). -/
def Obligations.StepKeepsTheStockLaws : Prop :=
  ∀ s t : State, step s = .next t →
    (s.tagLaw → t.tagLaw) ∧ (s.tagLaw → s.rackLaw → t.rackLaw) ∧ (s.slotLaw → t.slotLaw)
      ∧ (s.tagLaw → s.holdingLaw → t.holdingLaw) ∧ (Lawful s → t.planLaw ∧ t.progressLaw)

/-- After reset every law that steps keep holds. The reset state is the part just powered on with a blank array,
the model's choice (assumption 1). -/
def Obligations.ResetMeetsEveryLaw : Prop :=
  State.reset.queueLaw ∧ State.reset.floorLaw ∧ State.reset.noticeLaw ∧ State.reset.portLaw
    ∧ State.reset.factorLaw ∧ State.reset.makeUpLaw ∧ State.reset.supplyValveLaw
    ∧ State.reset.transmitLaw ∧ State.reset.lineMapLaw ∧ State.reset.bindingLaw ∧ State.reset.closedJobLaw
    ∧ State.reset.tagLaw ∧ State.reset.rackLaw ∧ State.reset.slotLaw ∧ State.reset.holdingLaw
    ∧ Lawful State.reset

end Statements
end

