-- ==== Sys2Proof/Laws/State.lean ====
section
/-! SUPPORT. The small lemmas of the state's updates: for each update, what each field of the state is after it,
true by unfolding. -/

namespace Sys2Proof.Machine

variable (s : State)

/-! `State.setStation` -/

@[simp] theorem State.setStation_supply (i : Fin 4) (x : Station) :
    (s.setStation i x).supply = s.supply := rfl
@[simp] theorem State.setStation_port (i : Fin 4) (x : Station) : (s.setStation i x).port = s.port := rfl
@[simp] theorem State.setStation_notices (i : Fin 4) (x : Station) :
    (s.setStation i x).notices = s.notices := rfl
@[simp] theorem State.setStation_stock (i : Fin 4) (x : Station) : (s.setStation i x).stock = s.stock := rfl
@[simp] theorem State.setStation_plans (i : Fin 4) (x : Station) : (s.setStation i x).plans = s.plans := rfl
@[simp] theorem State.setStation_lines (i : Fin 4) (x : Station) : (s.setStation i x).lines = s.lines := rfl
@[simp] theorem State.setStation_lineMap (i : Fin 4) (x : Station) :
    (s.setStation i x).lineMap = s.lineMap := rfl
@[simp] theorem State.setStation_stations (i : Fin 4) (x : Station) :
    (s.setStation i x).stations = put s.stations i x := rfl
@[simp] theorem State.setStation_blades (i : Fin 4) (x : Station) :
    (s.setStation i x).blades = s.blades := rfl
@[simp] theorem State.setStation_water (i : Fin 4) (x : Station) : (s.setStation i x).water = s.water := rfl
@[simp] theorem State.setStation_jobs (i : Fin 4) (x : Station) : (s.setStation i x).jobs = s.jobs := rfl
@[simp] theorem State.setStation_overhead (i : Fin 4) (x : Station) :
    (s.setStation i x).overhead = s.overhead := rfl
@[simp] theorem State.setStation_settings (i : Fin 4) (x : Station) :
    (s.setStation i x).settings = s.settings := rfl
@[simp] theorem State.setStation_retention (i : Fin 4) (x : Station) :
    (s.setStation i x).retention = s.retention := rfl
@[simp] theorem State.setStation_freeUses (i : Fin 4) (x : Station) :
    (s.setStation i x).freeUses = s.freeUses := rfl
@[simp] theorem State.setStation_pending (i : Fin 4) (x : Station) :
    (s.setStation i x).pending = s.pending := rfl

/-! `State.setPlan` -/

@[simp] theorem State.setPlan_supply (k : Fin 12) (p : Option Plan) :
    (s.setPlan k p).supply = s.supply := rfl
@[simp] theorem State.setPlan_port (k : Fin 12) (p : Option Plan) : (s.setPlan k p).port = s.port := rfl
@[simp] theorem State.setPlan_notices (k : Fin 12) (p : Option Plan) :
    (s.setPlan k p).notices = s.notices := rfl
@[simp] theorem State.setPlan_stock (k : Fin 12) (p : Option Plan) : (s.setPlan k p).stock = s.stock := rfl
@[simp] theorem State.setPlan_plans (k : Fin 12) (p : Option Plan) :
    (s.setPlan k p).plans = put s.plans k p := rfl
@[simp] theorem State.setPlan_lines (k : Fin 12) (p : Option Plan) : (s.setPlan k p).lines = s.lines := rfl
@[simp] theorem State.setPlan_lineMap (k : Fin 12) (p : Option Plan) :
    (s.setPlan k p).lineMap = s.lineMap := rfl
@[simp] theorem State.setPlan_stations (k : Fin 12) (p : Option Plan) :
    (s.setPlan k p).stations = s.stations := rfl
@[simp] theorem State.setPlan_blades (k : Fin 12) (p : Option Plan) :
    (s.setPlan k p).blades = s.blades := rfl
@[simp] theorem State.setPlan_water (k : Fin 12) (p : Option Plan) : (s.setPlan k p).water = s.water := rfl
@[simp] theorem State.setPlan_jobs (k : Fin 12) (p : Option Plan) : (s.setPlan k p).jobs = s.jobs := rfl
@[simp] theorem State.setPlan_overhead (k : Fin 12) (p : Option Plan) :
    (s.setPlan k p).overhead = s.overhead := rfl
@[simp] theorem State.setPlan_settings (k : Fin 12) (p : Option Plan) :
    (s.setPlan k p).settings = s.settings := rfl
@[simp] theorem State.setPlan_retention (k : Fin 12) (p : Option Plan) :
    (s.setPlan k p).retention = s.retention := rfl
@[simp] theorem State.setPlan_freeUses (k : Fin 12) (p : Option Plan) :
    (s.setPlan k p).freeUses = s.freeUses := rfl
@[simp] theorem State.setPlan_pending (k : Fin 12) (p : Option Plan) :
    (s.setPlan k p).pending = s.pending := rfl

/-! `State.setLine` -/

@[simp] theorem State.setLine_supply (l : Fin 5) (x : Line) : (s.setLine l x).supply = s.supply := rfl
@[simp] theorem State.setLine_port (l : Fin 5) (x : Line) : (s.setLine l x).port = s.port := rfl
@[simp] theorem State.setLine_notices (l : Fin 5) (x : Line) : (s.setLine l x).notices = s.notices := rfl
@[simp] theorem State.setLine_stock (l : Fin 5) (x : Line) : (s.setLine l x).stock = s.stock := rfl
@[simp] theorem State.setLine_plans (l : Fin 5) (x : Line) : (s.setLine l x).plans = s.plans := rfl
@[simp] theorem State.setLine_lines (l : Fin 5) (x : Line) : (s.setLine l x).lines = put s.lines l x := rfl
@[simp] theorem State.setLine_lineMap (l : Fin 5) (x : Line) : (s.setLine l x).lineMap = s.lineMap := rfl
@[simp] theorem State.setLine_stations (l : Fin 5) (x : Line) : (s.setLine l x).stations = s.stations := rfl
@[simp] theorem State.setLine_blades (l : Fin 5) (x : Line) : (s.setLine l x).blades = s.blades := rfl
@[simp] theorem State.setLine_water (l : Fin 5) (x : Line) : (s.setLine l x).water = s.water := rfl
@[simp] theorem State.setLine_jobs (l : Fin 5) (x : Line) : (s.setLine l x).jobs = s.jobs := rfl
@[simp] theorem State.setLine_overhead (l : Fin 5) (x : Line) : (s.setLine l x).overhead = s.overhead := rfl
@[simp] theorem State.setLine_settings (l : Fin 5) (x : Line) : (s.setLine l x).settings = s.settings := rfl
@[simp] theorem State.setLine_retention (l : Fin 5) (x : Line) :
    (s.setLine l x).retention = s.retention := rfl
@[simp] theorem State.setLine_freeUses (l : Fin 5) (x : Line) : (s.setLine l x).freeUses = s.freeUses := rfl
@[simp] theorem State.setLine_pending (l : Fin 5) (x : Line) : (s.setLine l x).pending = s.pending := rfl

/-! `State.setBlade` -/

@[simp] theorem State.setBlade_supply (i : Fin 4) (b : Option Blade) :
    (s.setBlade i b).supply = s.supply := rfl
@[simp] theorem State.setBlade_port (i : Fin 4) (b : Option Blade) : (s.setBlade i b).port = s.port := rfl
@[simp] theorem State.setBlade_notices (i : Fin 4) (b : Option Blade) :
    (s.setBlade i b).notices = s.notices := rfl
@[simp] theorem State.setBlade_stock (i : Fin 4) (b : Option Blade) :
    (s.setBlade i b).stock = s.stock := rfl
@[simp] theorem State.setBlade_plans (i : Fin 4) (b : Option Blade) :
    (s.setBlade i b).plans = s.plans := rfl
@[simp] theorem State.setBlade_lines (i : Fin 4) (b : Option Blade) :
    (s.setBlade i b).lines = s.lines := rfl
@[simp] theorem State.setBlade_lineMap (i : Fin 4) (b : Option Blade) :
    (s.setBlade i b).lineMap = s.lineMap := rfl
@[simp] theorem State.setBlade_stations (i : Fin 4) (b : Option Blade) :
    (s.setBlade i b).stations = s.stations := rfl
@[simp] theorem State.setBlade_blades (i : Fin 4) (b : Option Blade) :
    (s.setBlade i b).blades = put s.blades i b := rfl
@[simp] theorem State.setBlade_water (i : Fin 4) (b : Option Blade) :
    (s.setBlade i b).water = s.water := rfl
@[simp] theorem State.setBlade_jobs (i : Fin 4) (b : Option Blade) : (s.setBlade i b).jobs = s.jobs := rfl
@[simp] theorem State.setBlade_overhead (i : Fin 4) (b : Option Blade) :
    (s.setBlade i b).overhead = s.overhead := rfl
@[simp] theorem State.setBlade_settings (i : Fin 4) (b : Option Blade) :
    (s.setBlade i b).settings = s.settings := rfl
@[simp] theorem State.setBlade_retention (i : Fin 4) (b : Option Blade) :
    (s.setBlade i b).retention = s.retention := rfl
@[simp] theorem State.setBlade_freeUses (i : Fin 4) (b : Option Blade) :
    (s.setBlade i b).freeUses = s.freeUses := rfl
@[simp] theorem State.setBlade_pending (i : Fin 4) (b : Option Blade) :
    (s.setBlade i b).pending = s.pending := rfl

/-! `State.setSlab` -/

@[simp] theorem State.setSlab_supply (n : Fin 512) (r : Option Slab) :
    (s.setSlab n r).supply = s.supply := rfl
@[simp] theorem State.setSlab_port (n : Fin 512) (r : Option Slab) : (s.setSlab n r).port = s.port := rfl
@[simp] theorem State.setSlab_notices (n : Fin 512) (r : Option Slab) :
    (s.setSlab n r).notices = s.notices := rfl
@[simp] theorem State.setSlab_stock (n : Fin 512) (r : Option Slab) :
    (s.setSlab n r).stock = { s.stock with slabs := put s.stock.slabs n r } := rfl
@[simp] theorem State.setSlab_plans (n : Fin 512) (r : Option Slab) : (s.setSlab n r).plans = s.plans := rfl
@[simp] theorem State.setSlab_lines (n : Fin 512) (r : Option Slab) : (s.setSlab n r).lines = s.lines := rfl
@[simp] theorem State.setSlab_lineMap (n : Fin 512) (r : Option Slab) :
    (s.setSlab n r).lineMap = s.lineMap := rfl
@[simp] theorem State.setSlab_stations (n : Fin 512) (r : Option Slab) :
    (s.setSlab n r).stations = s.stations := rfl
@[simp] theorem State.setSlab_blades (n : Fin 512) (r : Option Slab) :
    (s.setSlab n r).blades = s.blades := rfl
@[simp] theorem State.setSlab_water (n : Fin 512) (r : Option Slab) : (s.setSlab n r).water = s.water := rfl
@[simp] theorem State.setSlab_jobs (n : Fin 512) (r : Option Slab) : (s.setSlab n r).jobs = s.jobs := rfl
@[simp] theorem State.setSlab_overhead (n : Fin 512) (r : Option Slab) :
    (s.setSlab n r).overhead = s.overhead := rfl
@[simp] theorem State.setSlab_settings (n : Fin 512) (r : Option Slab) :
    (s.setSlab n r).settings = s.settings := rfl
@[simp] theorem State.setSlab_retention (n : Fin 512) (r : Option Slab) :
    (s.setSlab n r).retention = s.retention := rfl
@[simp] theorem State.setSlab_freeUses (n : Fin 512) (r : Option Slab) :
    (s.setSlab n r).freeUses = s.freeUses := rfl
@[simp] theorem State.setSlab_pending (n : Fin 512) (r : Option Slab) :
    (s.setSlab n r).pending = s.pending := rfl

/-! `State.setMaterial` -/

@[simp] theorem State.setMaterial_supply (c : Fin 32) (m : Option Material) :
    (s.setMaterial c m).supply = s.supply := rfl
@[simp] theorem State.setMaterial_port (c : Fin 32) (m : Option Material) :
    (s.setMaterial c m).port = s.port := rfl
@[simp] theorem State.setMaterial_notices (c : Fin 32) (m : Option Material) :
    (s.setMaterial c m).notices = s.notices := rfl
@[simp] theorem State.setMaterial_stock (c : Fin 32) (m : Option Material) :
    (s.setMaterial c m).stock = { s.stock with materials := put s.stock.materials c m } := rfl
@[simp] theorem State.setMaterial_plans (c : Fin 32) (m : Option Material) :
    (s.setMaterial c m).plans = s.plans := rfl
@[simp] theorem State.setMaterial_lines (c : Fin 32) (m : Option Material) :
    (s.setMaterial c m).lines = s.lines := rfl
@[simp] theorem State.setMaterial_lineMap (c : Fin 32) (m : Option Material) :
    (s.setMaterial c m).lineMap = s.lineMap := rfl
@[simp] theorem State.setMaterial_stations (c : Fin 32) (m : Option Material) :
    (s.setMaterial c m).stations = s.stations := rfl
@[simp] theorem State.setMaterial_blades (c : Fin 32) (m : Option Material) :
    (s.setMaterial c m).blades = s.blades := rfl
@[simp] theorem State.setMaterial_water (c : Fin 32) (m : Option Material) :
    (s.setMaterial c m).water = s.water := rfl
@[simp] theorem State.setMaterial_jobs (c : Fin 32) (m : Option Material) :
    (s.setMaterial c m).jobs = s.jobs := rfl
@[simp] theorem State.setMaterial_overhead (c : Fin 32) (m : Option Material) :
    (s.setMaterial c m).overhead = s.overhead := rfl
@[simp] theorem State.setMaterial_settings (c : Fin 32) (m : Option Material) :
    (s.setMaterial c m).settings = s.settings := rfl
@[simp] theorem State.setMaterial_retention (c : Fin 32) (m : Option Material) :
    (s.setMaterial c m).retention = s.retention := rfl
@[simp] theorem State.setMaterial_freeUses (c : Fin 32) (m : Option Material) :
    (s.setMaterial c m).freeUses = s.freeUses := rfl
@[simp] theorem State.setMaterial_pending (c : Fin 32) (m : Option Material) :
    (s.setMaterial c m).pending = s.pending := rfl

/-! `State.setRack` -/

@[simp] theorem State.setRack_supply (pos : Fin 120) (tag : Option Nat) :
    (s.setRack pos tag).supply = s.supply := rfl
@[simp] theorem State.setRack_port (pos : Fin 120) (tag : Option Nat) :
    (s.setRack pos tag).port = s.port := rfl
@[simp] theorem State.setRack_notices (pos : Fin 120) (tag : Option Nat) :
    (s.setRack pos tag).notices = s.notices := rfl
@[simp] theorem State.setRack_stock (pos : Fin 120) (tag : Option Nat) :
    (s.setRack pos tag).stock = { s.stock with rackMap := put s.stock.rackMap pos tag } := rfl
@[simp] theorem State.setRack_plans (pos : Fin 120) (tag : Option Nat) :
    (s.setRack pos tag).plans = s.plans := rfl
@[simp] theorem State.setRack_lines (pos : Fin 120) (tag : Option Nat) :
    (s.setRack pos tag).lines = s.lines := rfl
@[simp] theorem State.setRack_lineMap (pos : Fin 120) (tag : Option Nat) :
    (s.setRack pos tag).lineMap = s.lineMap := rfl
@[simp] theorem State.setRack_stations (pos : Fin 120) (tag : Option Nat) :
    (s.setRack pos tag).stations = s.stations := rfl
@[simp] theorem State.setRack_blades (pos : Fin 120) (tag : Option Nat) :
    (s.setRack pos tag).blades = s.blades := rfl
@[simp] theorem State.setRack_water (pos : Fin 120) (tag : Option Nat) :
    (s.setRack pos tag).water = s.water := rfl
@[simp] theorem State.setRack_jobs (pos : Fin 120) (tag : Option Nat) :
    (s.setRack pos tag).jobs = s.jobs := rfl
@[simp] theorem State.setRack_overhead (pos : Fin 120) (tag : Option Nat) :
    (s.setRack pos tag).overhead = s.overhead := rfl
@[simp] theorem State.setRack_settings (pos : Fin 120) (tag : Option Nat) :
    (s.setRack pos tag).settings = s.settings := rfl
@[simp] theorem State.setRack_retention (pos : Fin 120) (tag : Option Nat) :
    (s.setRack pos tag).retention = s.retention := rfl
@[simp] theorem State.setRack_freeUses (pos : Fin 120) (tag : Option Nat) :
    (s.setRack pos tag).freeUses = s.freeUses := rfl
@[simp] theorem State.setRack_pending (pos : Fin 120) (tag : Option Nat) :
    (s.setRack pos tag).pending = s.pending := rfl

/-! `State.setReserved` -/

@[simp] theorem State.setReserved_supply (r : Nat) : (s.setReserved r).supply = s.supply := rfl
@[simp] theorem State.setReserved_port (r : Nat) : (s.setReserved r).port = s.port := rfl
@[simp] theorem State.setReserved_notices (r : Nat) : (s.setReserved r).notices = s.notices := rfl
@[simp] theorem State.setReserved_stock (r : Nat) :
    (s.setReserved r).stock = { s.stock with reserved := r } := rfl
@[simp] theorem State.setReserved_plans (r : Nat) : (s.setReserved r).plans = s.plans := rfl
@[simp] theorem State.setReserved_lines (r : Nat) : (s.setReserved r).lines = s.lines := rfl
@[simp] theorem State.setReserved_lineMap (r : Nat) : (s.setReserved r).lineMap = s.lineMap := rfl
@[simp] theorem State.setReserved_stations (r : Nat) : (s.setReserved r).stations = s.stations := rfl
@[simp] theorem State.setReserved_blades (r : Nat) : (s.setReserved r).blades = s.blades := rfl
@[simp] theorem State.setReserved_water (r : Nat) : (s.setReserved r).water = s.water := rfl
@[simp] theorem State.setReserved_jobs (r : Nat) : (s.setReserved r).jobs = s.jobs := rfl
@[simp] theorem State.setReserved_overhead (r : Nat) : (s.setReserved r).overhead = s.overhead := rfl
@[simp] theorem State.setReserved_settings (r : Nat) : (s.setReserved r).settings = s.settings := rfl
@[simp] theorem State.setReserved_retention (r : Nat) : (s.setReserved r).retention = s.retention := rfl
@[simp] theorem State.setReserved_freeUses (r : Nat) : (s.setReserved r).freeUses = s.freeUses := rfl
@[simp] theorem State.setReserved_pending (r : Nat) : (s.setReserved r).pending = s.pending := rfl

/-! `State.setJob` -/

@[simp] theorem State.setJob_supply (n : Fin 96) (j : Option Job) : (s.setJob n j).supply = s.supply := rfl
@[simp] theorem State.setJob_port (n : Fin 96) (j : Option Job) : (s.setJob n j).port = s.port := rfl
@[simp] theorem State.setJob_notices (n : Fin 96) (j : Option Job) :
    (s.setJob n j).notices = s.notices := rfl
@[simp] theorem State.setJob_stock (n : Fin 96) (j : Option Job) : (s.setJob n j).stock = s.stock := rfl
@[simp] theorem State.setJob_plans (n : Fin 96) (j : Option Job) : (s.setJob n j).plans = s.plans := rfl
@[simp] theorem State.setJob_lines (n : Fin 96) (j : Option Job) : (s.setJob n j).lines = s.lines := rfl
@[simp] theorem State.setJob_lineMap (n : Fin 96) (j : Option Job) :
    (s.setJob n j).lineMap = s.lineMap := rfl
@[simp] theorem State.setJob_stations (n : Fin 96) (j : Option Job) :
    (s.setJob n j).stations = s.stations := rfl
@[simp] theorem State.setJob_blades (n : Fin 96) (j : Option Job) : (s.setJob n j).blades = s.blades := rfl
@[simp] theorem State.setJob_water (n : Fin 96) (j : Option Job) : (s.setJob n j).water = s.water := rfl
@[simp] theorem State.setJob_jobs (n : Fin 96) (j : Option Job) :
    (s.setJob n j).jobs = put s.jobs n j := rfl
@[simp] theorem State.setJob_overhead (n : Fin 96) (j : Option Job) :
    (s.setJob n j).overhead = s.overhead := rfl
@[simp] theorem State.setJob_settings (n : Fin 96) (j : Option Job) :
    (s.setJob n j).settings = s.settings := rfl
@[simp] theorem State.setJob_retention (n : Fin 96) (j : Option Job) :
    (s.setJob n j).retention = s.retention := rfl
@[simp] theorem State.setJob_freeUses (n : Fin 96) (j : Option Job) :
    (s.setJob n j).freeUses = s.freeUses := rfl
@[simp] theorem State.setJob_pending (n : Fin 96) (j : Option Job) :
    (s.setJob n j).pending = s.pending := rfl

/-! `State.setKept` -/

@[simp] theorem State.setKept_supply (k : WaterRetained) : (s.setKept k).supply = s.supply := rfl
@[simp] theorem State.setKept_port (k : WaterRetained) : (s.setKept k).port = s.port := rfl
@[simp] theorem State.setKept_notices (k : WaterRetained) : (s.setKept k).notices = s.notices := rfl
@[simp] theorem State.setKept_stock (k : WaterRetained) : (s.setKept k).stock = s.stock := rfl
@[simp] theorem State.setKept_plans (k : WaterRetained) : (s.setKept k).plans = s.plans := rfl
@[simp] theorem State.setKept_lines (k : WaterRetained) : (s.setKept k).lines = s.lines := rfl
@[simp] theorem State.setKept_lineMap (k : WaterRetained) : (s.setKept k).lineMap = s.lineMap := rfl
@[simp] theorem State.setKept_stations (k : WaterRetained) : (s.setKept k).stations = s.stations := rfl
@[simp] theorem State.setKept_blades (k : WaterRetained) : (s.setKept k).blades = s.blades := rfl
@[simp] theorem State.setKept_water (k : WaterRetained) :
    (s.setKept k).water = { s.water with kept := k } := rfl
@[simp] theorem State.setKept_jobs (k : WaterRetained) : (s.setKept k).jobs = s.jobs := rfl
@[simp] theorem State.setKept_overhead (k : WaterRetained) : (s.setKept k).overhead = s.overhead := rfl
@[simp] theorem State.setKept_settings (k : WaterRetained) : (s.setKept k).settings = s.settings := rfl
@[simp] theorem State.setKept_retention (k : WaterRetained) : (s.setKept k).retention = s.retention := rfl
@[simp] theorem State.setKept_freeUses (k : WaterRetained) : (s.setKept k).freeUses = s.freeUses := rfl
@[simp] theorem State.setKept_pending (k : WaterRetained) : (s.setKept k).pending = s.pending := rfl

/-! `State.enqueue` -/

@[simp] theorem State.enqueue_supply (p : Fin 648) : (s.enqueue p).supply = s.supply := rfl
@[simp] theorem State.enqueue_port (p : Fin 648) : (s.enqueue p).port = s.port := rfl
@[simp] theorem State.enqueue_notices (p : Fin 648) : (s.enqueue p).notices = s.notices := rfl
@[simp] theorem State.enqueue_stock (p : Fin 648) : (s.enqueue p).stock = s.stock := rfl
@[simp] theorem State.enqueue_plans (p : Fin 648) : (s.enqueue p).plans = s.plans := rfl
@[simp] theorem State.enqueue_lines (p : Fin 648) : (s.enqueue p).lines = s.lines := rfl
@[simp] theorem State.enqueue_lineMap (p : Fin 648) : (s.enqueue p).lineMap = s.lineMap := rfl
@[simp] theorem State.enqueue_stations (p : Fin 648) : (s.enqueue p).stations = s.stations := rfl
@[simp] theorem State.enqueue_blades (p : Fin 648) : (s.enqueue p).blades = s.blades := rfl
@[simp] theorem State.enqueue_water (p : Fin 648) : (s.enqueue p).water = s.water := rfl
@[simp] theorem State.enqueue_jobs (p : Fin 648) : (s.enqueue p).jobs = s.jobs := rfl
@[simp] theorem State.enqueue_overhead (p : Fin 648) : (s.enqueue p).overhead = s.overhead := rfl
@[simp] theorem State.enqueue_settings (p : Fin 648) : (s.enqueue p).settings = s.settings := rfl
@[simp] theorem State.enqueue_retention (p : Fin 648) :
    (s.enqueue p).retention = { s.retention with queue := queueWith s.retention.queue p } := rfl
@[simp] theorem State.enqueue_freeUses (p : Fin 648) : (s.enqueue p).freeUses = s.freeUses := rfl
@[simp] theorem State.enqueue_pending (p : Fin 648) : (s.enqueue p).pending = s.pending := rfl

/-! `State.raise` -/

@[simp] theorem State.raise_supply (src : Fin 24) (d : Detail) : (s.raise src d).supply = s.supply := rfl
@[simp] theorem State.raise_port (src : Fin 24) (d : Detail) : (s.raise src d).port = s.port := rfl
@[simp] theorem State.raise_notices (src : Fin 24) (d : Detail) :
    (s.raise src d).notices = { s.notices with sources := put s.notices.sources src ((slot s.notices.sources src).raised d) } := rfl
@[simp] theorem State.raise_stock (src : Fin 24) (d : Detail) : (s.raise src d).stock = s.stock := rfl
@[simp] theorem State.raise_plans (src : Fin 24) (d : Detail) : (s.raise src d).plans = s.plans := rfl
@[simp] theorem State.raise_lines (src : Fin 24) (d : Detail) : (s.raise src d).lines = s.lines := rfl
@[simp] theorem State.raise_lineMap (src : Fin 24) (d : Detail) : (s.raise src d).lineMap = s.lineMap := rfl
@[simp] theorem State.raise_stations (src : Fin 24) (d : Detail) :
    (s.raise src d).stations = s.stations := rfl
@[simp] theorem State.raise_blades (src : Fin 24) (d : Detail) : (s.raise src d).blades = s.blades := rfl
@[simp] theorem State.raise_water (src : Fin 24) (d : Detail) : (s.raise src d).water = s.water := rfl
@[simp] theorem State.raise_jobs (src : Fin 24) (d : Detail) : (s.raise src d).jobs = s.jobs := rfl
@[simp] theorem State.raise_overhead (src : Fin 24) (d : Detail) :
    (s.raise src d).overhead = s.overhead := rfl
@[simp] theorem State.raise_settings (src : Fin 24) (d : Detail) :
    (s.raise src d).settings = s.settings := rfl
@[simp] theorem State.raise_retention (src : Fin 24) (d : Detail) :
    (s.raise src d).retention = s.retention := rfl
@[simp] theorem State.raise_freeUses (src : Fin 24) (d : Detail) :
    (s.raise src d).freeUses = s.freeUses := rfl
@[simp] theorem State.raise_pending (src : Fin 24) (d : Detail) : (s.raise src d).pending = s.pending := rfl

/-! `State.answer` -/

@[simp] theorem State.answer_supply (echo : Byte) (code : ReplyCode) (fs : List Byte) :
    (s.answer echo code fs).supply = s.supply := rfl
@[simp] theorem State.answer_port (echo : Byte) (code : ReplyCode) (fs : List Byte) :
    (s.answer echo code fs).port = { s.port with status := .reply, before := some .working, request := none, reply := some { code := code, echo := echo, fields := fs } } := rfl
@[simp] theorem State.answer_notices (echo : Byte) (code : ReplyCode) (fs : List Byte) :
    (s.answer echo code fs).notices = s.notices := rfl
@[simp] theorem State.answer_stock (echo : Byte) (code : ReplyCode) (fs : List Byte) :
    (s.answer echo code fs).stock = s.stock := rfl
@[simp] theorem State.answer_plans (echo : Byte) (code : ReplyCode) (fs : List Byte) :
    (s.answer echo code fs).plans = s.plans := rfl
@[simp] theorem State.answer_lines (echo : Byte) (code : ReplyCode) (fs : List Byte) :
    (s.answer echo code fs).lines = s.lines := rfl
@[simp] theorem State.answer_lineMap (echo : Byte) (code : ReplyCode) (fs : List Byte) :
    (s.answer echo code fs).lineMap = s.lineMap := rfl
@[simp] theorem State.answer_stations (echo : Byte) (code : ReplyCode) (fs : List Byte) :
    (s.answer echo code fs).stations = s.stations := rfl
@[simp] theorem State.answer_blades (echo : Byte) (code : ReplyCode) (fs : List Byte) :
    (s.answer echo code fs).blades = s.blades := rfl
@[simp] theorem State.answer_water (echo : Byte) (code : ReplyCode) (fs : List Byte) :
    (s.answer echo code fs).water = s.water := rfl
@[simp] theorem State.answer_jobs (echo : Byte) (code : ReplyCode) (fs : List Byte) :
    (s.answer echo code fs).jobs = s.jobs := rfl
@[simp] theorem State.answer_overhead (echo : Byte) (code : ReplyCode) (fs : List Byte) :
    (s.answer echo code fs).overhead = s.overhead := rfl
@[simp] theorem State.answer_settings (echo : Byte) (code : ReplyCode) (fs : List Byte) :
    (s.answer echo code fs).settings = s.settings := rfl
@[simp] theorem State.answer_retention (echo : Byte) (code : ReplyCode) (fs : List Byte) :
    (s.answer echo code fs).retention = s.retention := rfl
@[simp] theorem State.answer_freeUses (echo : Byte) (code : ReplyCode) (fs : List Byte) :
    (s.answer echo code fs).freeUses = s.freeUses := rfl
@[simp] theorem State.answer_pending (echo : Byte) (code : ReplyCode) (fs : List Byte) :
    (s.answer echo code fs).pending = s.pending := rfl

/-! `State.endTransfer` -/

@[simp] theorem State.endTransfer_supply (bytes : List Byte) :
    (s.endTransfer bytes).supply = s.supply := rfl
@[simp] theorem State.endTransfer_port (bytes : List Byte) :
    (s.endTransfer bytes).port = { s.port with before := none, sdo := bytes } := rfl
@[simp] theorem State.endTransfer_notices (bytes : List Byte) :
    (s.endTransfer bytes).notices = s.notices := rfl
@[simp] theorem State.endTransfer_stock (bytes : List Byte) : (s.endTransfer bytes).stock = s.stock := rfl
@[simp] theorem State.endTransfer_plans (bytes : List Byte) : (s.endTransfer bytes).plans = s.plans := rfl
@[simp] theorem State.endTransfer_lines (bytes : List Byte) : (s.endTransfer bytes).lines = s.lines := rfl
@[simp] theorem State.endTransfer_lineMap (bytes : List Byte) :
    (s.endTransfer bytes).lineMap = s.lineMap := rfl
@[simp] theorem State.endTransfer_stations (bytes : List Byte) :
    (s.endTransfer bytes).stations = s.stations := rfl
@[simp] theorem State.endTransfer_blades (bytes : List Byte) :
    (s.endTransfer bytes).blades = s.blades := rfl
@[simp] theorem State.endTransfer_water (bytes : List Byte) : (s.endTransfer bytes).water = s.water := rfl
@[simp] theorem State.endTransfer_jobs (bytes : List Byte) : (s.endTransfer bytes).jobs = s.jobs := rfl
@[simp] theorem State.endTransfer_overhead (bytes : List Byte) :
    (s.endTransfer bytes).overhead = s.overhead := rfl
@[simp] theorem State.endTransfer_settings (bytes : List Byte) :
    (s.endTransfer bytes).settings = s.settings := rfl
@[simp] theorem State.endTransfer_retention (bytes : List Byte) :
    (s.endTransfer bytes).retention = s.retention := rfl
@[simp] theorem State.endTransfer_freeUses (bytes : List Byte) :
    (s.endTransfer bytes).freeUses = s.freeUses := rfl
@[simp] theorem State.endTransfer_pending (bytes : List Byte) :
    (s.endTransfer bytes).pending = s.pending := rfl

/-! `State.setPage` -/

@[simp] theorem State.setPage_supply (p : Fin 648) (x : Page) : (s.setPage p x).supply = s.supply := rfl
@[simp] theorem State.setPage_port (p : Fin 648) (x : Page) : (s.setPage p x).port = s.port := rfl
@[simp] theorem State.setPage_notices (p : Fin 648) (x : Page) : (s.setPage p x).notices = s.notices := rfl
@[simp] theorem State.setPage_stock (p : Fin 648) (x : Page) : (s.setPage p x).stock = s.stock := rfl
@[simp] theorem State.setPage_plans (p : Fin 648) (x : Page) : (s.setPage p x).plans = s.plans := rfl
@[simp] theorem State.setPage_lines (p : Fin 648) (x : Page) : (s.setPage p x).lines = s.lines := rfl
@[simp] theorem State.setPage_lineMap (p : Fin 648) (x : Page) : (s.setPage p x).lineMap = s.lineMap := rfl
@[simp] theorem State.setPage_stations (p : Fin 648) (x : Page) :
    (s.setPage p x).stations = s.stations := rfl
@[simp] theorem State.setPage_blades (p : Fin 648) (x : Page) : (s.setPage p x).blades = s.blades := rfl
@[simp] theorem State.setPage_water (p : Fin 648) (x : Page) : (s.setPage p x).water = s.water := rfl
@[simp] theorem State.setPage_jobs (p : Fin 648) (x : Page) : (s.setPage p x).jobs = s.jobs := rfl
@[simp] theorem State.setPage_overhead (p : Fin 648) (x : Page) :
    (s.setPage p x).overhead = s.overhead := rfl
@[simp] theorem State.setPage_settings (p : Fin 648) (x : Page) :
    (s.setPage p x).settings = s.settings := rfl
@[simp] theorem State.setPage_retention (p : Fin 648) (x : Page) :
    (s.setPage p x).retention = { s.retention with pages := put s.retention.pages p x } := rfl
@[simp] theorem State.setPage_freeUses (p : Fin 648) (x : Page) :
    (s.setPage p x).freeUses = s.freeUses := rfl
@[simp] theorem State.setPage_pending (p : Fin 648) (x : Page) : (s.setPage p x).pending = s.pending := rfl

/-! `State.setUnsaved` -/

@[simp] theorem State.setUnsaved_supply (p : Fin 648) (b : Bool) :
    (s.setUnsaved p b).supply = s.supply := rfl
@[simp] theorem State.setUnsaved_port (p : Fin 648) (b : Bool) : (s.setUnsaved p b).port = s.port := rfl
@[simp] theorem State.setUnsaved_notices (p : Fin 648) (b : Bool) :
    (s.setUnsaved p b).notices = s.notices := rfl
@[simp] theorem State.setUnsaved_stock (p : Fin 648) (b : Bool) : (s.setUnsaved p b).stock = s.stock := rfl
@[simp] theorem State.setUnsaved_plans (p : Fin 648) (b : Bool) : (s.setUnsaved p b).plans = s.plans := rfl
@[simp] theorem State.setUnsaved_lines (p : Fin 648) (b : Bool) : (s.setUnsaved p b).lines = s.lines := rfl
@[simp] theorem State.setUnsaved_lineMap (p : Fin 648) (b : Bool) :
    (s.setUnsaved p b).lineMap = s.lineMap := rfl
@[simp] theorem State.setUnsaved_stations (p : Fin 648) (b : Bool) :
    (s.setUnsaved p b).stations = s.stations := rfl
@[simp] theorem State.setUnsaved_blades (p : Fin 648) (b : Bool) :
    (s.setUnsaved p b).blades = s.blades := rfl
@[simp] theorem State.setUnsaved_water (p : Fin 648) (b : Bool) : (s.setUnsaved p b).water = s.water := rfl
@[simp] theorem State.setUnsaved_jobs (p : Fin 648) (b : Bool) : (s.setUnsaved p b).jobs = s.jobs := rfl
@[simp] theorem State.setUnsaved_overhead (p : Fin 648) (b : Bool) :
    (s.setUnsaved p b).overhead = s.overhead := rfl
@[simp] theorem State.setUnsaved_settings (p : Fin 648) (b : Bool) :
    (s.setUnsaved p b).settings = s.settings := rfl
@[simp] theorem State.setUnsaved_retention (p : Fin 648) (b : Bool) :
    (s.setUnsaved p b).retention = { s.retention with unsaved := put s.retention.unsaved p b } := rfl
@[simp] theorem State.setUnsaved_freeUses (p : Fin 648) (b : Bool) :
    (s.setUnsaved p b).freeUses = s.freeUses := rfl
@[simp] theorem State.setUnsaved_pending (p : Fin 648) (b : Bool) :
    (s.setUnsaved p b).pending = s.pending := rfl

/-! `State.setWrite` -/

@[simp] theorem State.setWrite_supply (w : Option PageWrite) : (s.setWrite w).supply = s.supply := rfl
@[simp] theorem State.setWrite_port (w : Option PageWrite) : (s.setWrite w).port = s.port := rfl
@[simp] theorem State.setWrite_notices (w : Option PageWrite) : (s.setWrite w).notices = s.notices := rfl
@[simp] theorem State.setWrite_stock (w : Option PageWrite) : (s.setWrite w).stock = s.stock := rfl
@[simp] theorem State.setWrite_plans (w : Option PageWrite) : (s.setWrite w).plans = s.plans := rfl
@[simp] theorem State.setWrite_lines (w : Option PageWrite) : (s.setWrite w).lines = s.lines := rfl
@[simp] theorem State.setWrite_lineMap (w : Option PageWrite) : (s.setWrite w).lineMap = s.lineMap := rfl
@[simp] theorem State.setWrite_stations (w : Option PageWrite) : (s.setWrite w).stations = s.stations := rfl
@[simp] theorem State.setWrite_blades (w : Option PageWrite) : (s.setWrite w).blades = s.blades := rfl
@[simp] theorem State.setWrite_water (w : Option PageWrite) : (s.setWrite w).water = s.water := rfl
@[simp] theorem State.setWrite_jobs (w : Option PageWrite) : (s.setWrite w).jobs = s.jobs := rfl
@[simp] theorem State.setWrite_overhead (w : Option PageWrite) : (s.setWrite w).overhead = s.overhead := rfl
@[simp] theorem State.setWrite_settings (w : Option PageWrite) : (s.setWrite w).settings = s.settings := rfl
@[simp] theorem State.setWrite_retention (w : Option PageWrite) :
    (s.setWrite w).retention = { s.retention with write := w } := rfl
@[simp] theorem State.setWrite_freeUses (w : Option PageWrite) : (s.setWrite w).freeUses = s.freeUses := rfl
@[simp] theorem State.setWrite_pending (w : Option PageWrite) : (s.setWrite w).pending = s.pending := rfl

/-! `State.setSource` -/

@[simp] theorem State.setSource_supply (src : Fin 24) (n : NoticeSource) :
    (s.setSource src n).supply = s.supply := rfl
@[simp] theorem State.setSource_port (src : Fin 24) (n : NoticeSource) :
    (s.setSource src n).port = s.port := rfl
@[simp] theorem State.setSource_notices (src : Fin 24) (n : NoticeSource) :
    (s.setSource src n).notices = { s.notices with sources := put s.notices.sources src n } := rfl
@[simp] theorem State.setSource_stock (src : Fin 24) (n : NoticeSource) :
    (s.setSource src n).stock = s.stock := rfl
@[simp] theorem State.setSource_plans (src : Fin 24) (n : NoticeSource) :
    (s.setSource src n).plans = s.plans := rfl
@[simp] theorem State.setSource_lines (src : Fin 24) (n : NoticeSource) :
    (s.setSource src n).lines = s.lines := rfl
@[simp] theorem State.setSource_lineMap (src : Fin 24) (n : NoticeSource) :
    (s.setSource src n).lineMap = s.lineMap := rfl
@[simp] theorem State.setSource_stations (src : Fin 24) (n : NoticeSource) :
    (s.setSource src n).stations = s.stations := rfl
@[simp] theorem State.setSource_blades (src : Fin 24) (n : NoticeSource) :
    (s.setSource src n).blades = s.blades := rfl
@[simp] theorem State.setSource_water (src : Fin 24) (n : NoticeSource) :
    (s.setSource src n).water = s.water := rfl
@[simp] theorem State.setSource_jobs (src : Fin 24) (n : NoticeSource) :
    (s.setSource src n).jobs = s.jobs := rfl
@[simp] theorem State.setSource_overhead (src : Fin 24) (n : NoticeSource) :
    (s.setSource src n).overhead = s.overhead := rfl
@[simp] theorem State.setSource_settings (src : Fin 24) (n : NoticeSource) :
    (s.setSource src n).settings = s.settings := rfl
@[simp] theorem State.setSource_retention (src : Fin 24) (n : NoticeSource) :
    (s.setSource src n).retention = s.retention := rfl
@[simp] theorem State.setSource_freeUses (src : Fin 24) (n : NoticeSource) :
    (s.setSource src n).freeUses = s.freeUses := rfl
@[simp] theorem State.setSource_pending (src : Fin 24) (n : NoticeSource) :
    (s.setSource src n).pending = s.pending := rfl

/-! `State.setFloors` -/

@[simp] theorem State.setFloors_supply (fs : List Nat) : (s.setFloors fs).supply = s.supply := rfl
@[simp] theorem State.setFloors_port (fs : List Nat) : (s.setFloors fs).port = s.port := rfl
@[simp] theorem State.setFloors_notices (fs : List Nat) :
    (s.setFloors fs).notices = { s.notices with floors := fs } := rfl
@[simp] theorem State.setFloors_stock (fs : List Nat) : (s.setFloors fs).stock = s.stock := rfl
@[simp] theorem State.setFloors_plans (fs : List Nat) : (s.setFloors fs).plans = s.plans := rfl
@[simp] theorem State.setFloors_lines (fs : List Nat) : (s.setFloors fs).lines = s.lines := rfl
@[simp] theorem State.setFloors_lineMap (fs : List Nat) : (s.setFloors fs).lineMap = s.lineMap := rfl
@[simp] theorem State.setFloors_stations (fs : List Nat) : (s.setFloors fs).stations = s.stations := rfl
@[simp] theorem State.setFloors_blades (fs : List Nat) : (s.setFloors fs).blades = s.blades := rfl
@[simp] theorem State.setFloors_water (fs : List Nat) : (s.setFloors fs).water = s.water := rfl
@[simp] theorem State.setFloors_jobs (fs : List Nat) : (s.setFloors fs).jobs = s.jobs := rfl
@[simp] theorem State.setFloors_overhead (fs : List Nat) : (s.setFloors fs).overhead = s.overhead := rfl
@[simp] theorem State.setFloors_settings (fs : List Nat) : (s.setFloors fs).settings = s.settings := rfl
@[simp] theorem State.setFloors_retention (fs : List Nat) : (s.setFloors fs).retention = s.retention := rfl
@[simp] theorem State.setFloors_freeUses (fs : List Nat) : (s.setFloors fs).freeUses = s.freeUses := rfl
@[simp] theorem State.setFloors_pending (fs : List Nat) : (s.setFloors fs).pending = s.pending := rfl

/-! `State.onWater` -/

@[simp] theorem State.onWater_supply (f : Water → Water) : (s.onWater f).supply = s.supply := rfl
@[simp] theorem State.onWater_port (f : Water → Water) : (s.onWater f).port = s.port := rfl
@[simp] theorem State.onWater_notices (f : Water → Water) : (s.onWater f).notices = s.notices := rfl
@[simp] theorem State.onWater_stock (f : Water → Water) : (s.onWater f).stock = s.stock := rfl
@[simp] theorem State.onWater_plans (f : Water → Water) : (s.onWater f).plans = s.plans := rfl
@[simp] theorem State.onWater_lines (f : Water → Water) : (s.onWater f).lines = s.lines := rfl
@[simp] theorem State.onWater_lineMap (f : Water → Water) : (s.onWater f).lineMap = s.lineMap := rfl
@[simp] theorem State.onWater_stations (f : Water → Water) : (s.onWater f).stations = s.stations := rfl
@[simp] theorem State.onWater_blades (f : Water → Water) : (s.onWater f).blades = s.blades := rfl
@[simp] theorem State.onWater_water (f : Water → Water) : (s.onWater f).water = f s.water := rfl
@[simp] theorem State.onWater_jobs (f : Water → Water) : (s.onWater f).jobs = s.jobs := rfl
@[simp] theorem State.onWater_overhead (f : Water → Water) : (s.onWater f).overhead = s.overhead := rfl
@[simp] theorem State.onWater_settings (f : Water → Water) : (s.onWater f).settings = s.settings := rfl
@[simp] theorem State.onWater_retention (f : Water → Water) : (s.onWater f).retention = s.retention := rfl
@[simp] theorem State.onWater_freeUses (f : Water → Water) : (s.onWater f).freeUses = s.freeUses := rfl
@[simp] theorem State.onWater_pending (f : Water → Water) : (s.onWater f).pending = s.pending := rfl

/-! `State.setPress` -/

@[simp] theorem State.setPress_supply (p : Press) : (s.setPress p).supply = s.supply := rfl
@[simp] theorem State.setPress_port (p : Press) : (s.setPress p).port = s.port := rfl
@[simp] theorem State.setPress_notices (p : Press) : (s.setPress p).notices = s.notices := rfl
@[simp] theorem State.setPress_stock (p : Press) : (s.setPress p).stock = s.stock := rfl
@[simp] theorem State.setPress_plans (p : Press) : (s.setPress p).plans = s.plans := rfl
@[simp] theorem State.setPress_lines (p : Press) : (s.setPress p).lines = s.lines := rfl
@[simp] theorem State.setPress_lineMap (p : Press) : (s.setPress p).lineMap = s.lineMap := rfl
@[simp] theorem State.setPress_stations (p : Press) : (s.setPress p).stations = s.stations := rfl
@[simp] theorem State.setPress_blades (p : Press) : (s.setPress p).blades = s.blades := rfl
@[simp] theorem State.setPress_water (p : Press) :
    (s.setPress p).water = { s.water with press := p, pressTimer := if p = .requested then s.water.pressTimer else none } := rfl
@[simp] theorem State.setPress_jobs (p : Press) : (s.setPress p).jobs = s.jobs := rfl
@[simp] theorem State.setPress_overhead (p : Press) : (s.setPress p).overhead = s.overhead := rfl
@[simp] theorem State.setPress_settings (p : Press) : (s.setPress p).settings = s.settings := rfl
@[simp] theorem State.setPress_retention (p : Press) : (s.setPress p).retention = s.retention := rfl
@[simp] theorem State.setPress_freeUses (p : Press) : (s.setPress p).freeUses = s.freeUses := rfl
@[simp] theorem State.setPress_pending (p : Press) : (s.setPress p).pending = s.pending := rfl

/-! `State.setCondition` -/

@[simp] theorem State.setCondition_supply (i : Fin 4) (c : Condition) :
    (s.setCondition i c).supply = s.supply := rfl
@[simp] theorem State.setCondition_port (i : Fin 4) (c : Condition) :
    (s.setCondition i c).port = s.port := rfl
@[simp] theorem State.setCondition_notices (i : Fin 4) (c : Condition) :
    (s.setCondition i c).notices = s.notices := rfl
@[simp] theorem State.setCondition_stock (i : Fin 4) (c : Condition) :
    (s.setCondition i c).stock = s.stock := rfl
@[simp] theorem State.setCondition_plans (i : Fin 4) (c : Condition) :
    (s.setCondition i c).plans = s.plans := rfl
@[simp] theorem State.setCondition_lines (i : Fin 4) (c : Condition) :
    (s.setCondition i c).lines = s.lines := rfl
@[simp] theorem State.setCondition_lineMap (i : Fin 4) (c : Condition) :
    (s.setCondition i c).lineMap = s.lineMap := rfl
@[simp] theorem State.setCondition_stations (i : Fin 4) (c : Condition) :
    (s.setCondition i c).stations = put s.stations i { s.station i with condition := c } := rfl
@[simp] theorem State.setCondition_blades (i : Fin 4) (c : Condition) :
    (s.setCondition i c).blades = s.blades := rfl
@[simp] theorem State.setCondition_water (i : Fin 4) (c : Condition) :
    (s.setCondition i c).water = s.water := rfl
@[simp] theorem State.setCondition_jobs (i : Fin 4) (c : Condition) :
    (s.setCondition i c).jobs = s.jobs := rfl
@[simp] theorem State.setCondition_overhead (i : Fin 4) (c : Condition) :
    (s.setCondition i c).overhead = s.overhead := rfl
@[simp] theorem State.setCondition_settings (i : Fin 4) (c : Condition) :
    (s.setCondition i c).settings = s.settings := rfl
@[simp] theorem State.setCondition_retention (i : Fin 4) (c : Condition) :
    (s.setCondition i c).retention = s.retention := rfl
@[simp] theorem State.setCondition_freeUses (i : Fin 4) (c : Condition) :
    (s.setCondition i c).freeUses = s.freeUses := rfl
@[simp] theorem State.setCondition_pending (i : Fin 4) (c : Condition) :
    (s.setCondition i c).pending = s.pending := rfl

/-! `State.forgetMode` -/

@[simp] theorem State.forgetMode_supply (i : Fin 4) : (s.forgetMode i).supply = s.supply := rfl
@[simp] theorem State.forgetMode_port (i : Fin 4) : (s.forgetMode i).port = s.port := rfl
@[simp] theorem State.forgetMode_notices (i : Fin 4) : (s.forgetMode i).notices = s.notices := rfl
@[simp] theorem State.forgetMode_stock (i : Fin 4) : (s.forgetMode i).stock = s.stock := rfl
@[simp] theorem State.forgetMode_plans (i : Fin 4) : (s.forgetMode i).plans = s.plans := rfl
@[simp] theorem State.forgetMode_lines (i : Fin 4) : (s.forgetMode i).lines = s.lines := rfl
@[simp] theorem State.forgetMode_lineMap (i : Fin 4) : (s.forgetMode i).lineMap = s.lineMap := rfl
@[simp] theorem State.forgetMode_stations (i : Fin 4) :
    (s.forgetMode i).stations = put s.stations i { s.station i with sawMode := none } := rfl
@[simp] theorem State.forgetMode_blades (i : Fin 4) : (s.forgetMode i).blades = s.blades := rfl
@[simp] theorem State.forgetMode_water (i : Fin 4) : (s.forgetMode i).water = s.water := rfl
@[simp] theorem State.forgetMode_jobs (i : Fin 4) : (s.forgetMode i).jobs = s.jobs := rfl
@[simp] theorem State.forgetMode_overhead (i : Fin 4) : (s.forgetMode i).overhead = s.overhead := rfl
@[simp] theorem State.forgetMode_settings (i : Fin 4) : (s.forgetMode i).settings = s.settings := rfl
@[simp] theorem State.forgetMode_retention (i : Fin 4) : (s.forgetMode i).retention = s.retention := rfl
@[simp] theorem State.forgetMode_freeUses (i : Fin 4) : (s.forgetMode i).freeUses = s.freeUses := rfl
@[simp] theorem State.forgetMode_pending (i : Fin 4) : (s.forgetMode i).pending = s.pending := rfl

/-! `State.setAssembler` -/

@[simp] theorem State.setAssembler_supply (l : Fin 5) (a : Assembler) :
    (s.setAssembler l a).supply = s.supply := rfl
@[simp] theorem State.setAssembler_port (l : Fin 5) (a : Assembler) :
    (s.setAssembler l a).port = s.port := rfl
@[simp] theorem State.setAssembler_notices (l : Fin 5) (a : Assembler) :
    (s.setAssembler l a).notices = s.notices := rfl
@[simp] theorem State.setAssembler_stock (l : Fin 5) (a : Assembler) :
    (s.setAssembler l a).stock = s.stock := rfl
@[simp] theorem State.setAssembler_plans (l : Fin 5) (a : Assembler) :
    (s.setAssembler l a).plans = s.plans := rfl
@[simp] theorem State.setAssembler_lines (l : Fin 5) (a : Assembler) :
    (s.setAssembler l a).lines = put s.lines l { s.line l with assembler := a } := rfl
@[simp] theorem State.setAssembler_lineMap (l : Fin 5) (a : Assembler) :
    (s.setAssembler l a).lineMap = s.lineMap := rfl
@[simp] theorem State.setAssembler_stations (l : Fin 5) (a : Assembler) :
    (s.setAssembler l a).stations = s.stations := rfl
@[simp] theorem State.setAssembler_blades (l : Fin 5) (a : Assembler) :
    (s.setAssembler l a).blades = s.blades := rfl
@[simp] theorem State.setAssembler_water (l : Fin 5) (a : Assembler) :
    (s.setAssembler l a).water = s.water := rfl
@[simp] theorem State.setAssembler_jobs (l : Fin 5) (a : Assembler) :
    (s.setAssembler l a).jobs = s.jobs := rfl
@[simp] theorem State.setAssembler_overhead (l : Fin 5) (a : Assembler) :
    (s.setAssembler l a).overhead = s.overhead := rfl
@[simp] theorem State.setAssembler_settings (l : Fin 5) (a : Assembler) :
    (s.setAssembler l a).settings = s.settings := rfl
@[simp] theorem State.setAssembler_retention (l : Fin 5) (a : Assembler) :
    (s.setAssembler l a).retention = s.retention := rfl
@[simp] theorem State.setAssembler_freeUses (l : Fin 5) (a : Assembler) :
    (s.setAssembler l a).freeUses = s.freeUses := rfl
@[simp] theorem State.setAssembler_pending (l : Fin 5) (a : Assembler) :
    (s.setAssembler l a).pending = s.pending := rfl

/-! `State.setOnesSeen` -/

@[simp] theorem State.setOnesSeen_supply (l : Fin 5) (n : Nat) :
    (s.setOnesSeen l n).supply = s.supply := rfl
@[simp] theorem State.setOnesSeen_port (l : Fin 5) (n : Nat) : (s.setOnesSeen l n).port = s.port := rfl
@[simp] theorem State.setOnesSeen_notices (l : Fin 5) (n : Nat) :
    (s.setOnesSeen l n).notices = s.notices := rfl
@[simp] theorem State.setOnesSeen_stock (l : Fin 5) (n : Nat) :
    (s.setOnesSeen l n).stock = s.stock := rfl
@[simp] theorem State.setOnesSeen_plans (l : Fin 5) (n : Nat) :
    (s.setOnesSeen l n).plans = s.plans := rfl
@[simp] theorem State.setOnesSeen_lines (l : Fin 5) (n : Nat) :
    (s.setOnesSeen l n).lines = put s.lines l { s.line l with onesSeen := n } := rfl
@[simp] theorem State.setOnesSeen_lineMap (l : Fin 5) (n : Nat) :
    (s.setOnesSeen l n).lineMap = s.lineMap := rfl
@[simp] theorem State.setOnesSeen_stations (l : Fin 5) (n : Nat) :
    (s.setOnesSeen l n).stations = s.stations := rfl
@[simp] theorem State.setOnesSeen_blades (l : Fin 5) (n : Nat) :
    (s.setOnesSeen l n).blades = s.blades := rfl
@[simp] theorem State.setOnesSeen_water (l : Fin 5) (n : Nat) :
    (s.setOnesSeen l n).water = s.water := rfl
@[simp] theorem State.setOnesSeen_jobs (l : Fin 5) (n : Nat) : (s.setOnesSeen l n).jobs = s.jobs := rfl
@[simp] theorem State.setOnesSeen_overhead (l : Fin 5) (n : Nat) :
    (s.setOnesSeen l n).overhead = s.overhead := rfl
@[simp] theorem State.setOnesSeen_settings (l : Fin 5) (n : Nat) :
    (s.setOnesSeen l n).settings = s.settings := rfl
@[simp] theorem State.setOnesSeen_retention (l : Fin 5) (n : Nat) :
    (s.setOnesSeen l n).retention = s.retention := rfl
@[simp] theorem State.setOnesSeen_freeUses (l : Fin 5) (n : Nat) :
    (s.setOnesSeen l n).freeUses = s.freeUses := rfl
@[simp] theorem State.setOnesSeen_pending (l : Fin 5) (n : Nat) :
    (s.setOnesSeen l n).pending = s.pending := rfl

/-! `State.setReceiver` -/

@[simp] theorem State.setReceiver_supply (l : Fin 5) (r : Receiver) (n : Nat) :
    (s.setReceiver l r n).supply = s.supply := rfl
@[simp] theorem State.setReceiver_port (l : Fin 5) (r : Receiver) (n : Nat) :
    (s.setReceiver l r n).port = s.port := rfl
@[simp] theorem State.setReceiver_notices (l : Fin 5) (r : Receiver) (n : Nat) :
    (s.setReceiver l r n).notices = s.notices := rfl
@[simp] theorem State.setReceiver_stock (l : Fin 5) (r : Receiver) (n : Nat) :
    (s.setReceiver l r n).stock = s.stock := rfl
@[simp] theorem State.setReceiver_plans (l : Fin 5) (r : Receiver) (n : Nat) :
    (s.setReceiver l r n).plans = s.plans := rfl
@[simp] theorem State.setReceiver_lines (l : Fin 5) (r : Receiver) (n : Nat) :
    (s.setReceiver l r n).lines = put s.lines l { s.line l with receiver := r, onesSeen := n } := rfl
@[simp] theorem State.setReceiver_lineMap (l : Fin 5) (r : Receiver) (n : Nat) :
    (s.setReceiver l r n).lineMap = s.lineMap := rfl
@[simp] theorem State.setReceiver_stations (l : Fin 5) (r : Receiver) (n : Nat) :
    (s.setReceiver l r n).stations = s.stations := rfl
@[simp] theorem State.setReceiver_blades (l : Fin 5) (r : Receiver) (n : Nat) :
    (s.setReceiver l r n).blades = s.blades := rfl
@[simp] theorem State.setReceiver_water (l : Fin 5) (r : Receiver) (n : Nat) :
    (s.setReceiver l r n).water = s.water := rfl
@[simp] theorem State.setReceiver_jobs (l : Fin 5) (r : Receiver) (n : Nat) :
    (s.setReceiver l r n).jobs = s.jobs := rfl
@[simp] theorem State.setReceiver_overhead (l : Fin 5) (r : Receiver) (n : Nat) :
    (s.setReceiver l r n).overhead = s.overhead := rfl
@[simp] theorem State.setReceiver_settings (l : Fin 5) (r : Receiver) (n : Nat) :
    (s.setReceiver l r n).settings = s.settings := rfl
@[simp] theorem State.setReceiver_retention (l : Fin 5) (r : Receiver) (n : Nat) :
    (s.setReceiver l r n).retention = s.retention := rfl
@[simp] theorem State.setReceiver_freeUses (l : Fin 5) (r : Receiver) (n : Nat) :
    (s.setReceiver l r n).freeUses = s.freeUses := rfl
@[simp] theorem State.setReceiver_pending (l : Fin 5) (r : Receiver) (n : Nat) :
    (s.setReceiver l r n).pending = s.pending := rfl

/-! `State.stopSettleTimers` -/

@[simp] theorem State.stopSettleTimers_supply : s.stopSettleTimers.supply = s.supply := rfl
@[simp] theorem State.stopSettleTimers_port : s.stopSettleTimers.port = s.port := rfl
@[simp] theorem State.stopSettleTimers_notices : s.stopSettleTimers.notices = s.notices := rfl
@[simp] theorem State.stopSettleTimers_stock : s.stopSettleTimers.stock = s.stock := rfl
@[simp] theorem State.stopSettleTimers_plans : s.stopSettleTimers.plans = s.plans := rfl
@[simp] theorem State.stopSettleTimers_lines : s.stopSettleTimers.lines = s.lines := rfl
@[simp] theorem State.stopSettleTimers_lineMap : s.stopSettleTimers.lineMap = s.lineMap := rfl
@[simp] theorem State.stopSettleTimers_stations : s.stopSettleTimers.stations = s.stations := rfl
@[simp] theorem State.stopSettleTimers_blades : s.stopSettleTimers.blades = s.blades := rfl
@[simp] theorem State.stopSettleTimers_water :
    s.stopSettleTimers.water = { s.water with settle := Vector.replicate 5 .stopped } := rfl
@[simp] theorem State.stopSettleTimers_jobs : s.stopSettleTimers.jobs = s.jobs := rfl
@[simp] theorem State.stopSettleTimers_overhead : s.stopSettleTimers.overhead = s.overhead := rfl
@[simp] theorem State.stopSettleTimers_settings : s.stopSettleTimers.settings = s.settings := rfl
@[simp] theorem State.stopSettleTimers_retention : s.stopSettleTimers.retention = s.retention := rfl
@[simp] theorem State.stopSettleTimers_freeUses : s.stopSettleTimers.freeUses = s.freeUses := rfl
@[simp] theorem State.stopSettleTimers_pending : s.stopSettleTimers.pending = s.pending := rfl

/-! Reading back one entry -/

end Sys2Proof.Machine
end

