-- ==== Sys2Proof/Laws/Tables.lean ====
section
/-! SUPPORT. The shared operations on tables and figures: what each answers, said once. -/

namespace Sys2Proof.Machine

/-! ### Tables -/

@[simp] theorem slot_put_same {α : Type} {n : Nat} (v : Vector α n) (i : Fin n) (x : α) :
    slot (put v i x) i = x := by
  simp [slot, put]

@[simp] theorem slot_put_ne {α : Type} {n : Nat} (v : Vector α n) {i j : Fin n} (x : α) (h : i ≠ j) :
    slot (put v i x) j = slot v j := by
  have hv : i.val ≠ j.val := fun e => h (Fin.ext e)
  simp [slot, put, hv]

theorem slot_put {α : Type} {n : Nat} (v : Vector α n) (i j : Fin n) (x : α) :
    slot (put v i x) j = if i = j then x else slot v j := by
  split
  · next h => subst h; simp
  · next h => simp [h]

/-- Two tables with the same entries are the same table. -/
theorem slot_ext {α : Type} {n : Nat} {v w : Vector α n} (h : ∀ i, slot v i = slot w i) : v = w := by
  apply Vector.ext
  intro i hi
  exact h ⟨i, hi⟩

@[simp] theorem put_slot {α : Type} {n : Nat} (v : Vector α n) (i : Fin n) : put v i (slot v i) = v := by
  apply slot_ext
  intro j
  by_cases h : i = j
  · subst h; simp
  · simp [h]

@[simp] theorem put_put_same {α : Type} {n : Nat} (v : Vector α n) (i : Fin n) (x y : α) :
    put (put v i x) i y = put v i y := by
  apply slot_ext
  intro j
  simp only [slot_put]
  split <;> rfl

@[simp] theorem slot_replicate {α : Type} (n : Nat) (x : α) (i : Fin n) :
    slot (Vector.replicate n x) i = x := by
  simp [slot]

@[simp] theorem slot_ofFn {α : Type} {n : Nat} (f : Fin n → α) (i : Fin n) : slot (Vector.ofFn f) i = f i := by
  simp [slot]

@[simp] theorem slot_map {α β : Type} {n : Nat} (v : Vector α n) (f : α → β) (i : Fin n) :
    slot (v.map f) i = f (slot v i) := by
  simp [slot]

/-- The lowest index found passes the test, and none below it does. -/
theorem lowest_some {α : Type} {n : Nat} {v : Vector α n} {p : α → Bool} {i : Fin n}
    (h : lowest v p = some i) : p (slot v i) = true ∧ ∀ j < i, p (slot v j) = false := by
  unfold lowest at h
  refine ⟨by simpa using List.find?_some h, ?_⟩
  intro j hj
  rw [List.find?_eq_some_iff_getElem] at h
  obtain ⟨_, k, hk, hki, hlt⟩ := h
  simp only [List.getElem_finRange] at hki
  have hik : k = i.val := by rw [← hki]; rfl
  have := hlt j.val (by omega)
  simpa using this

/-- No index is found exactly when no entry passes the test. -/
theorem lowest_none {α : Type} {n : Nat} {v : Vector α n} {p : α → Bool} :
    lowest v p = none ↔ ∀ i, p (slot v i) = false := by
  simp [lowest, List.find?_eq_none]

/-- A number below the bound is the index of that number; any other is none. -/
theorem index?_some {n v : Nat} {i : Fin n} : index? n v = some i ↔ v = i.val := by
  unfold index?
  split
  · simp [Fin.ext_iff]
  · constructor
    · intro h; cases h
    · intro h; omega

@[simp] theorem index?_val {n : Nat} (i : Fin n) : index? n i.val = some i := index?_some.mpr rfl

theorem index?_none {n v : Nat} : index? n v = none ↔ n ≤ v := by
  unfold index?; split <;> simp <;> omega

/-! ### Figures -/

theorem clamp_range {lo hi : Nat} (v : Nat) (h : lo ≤ hi) : lo ≤ clamp lo hi v ∧ clamp lo hi v ≤ hi := by
  unfold clamp; omega

theorem clamp_of_range {lo hi v : Nat} (h : lo ≤ v) (h' : v ≤ hi) : clamp lo hi v = v := by
  unfold clamp; omega

theorem satAdd_le (limit a b : Nat) : satAdd limit a b ≤ limit := by unfold satAdd; omega

theorem satAdd_of_le {limit a b : Nat} (h : a + b ≤ limit) : satAdd limit a b = a + b := by
  unfold satAdd; omega

/-! ### The write-back queue -/

@[simp] theorem mem_queueWith {q : List (Fin 648)} {p r : Fin 648} : r ∈ queueWith q p ↔ r ∈ q ∨ r = p := by
  unfold queueWith
  split
  · next h => constructor
              · exact Or.inl
              · rintro (h' | rfl)
                · exact h'
                · exact h
  · simp

/-- A page joining the queue leaves it without repeats (R155). -/
theorem queueWith_nodup {q : List (Fin 648)} (h : q.Nodup) (p : Fin 648) : (queueWith q p).Nodup := by
  unfold queueWith
  split
  · exact h
  · next hp =>
    rw [List.nodup_append]
    exact ⟨h, by simp, fun a ha b hb => by simp at hb; subst hb; exact fun e => hp (e ▸ ha)⟩

/-- What is already queued stays where it stands (R155). -/
theorem queueWith_of_mem {q : List (Fin 648)} {p : Fin 648} (h : p ∈ q) : queueWith q p = q := by
  simp [queueWith, h]

theorem queueWith_of_not_mem {q : List (Fin 648)} {p : Fin 648} (h : p ∉ q) : queueWith q p = q ++ [p] := by
  simp [queueWith, h]

theorem State.enqueue_queueLaw {s : State} (h : s.queueLaw) (p : Fin 648) : (s.enqueue p).queueLaw :=
  queueWith_nodup h p

end Sys2Proof.Machine
end

