-- ==== Sys2Proof/Laws/Kept.lean ====
section
/-! SUPPORT. What the operations of the blocks leave alone: the supply, the port, the Line Map, the settings, the
pages and the write unit, the floor stack, the enables and levels of the notice sources and the waiting commands
stay as they were; the write-back queue stays without repeats and the repeat counts stay in range. One lemma an
operation, so that no later proof unfolds one to see it. -/

namespace Sys2Proof.Machine

structure Kept (s t : State) : Prop where
  supply : t.supply = s.supply
  port : t.port = s.port
  lineMap : t.lineMap = s.lineMap
  settings : t.settings = s.settings
  freeUses : t.freeUses = s.freeUses
  pending : t.pending = s.pending
  floors : t.notices.floors = s.notices.floors
  pages : t.retention.pages = s.retention.pages
  unsaved : t.retention.unsaved = s.retention.unsaved
  write : t.retention.write = s.retention.write
  enabled : ∀ src, (slot t.notices.sources src).enabled = (slot s.notices.sources src).enabled
  level : ∀ src, (slot t.notices.sources src).level = (slot s.notices.sources src).level
  queue : s.queueLaw → t.queueLaw
  notice : s.noticeLaw → t.noticeLaw

variable {s t u : State}

theorem Kept.refl (s : State) : Kept s s :=
  ⟨rfl, rfl, rfl, rfl, rfl, rfl, rfl, rfl, rfl, rfl, fun _ => rfl, fun _ => rfl, id, id⟩

theorem Kept.trans (h : Kept s t) (g : Kept t u) : Kept s u where
  supply := g.supply.trans h.supply
  port := g.port.trans h.port
  lineMap := g.lineMap.trans h.lineMap
  settings := g.settings.trans h.settings
  freeUses := g.freeUses.trans h.freeUses
  pending := g.pending.trans h.pending
  floors := g.floors.trans h.floors
  pages := g.pages.trans h.pages
  unsaved := g.unsaved.trans h.unsaved
  write := g.write.trans h.write
  enabled := fun src => (g.enabled src).trans (h.enabled src)
  level := fun src => (g.level src).trans (h.level src)
  queue := fun q => g.queue (h.queue q)
  notice := fun q => g.notice (h.notice q)

/-- A state that differs in none of the fields `Kept` speaks of. -/
theorem Kept.of_fields (h1 : t.supply = s.supply) (h2 : t.port = s.port) (h3 : t.lineMap = s.lineMap)
    (h4 : t.settings = s.settings) (h5 : t.freeUses = s.freeUses) (h6 : t.pending = s.pending)
    (h7 : t.notices = s.notices) (h8 : t.retention = s.retention) : Kept s t where
  supply := h1
  port := h2
  lineMap := h3
  settings := h4
  freeUses := h5
  pending := h6
  floors := by rw [h7]
  pages := by rw [h8]
  unsaved := by rw [h8]
  write := by rw [h8]
  enabled := fun src => by rw [h7]
  level := fun src => by rw [h7]
  queue := fun q => by unfold State.queueLaw at q ⊢; rw [h8]; exact q
  notice := fun q => by unfold State.noticeLaw at q ⊢; rw [h7]; exact q

theorem Kept.foldl {α : Type} {f : State → α → State} (h : ∀ s a, Kept s (f s a)) (xs : List α) (s : State) :
    Kept s (xs.foldl f s) := by
  induction xs generalizing s with
  | nil => exact .refl s
  | cons a as ih => exact (h s a).trans (ih (f s a))

theorem Kept.ite {c : Prop} [Decidable c] (h : Kept s t) (g : Kept s u) : Kept s (if c then t else u) := by
  split
  · exact h
  · exact g

/-! ### Updates -/

theorem kept_setStation (s : State) (i : Fin 4) (x : Station) : Kept s (s.setStation i x) :=
  .of_fields rfl rfl rfl rfl rfl rfl rfl rfl
theorem kept_setPlan (s : State) (k : Fin 12) (p : Option Plan) : Kept s (s.setPlan k p) :=
  .of_fields rfl rfl rfl rfl rfl rfl rfl rfl
theorem kept_updatePlan (s : State) (k : Fin 12) (f : Plan → Plan) : Kept s (s.updatePlan k f) :=
  kept_setPlan ..
theorem kept_setLine (s : State) (l : Fin 5) (x : Line) : Kept s (s.setLine l x) :=
  .of_fields rfl rfl rfl rfl rfl rfl rfl rfl
theorem kept_setBlade (s : State) (i : Fin 4) (b : Option Blade) : Kept s (s.setBlade i b) :=
  .of_fields rfl rfl rfl rfl rfl rfl rfl rfl
theorem kept_setSlab (s : State) (n : Fin 512) (r : Option Slab) : Kept s (s.setSlab n r) :=
  .of_fields rfl rfl rfl rfl rfl rfl rfl rfl
theorem kept_setRack (s : State) (p : Fin 120) (x : Option Nat) : Kept s (s.setRack p x) :=
  .of_fields rfl rfl rfl rfl rfl rfl rfl rfl
theorem kept_setReserved (s : State) (r : Nat) : Kept s (s.setReserved r) :=
  .of_fields rfl rfl rfl rfl rfl rfl rfl rfl
theorem kept_setJob (s : State) (n : Fin 96) (j : Option Job) : Kept s (s.setJob n j) :=
  .of_fields rfl rfl rfl rfl rfl rfl rfl rfl
theorem kept_setKept (s : State) (k : WaterRetained) : Kept s (s.setKept k) :=
  .of_fields rfl rfl rfl rfl rfl rfl rfl rfl
theorem kept_onWater (s : State) (f : Water → Water) : Kept s (s.onWater f) :=
  .of_fields rfl rfl rfl rfl rfl rfl rfl rfl
theorem kept_overhead (s : State) (o : Overhead) : Kept s { s with overhead := o } :=
  .of_fields rfl rfl rfl rfl rfl rfl rfl rfl
theorem kept_stock (s : State) (x : Stock) : Kept s { s with stock := x } :=
  .of_fields rfl rfl rfl rfl rfl rfl rfl rfl

theorem kept_enqueue (s : State) (p : Fin 648) : Kept s (s.enqueue p) where
  supply := rfl
  port := rfl
  lineMap := rfl
  settings := rfl
  freeUses := rfl
  pending := rfl
  floors := rfl
  pages := rfl
  unsaved := rfl
  write := rfl
  enabled := fun _ => rfl
  level := fun _ => rfl
  queue := fun h => State.enqueue_queueLaw h p
  notice := id

/-- A raise leaves enable and level (R182). -/
theorem raised_enabled_level (n : NoticeSource) (d : Detail) :
    (n.raised d).enabled = n.enabled ∧ (n.raised d).level = n.level := ⟨rfl, rfl⟩

/-- A raise leaves a count in 1 to 255 (R182). -/
theorem raised_count {n : NoticeSource} {d : Detail} {p : PendingNotice}
    (_hn : ∀ q, n.pending = some q → 1 ≤ q.count ∧ q.count ≤ 255) (h : (n.raised d).pending = some p) :
    1 ≤ p.count ∧ p.count ≤ 255 := by
  unfold NoticeSource.raised at h
  simp only [Option.some.injEq] at h
  subst h
  cases hp : n.pending with
  | none => simp
  | some q => simp [satAdd]

theorem kept_raise (s : State) (src : Fin 24) (d : Detail) : Kept s (s.raise src d) where
  supply := rfl
  port := rfl
  lineMap := rfl
  settings := rfl
  freeUses := rfl
  pending := rfl
  floors := rfl
  pages := rfl
  unsaved := rfl
  write := rfl
  enabled := fun x => by
    simp only [State.raise_notices, slot_put]; split <;> simp_all [NoticeSource.raised]
  level := fun x => by
    simp only [State.raise_notices, slot_put]; split <;> simp_all [NoticeSource.raised]
  queue := id
  notice := fun h x => by
    simp only [State.raise_notices, slot_put]
    split
    · next e =>
      subst e
      exact ⟨(h src).1, (h src).2.1, fun p hp => raised_count (h src).2.2 hp⟩
    · exact h x

/-! ### Stock, jobs, overhead -/

theorem kept_rackAt (s : State) (p : Option (Fin 120)) (x : Option Nat) : Kept s (s.rackAt p x) := by
  cases p
  · exact .refl s
  · exact kept_setRack ..

theorem kept_rewriteSlab (s : State) (n : Fin 512) (r : Slab) : Kept s (s.rewriteSlab n r) :=
  (kept_setSlab ..).trans (kept_enqueue ..)

theorem kept_retireSlab (s : State) (n : Fin 512) (r : Slab) : Kept s (s.retireSlab n r) :=
  ((kept_rackAt ..).trans (kept_setSlab ..)).trans (kept_enqueue ..)

theorem kept_bookOverhead (s : State) (f : Overhead → Overhead) : Kept s (s.bookOverhead f) :=
  .ite (.refl s) ((kept_overhead ..).trans (kept_enqueue ..))

theorem kept_updateJobLine (s : State) (n : Nat) (k : Fin 8) (f : JobLine → JobLine) :
    Kept s (s.updateJobLine n k f) := by
  unfold State.updateJobLine
  split
  · exact .refl s
  · split
    · exact .refl s
    · exact (kept_setJob ..).trans (kept_enqueue ..)

theorem kept_bookPart (s : State) (n : Nat) (k : Fin 8) (a b : Nat) (m : Bool) :
    Kept s (s.bookPart n k a b m) := by
  unfold State.bookPart
  split
  · exact .refl s
  · split
    · exact .refl s
    · exact (kept_setJob ..).trans (kept_enqueue ..)

theorem kept_firstOrder (s : State) (tag : Nat) : Kept s (s.firstOrder tag) := by
  unfold State.firstOrder
  split
  · exact .refl s
  · exact .ite ((kept_rackAt ..).trans (kept_rewriteSlab ..)) (.refl s)

theorem kept_releaseSlab (s : State) (tag : Nat) : Kept s (s.releaseSlab tag) := by
  unfold State.releaseSlab
  split
  · exact .refl s
  · exact kept_rewriteSlab ..

theorem kept_retireTag (s : State) (tag : Nat) : Kept s (s.retireTag tag) := by
  unfold State.retireTag
  split
  · exact .refl s
  · exact kept_retireSlab ..

theorem kept_createRemnant (s : State) (p : Slab) (r : Rect) (b : Nat) : Kept s (s.createRemnant p r b) := by
  unfold State.createRemnant
  split
  · exact .refl s
  · exact (((kept_setReserved ..).trans (kept_rewriteSlab ..)).trans (kept_stock ..)).trans (kept_enqueue ..)

theorem kept_releaseDesignation (s : State) (d : Option Designation) : Kept s (s.releaseDesignation d) := by
  unfold State.releaseDesignation
  split
  · exact kept_updateJobLine ..
  · exact .refl s

theorem kept_releaseParts (s : State) (p : Plan) : Kept s (s.releaseParts p) :=
  .foldl (fun _ _ => kept_releaseDesignation ..) _ _

theorem kept_bookPool (s : State) (p : Plan) : Kept s (s.bookPool p) := kept_bookOverhead ..

theorem kept_bookClose (s : State) (p : Plan) (net : Nat) : Kept s (s.bookClose p net) :=
  .ite ((kept_bookOverhead ..).trans (kept_bookPool ..)) (.foldl (fun _ _ => kept_bookPart ..) _ _)

theorem kept_closeRecords (s : State) (k : Fin 12) (p : Plan) : Kept s (s.closeRecords k p) := by
  unfold State.closeRecords
  split
  · exact kept_setPlan ..
  · exact (((kept_bookClose ..).trans (.foldl (fun _ _ => kept_createRemnant ..) _ _)).trans
      (kept_retireTag ..)).trans (kept_setPlan ..)

/-! ### Lines and valves -/

theorem kept_handFrame (s : State) (l : Fin 5) (f : TxFrame) : Kept s (s.handFrame l f) :=
  .ite (kept_setLine ..) (.refl s)

theorem kept_handSaw (s : State) (i : Fin 4) (m : TxMessage) : Kept s (s.handSaw i m) := kept_handFrame ..

theorem kept_handPlant (s : State) (m : TxMessage) : Kept s (s.handPlant m) := kept_handFrame ..

theorem kept_handHold (s : State) (i : Fin 4) : Kept s (s.handHold i) :=
  .ite ((kept_handSaw ..).trans (kept_setStation ..)) (kept_handSaw ..)

theorem kept_withdrawFrames (s : State) (i : Fin 4) : Kept s (s.withdrawFrames i) := kept_setLine ..

theorem kept_enableLine (s : State) (l : Fin 5) : Kept s (s.enableLine l) := kept_setLine ..

theorem kept_disableLine (s : State) (l : Fin 5) : Kept s (s.disableLine l) := kept_setLine ..

theorem kept_settleTest (s : State) (v : Fin 5) : Kept s (s.settleTest v) := by
  unfold State.settleTest
  split
  · exact kept_onWater ..
  · exact .refl s

theorem kept_commandValve (s : State) (v : Fin 5) (b : Bool) : Kept s (s.commandValve v b) :=
  .ite (.refl s) (((kept_onWater ..).trans (kept_handPlant ..)).trans (kept_settleTest ..))

/-! ### Stations -/

theorem kept_enterState (s : State) (i : Fin 4) (x : StationState) : Kept s (s.enterState i x) :=
  .ite (kept_setStation ..) ((kept_setStation ..).trans (kept_commandValve ..))

theorem kept_setCondition (s : State) (i : Fin 4) (c : Condition) : Kept s (s.setCondition i c) :=
  kept_setStation ..

theorem kept_forgetMode (s : State) (i : Fin 4) : Kept s (s.forgetMode i) := kept_setStation ..

theorem kept_raiseHalt (s : State) (i : Fin 4) (c : Condition) : Kept s (s.raiseHalt i c) := kept_raise ..

theorem kept_raiseStop (s : State) (i : Fin 4) : Kept s (s.raiseStop i) := by
  unfold State.raiseStop
  dsimp only
  split
  · exact kept_raise ..
  · exact .refl s
  · exact kept_raiseHalt ..

theorem kept_faultStation (s : State) (i : Fin 4) (c : Condition) : Kept s (s.faultStation i c) :=
  ((kept_setStation ..).trans (kept_enterState ..)).trans (kept_raiseStop ..)

theorem kept_linkFault (s : State) (i : Fin 4) (c : Condition) : Kept s (s.linkFault i c) :=
  ((kept_forgetMode ..).trans (kept_faultStation ..)).trans (kept_handSaw ..)

theorem kept_dispatch (s : State) (i : Fin 4) : Kept s (s.dispatch i) := by
  unfold State.dispatch
  split
  · exact .refl s
  · split
    · exact .refl s
    · exact (((kept_setStation ..).trans (kept_handSaw ..)).trans (kept_setStation ..)).trans
        (kept_firstOrder ..)

theorem kept_dispatchAndCut (s : State) (i : Fin 4) : Kept s (s.dispatchAndCut i) :=
  ((kept_dispatch ..).trans (kept_setCondition ..)).trans (kept_enterState ..)

theorem kept_tryStaged (s : State) (i : Fin 4) : Kept s (s.tryStaged i) :=
  .ite (kept_dispatchAndCut ..) (.refl s)

theorem kept_unbind (s : State) (i : Fin 4) : Kept s (s.unbind i) :=
  ((kept_setStation ..).trans (kept_withdrawFrames ..)).trans (kept_enterState ..)

theorem kept_closePlan (s : State) (i : Fin 4) (k : Fin 12) : Kept s (s.closePlan i k) := by
  unfold State.closePlan
  split
  · exact .refl s
  · exact ((kept_closeRecords ..).trans (kept_unbind ..)).trans (kept_raise ..)

theorem kept_markCutDone (s : State) (i : Fin 4) (k : Fin 12) (a u : Nat) : Kept s (s.markCutDone i k a u) :=
  (kept_updatePlan ..).trans (kept_setStation ..)

theorem kept_holdStation (s : State) (i : Fin 4) (c : Condition) : Kept s (s.holdStation i c) := by
  unfold State.holdStation
  split
  · exact ((kept_handHold ..).trans (kept_setStation ..)).trans (kept_enterState ..)
  · exact .ite (kept_setCondition ..) (.refl s)
  · exact .refl s

theorem kept_resumeStation (s : State) (i : Fin 4) : Kept s (s.resumeStation i) := by
  unfold State.resumeStation
  split
  · exact .refl s
  · exact .ite (((kept_setCondition ..).trans (kept_enterState ..)).trans (kept_tryStaged ..))
      (.ite (.ite ((kept_markCutDone ..).trans (kept_closePlan ..))
        ((kept_markCutDone ..).trans (kept_dispatchAndCut ..))) (kept_dispatchAndCut ..))

theorem kept_tryWaterHeld (s : State) (i : Fin 4) : Kept s (s.tryWaterHeld i) :=
  .ite (.ite (kept_resumeStation ..) ((kept_setCondition ..).trans (kept_raiseStop ..))) (.refl s)

theorem kept_updateFeed (s : State) (i : Fin 4) : Kept s (s.updateFeed i) := by
  unfold State.updateFeed
  split
  · exact .refl s
  · exact .ite ((kept_handSaw ..).trans (kept_setStation ..)) (.refl s)

theorem kept_reportFactor (s : State) (b : Bool) (i : Fin 4) : Kept s (s.reportFactor b i) := by
  unfold State.reportFactor
  split
  · exact .ite (.ite (kept_holdStation ..) (kept_updateFeed ..)) (.refl s)
  · exact kept_tryStaged ..
  · exact .ite (kept_tryWaterHeld ..) (.refl s)
  · exact .refl s

theorem kept_pauseHeld (s : State) (i : Fin 4) : Kept s (s.pauseHeld i) :=
  .ite ((((kept_setStation ..).trans (kept_enterState ..)).trans (kept_raiseStop ..)).trans
    (kept_tryWaterHeld ..)) (((kept_setStation ..).trans (kept_enterState ..)).trans (kept_raiseStop ..))

/-! ### Water -/

theorem kept_reportToStations (s : State) (b : Bool) : Kept s (s.reportToStations b) :=
  .foldl (fun _ _ => kept_reportFactor ..) _ _

theorem kept_raiseWater (s : State) (c : Crossing) : Kept s (s.raiseWater c) := kept_raise ..

theorem kept_recomputeFrom (s : State) (old : Nat) (b : Bool) : Kept s (s.recomputeFrom old b) := by
  have h1 : Kept s (s.onWater Water.withFactors) := kept_onWater ..
  unfold State.recomputeFrom
  refine .ite (.trans ?_ (kept_raiseWater ..)) ?_
  all_goals refine .ite (.trans ?_ (kept_raiseWater ..)) ?_
  all_goals exact .ite (h1.trans (kept_reportToStations ..)) h1

theorem kept_recompute (s : State) : Kept s s.recompute := kept_recomputeFrom ..

theorem kept_decideMakeUp (s : State) : Kept s s.decideMakeUp := kept_commandValve ..

theorem kept_testAllowance (s : State) : Kept s s.testAllowance :=
  .ite ((kept_onWater ..).trans (kept_raise ..)) (.refl s)

theorem kept_requestPress (s : State) : Kept s s.requestPress := (kept_onWater ..).trans (kept_handPlant ..)

theorem kept_autoPress (s : State) : Kept s s.autoPress := .ite (kept_requestPress ..) (.refl s)

theorem kept_addSolids (s : State) (a b c d : Nat) : Kept s (s.addSolids a b c d) :=
  (((kept_setKept ..).trans (kept_enqueue ..)).trans (kept_autoPress ..)).trans (kept_recompute ..)

theorem kept_raisePlant (s : State) (e : PlantEvent) (c : Option StaleCause) : Kept s (s.raisePlant e c) :=
  kept_raise ..

theorem kept_stopSettleTimers (s : State) : Kept s s.stopSettleTimers := kept_onWater ..

theorem kept_enterStale (s : State) (c : StaleCause) : Kept s (s.enterStale c) :=
  ((((kept_onWater ..).trans (kept_decideMakeUp ..)).trans (kept_stopSettleTimers ..)).trans
    (kept_recompute ..)).trans (kept_raisePlant ..)

/-! ### Reports -/

theorem kept_stopAcceptWait (s : State) (i : Fin 4) : Kept s (s.stopAcceptWait i) :=
  .ite (kept_setStation ..) (.refl s)

theorem kept_superviseAgain (s : State) (i : Fin 4) : Kept s (s.superviseAgain i) := by
  unfold State.superviseAgain
  dsimp only
  split
  · exact kept_setStation ..
  · exact kept_setStation ..
  · exact .refl s

theorem kept_countProgress (s : State) (i : Fin 4) (k : Fin 12) (a b : Nat) :
    Kept s (s.countProgress i k a b) :=
  .ite (.refl s) (.ite ((kept_setStation ..).trans (kept_raise ..)) (kept_setStation ..))

theorem kept_passWear (s : State) (i : Fin 4) (a b c : Nat) : Kept s (s.passWear i a b c).1 := by
  unfold State.passWear
  split
  · exact .refl s
  · exact .trans (.ite ((kept_setBlade ..).trans (kept_raise ..)) (kept_setBlade ..)) (kept_enqueue ..)

theorem kept_takeAccept {i : Fin 4} {cut : Nat} (h : s.takeAccept i cut = some t) : Kept s t := by
  unfold State.takeAccept at h
  rw [Option.map_eq_some_iff] at h
  obtain ⟨_, _, rfl⟩ := h
  exact kept_stopAcceptWait ..

theorem kept_takePass {i : Fin 4} {cut pi sec : Nat} (h : s.takePass i cut pi sec = some t) : Kept s t := by
  unfold State.takePass at h
  split at h
  · cases h
  · split at h
    · cases h
      exact ((((((kept_stopAcceptWait ..).trans (kept_updatePlan ..)).trans (kept_setStation ..)).trans
        (kept_passWear ..)).trans (kept_addSolids ..)).trans (kept_updatePlan ..)).trans
        (kept_countProgress ..)
    · cases h

theorem kept_bookUnreported (s : State) (i : Fin 4) (k : Fin 12) (p : Plan) (a d : Nat) :
    Kept s (s.bookUnreported i k p a d) :=
  ((kept_passWear ..).trans (kept_updatePlan ..)).trans (kept_addSolids ..)

theorem kept_pauseWorn (s : State) (i : Fin 4) : Kept s (s.pauseWorn i) :=
  ((kept_setStation ..).trans (kept_enterState ..)).trans (kept_raiseStop ..)

theorem kept_afterFinish (s : State) (i : Fin 4) (k : Fin 12) : Kept s (s.afterFinish i k) :=
  .ite (kept_closePlan ..) (.ite (.ite (kept_dispatch ..) (kept_pauseWorn ..)) (.refl s))

theorem kept_takeFinish {i : Fin 4} {cut : Nat} (h : s.takeFinish i cut = some t) : Kept s t := by
  unfold State.takeFinish at h
  split at h
  · cases h
  · cases h
    exact ((((kept_stopAcceptWait ..).trans (kept_updatePlan ..)).trans
      (.foldl (fun _ _ => kept_bookUnreported ..) _ _)).trans (kept_setStation ..)).trans
      (kept_afterFinish ..)

theorem kept_takeFault (s : State) (i : Fin 4) (a b : Nat) : Kept s (s.takeFault i a b) :=
  (kept_setStation ..).trans (kept_faultStation ..)

theorem kept_becomeReady (s : State) (i : Fin 4) : Kept s (s.becomeReady i) :=
  (kept_setStation ..).trans (kept_enterState ..)

theorem kept_restartHoldWait (s : State) (i : Fin 4) : Kept s (s.restartHoldWait i) :=
  .ite (kept_setStation ..) (.refl s)

theorem kept_actOnMode (s : State) (i : Fin 4) (m : SawMode) (e : Bool) : Kept s (s.actOnMode i m e) := by
  unfold State.actOnMode
  dsimp only
  split
  · exact .ite (.ite (.refl s) ((kept_setCondition ..).trans (kept_raiseStop ..))) (kept_faultStation ..)
  · exact .ite (kept_restartHoldWait ..) (.refl s)
  all_goals
    split
    · exact kept_becomeReady ..
    · exact .ite (kept_tryStaged ..) (.refl s)
    · exact kept_pauseHeld ..
    · exact .ite (kept_becomeReady ..) (.refl s)
    · exact .refl s

theorem kept_takeState (s : State) (i : Fin 4) (m : SawMode) (b : Bool) (n : Nat) :
    Kept s (s.takeState i m b n) :=
  (kept_setStation ..).trans (kept_actOnMode ..)

theorem kept_sawReport {i : Fin 4} {m : Message} (h : s.sawReport i m = some t) : Kept s t := by
  unfold State.sawReport at h
  split at h
  · cases h
  · split at h
    · exact kept_takeAccept h
    · exact kept_takePass h
    · exact kept_takeFinish h
    · rw [Option.map_eq_some_iff] at h
      obtain ⟨_, _, rfl⟩ := h
      exact kept_takeState ..
    · cases h; exact kept_takeFault ..
    · cases h
    · cases h

theorem kept_bookFresh (s : State) (n : Nat) : Kept s (s.bookFresh n) :=
  .ite (((kept_setKept ..).trans (kept_bookOverhead ..)).trans (kept_onWater ..))
    (((((kept_setKept ..).trans (kept_bookOverhead ..)).trans (kept_onWater ..)).trans
      (kept_enqueue ..)).trans (kept_testAllowance ..))

theorem kept_bookDraw (s : State) (d : Vector Nat 4) (i : Fin 4) : Kept s (s.bookDraw d i) := by
  unfold State.bookDraw
  split
  · exact kept_updatePlan ..
  · exact kept_bookOverhead ..

theorem kept_meterAndDraw (s : State) (r : LevelsReport) : Kept s (s.meterAndDraw r) :=
  .ite (kept_onWater ..) ((kept_bookFresh ..).trans (.foldl (fun _ _ => kept_bookDraw ..) _ _))

theorem kept_enterLive (s : State) (b : Byte) : Kept s (s.enterLive b) :=
  .ite ((kept_onWater ..).trans (kept_raisePlant ..)) (kept_onWater ..)

theorem kept_testValves (s : State) : Kept s s.testValves := .foldl (fun _ _ => kept_settleTest ..) _ _

theorem kept_takeLevels (s : State) (r : LevelsReport) : Kept s (s.takeLevels r) :=
  (((((kept_onWater ..).trans (kept_meterAndDraw ..)).trans (kept_enterLive ..)).trans
    (kept_decideMakeUp ..)).trans (kept_testValves ..)).trans (kept_recompute ..)

theorem kept_setPress (s : State) (p : Press) : Kept s (s.setPress p) := kept_onWater ..

theorem kept_raisePress (s : State) (e : PressEvent) (c : Option Nat) : Kept s (s.raisePress e c) :=
  kept_raise ..

theorem kept_lowerSolids (s : State) (n : Nat) : Kept s (s.lowerSolids n) :=
  ((kept_setKept ..).trans (kept_enqueue ..)).trans (kept_recompute ..)

theorem kept_takePressState (s : State) (a b : Nat) : Kept s (s.takePressState a b) := by
  unfold State.takePressState
  split
  · exact (kept_setPress ..).trans (kept_raisePress ..)
  · exact .refl s
  · exact kept_setPress ..
  · exact kept_setPress ..
  · exact .refl s
  · exact (kept_lowerSolids ..).trans (kept_raisePress ..)
  · exact ((kept_setPress ..).trans (kept_lowerSolids ..)).trans (kept_raisePress ..)
  · exact .refl s
  · exact (kept_setPress ..).trans (kept_raisePress ..)

theorem kept_plantReport (s : State) (m : Message) : Kept s (s.plantReport m) := by
  unfold State.plantReport
  split
  · exact .refl s
  · exact kept_takeLevels ..
  · exact kept_takePressState ..
  · exact .refl s

theorem kept_stationNoise (s : State) (i : Fin 4) : Kept s (s.stationNoise i) := by
  unfold State.stationNoise
  split
  · exact .refl s
  · exact kept_linkFault ..
  · exact kept_linkFault ..
  · exact kept_raiseHalt ..

theorem kept_tellNoise (s : State) (l : Fin 5) : Kept s (s.tellNoise l) := by
  unfold State.tellNoise
  split
  · exact kept_stationNoise ..
  · exact .ite (.refl s) (kept_raisePlant ..)

theorem kept_tellBreak (s : State) (l : Fin 5) : Kept s (s.tellBreak l) := by
  unfold State.tellBreak
  split
  · exact .ite (.refl s) ((kept_forgetMode ..).trans (kept_faultStation ..))
  · split
    · exact .refl s
    · exact kept_enterStale ..
    · exact kept_raisePlant ..
    · exact kept_raisePlant ..

theorem kept_tellBreakEnd (s : State) (l : Fin 5) : Kept s (s.tellBreakEnd l) := by
  unfold State.tellBreakEnd
  split
  · exact kept_handSaw ..
  · exact kept_handPlant ..

theorem kept_badFrame (s : State) (l : Fin 5) : Kept s (s.badFrame l) :=
  .ite ((kept_setLine ..).trans (kept_tellNoise ..)) (kept_setLine ..)

theorem kept_takenFrame (s : State) (l : Fin 5) (n : Bool) : Kept s (s.takenFrame l n) := kept_setLine ..

theorem kept_staleFrame (s : State) (l : Fin 5) : Kept s (s.staleFrame l) := kept_setLine ..

theorem kept_receive (s : State) (l : Fin 5) (n b : Bool) (m : Message) : Kept s (s.receive l n b m) := by
  unfold State.receive
  refine .ite (.refl s) ?_
  split
  · refine .ite (kept_badFrame ..) (.ite (kept_staleFrame ..) ?_)
    split
    · exact kept_badFrame ..
    · next h => exact ((kept_sawReport h).trans (kept_superviseAgain ..)).trans (kept_takenFrame ..)
  · exact .ite (kept_badFrame ..) ((kept_plantReport ..).trans (kept_takenFrame ..))

/-! ### Characters, breaks and samples of a line -/

theorem kept_setAssembler (s : State) (l : Fin 5) (a : Assembler) : Kept s (s.setAssembler l a) := kept_setLine ..

theorem kept_judge (s : State) (l : Fin 5) (bs : List Byte) (b : Bool) : Kept s (s.judge l bs b) := by
  unfold State.judge
  split
  · exact kept_badFrame ..
  · exact kept_receive ..

theorem kept_discardFrame (s : State) (l : Fin 5) : Kept s (s.discardFrame l) :=
  (kept_setAssembler ..).trans (kept_badFrame ..)

theorem kept_extendFrame (s : State) (l : Fin 5) (bs : List Byte) (b : Bool) : Kept s (s.extendFrame l bs b) :=
  .ite (kept_discardFrame ..) (.ite ((kept_setAssembler ..).trans (kept_judge ..)) (kept_setAssembler ..))

theorem kept_assemble (s : State) (l : Fin 5) (x : Byte) (f b : Bool) : Kept s (s.assemble l x f b) := by
  unfold State.assemble
  split
  · exact .refl s
  · exact .ite (kept_discardFrame ..) (kept_setAssembler ..)
  · exact .ite (kept_discardFrame ..) (kept_extendFrame ..)
  · exact kept_discardFrame ..
  · exact .refl s

theorem kept_assemblerGap (s : State) (l : Fin 5) : Kept s (s.assemblerGap l) := by
  unfold State.assemblerGap
  split
  · exact kept_setAssembler ..
  · exact kept_setAssembler ..
  · exact kept_setAssembler ..
  · exact .refl s
  · exact (kept_setAssembler ..).trans (kept_badFrame ..)

theorem kept_beginBreak (s : State) (l : Fin 5) : Kept s (s.beginBreak l) :=
  (kept_setLine ..).trans (kept_tellBreak ..)

theorem kept_ordinaryCharacter (s : State) (l : Fin 5) (x : Byte) (f b : Bool) :
    Kept s (s.ordinaryCharacter l x f b) :=
  .ite (kept_setLine ..) ((kept_setLine ..).trans (kept_assemble ..))

theorem kept_breakCharacter (s : State) (l : Fin 5) (b : Bool) : Kept s (s.breakCharacter l b) :=
  .ite (kept_setLine ..) (.ite ((kept_setLine ..).trans (kept_beginBreak ..))
    ((kept_setLine ..).trans (kept_assemble ..)))

theorem kept_setOnesSeen (s : State) (l : Fin 5) (n : Nat) : Kept s (s.setOnesSeen l n) := kept_setLine ..

theorem kept_zeroRun (s : State) (l : Fin 5) : Kept s (s.zeroRun l) :=
  (kept_setOnesSeen ..).trans (kept_breakCharacter ..)

theorem kept_decideCharacter (s : State) (l : Fin 5) (c : CharSamples) : Kept s (s.decideCharacter l c) := by
  unfold State.decideCharacter
  split
  · exact .ite ((kept_setOnesSeen ..).trans (kept_breakCharacter ..))
      ((kept_setOnesSeen ..).trans (kept_ordinaryCharacter ..))
  · exact .refl s
  · exact .refl s

theorem kept_idleRun (s : State) (l : Fin 5) : Kept s (s.idleRun l) :=
  .ite ((kept_setLine ..).trans (kept_tellBreakEnd ..)) (kept_setLine ..)

theorem kept_setReceiver (s : State) (l : Fin 5) (r : Receiver) (n : Nat) : Kept s (s.setReceiver l r n) :=
  kept_setLine ..

theorem kept_judgeStart (s : State) (l : Fin 5) (xs : List Bool) (n : Nat) :
    Kept s (s.judgeStart l xs n) :=
  .ite (kept_setLine ..) (kept_setReceiver ..)

theorem kept_takeSample (s : State) (l : Fin 5) (x : Bool) : Kept s (s.takeSample l x) := by
  unfold State.takeSample
  split
  · exact .ite (.ite (kept_idleRun ..) (kept_setReceiver ..))
      (.ite (kept_setReceiver ..) (.ite (kept_setReceiver ..) (kept_zeroRun ..)))
  · exact .ite (kept_setReceiver ..) (kept_judgeStart ..)
  · exact .refl s

theorem kept_takeSamples (s : State) (l : Fin 5) (xs : List Bool) : Kept s (s.takeSamples l xs) :=
  .foldl (fun _ _ => kept_takeSample ..) _ _

/-! ### The water record as a request sets it -/

theorem kept_newPeriod (s : State) (a : Option Nat) : Kept s (s.newPeriod a) :=
  (((kept_setKept ..).trans (kept_onWater ..)).trans (kept_decideMakeUp ..)).trans (kept_testAllowance ..)

/-- A request that sets the water record, and may enqueue its page (R175), keeps what its effect keeps. -/
theorem kept_withWaterPage {f : State → State} (h : ∀ s, Kept s (f s)) (s : State) :
    Kept s (s.withWaterPage f) :=
  .ite (h s) ((kept_enqueue ..).trans (h _))

end Sys2Proof.Machine
end

