-- ==== Sys2Proof/Laws/Events.lean ====
section
/-! SUPPORT. What the shared operations of the receiver and the transmit pin, of the water loop's report and page, and of
a transfer can do, said once. -/

namespace Sys2Proof.Machine

variable {s : State} {l : Fin 5} {x : Bool} {ones zeros n k : Nat} {samples : List Bool} {mark : Bool}

/-! ### The run of 1-samples (R54) -/

@[simp] theorem onesRun_nil : onesRun n [] = n := rfl

@[simp] theorem onesRun_cons (x : Bool) (xs : List Bool) : onesRun n (x :: xs) = onesRun (onesOn n x) xs := rfl

@[simp] theorem onesRun_append (xs ys : List Bool) : onesRun n (xs ++ ys) = onesRun (onesRun n xs) ys :=
  List.foldl_append ..

/-- `k` samples at 1 lengthen the run by `k`, up to 160. -/
theorem onesRun_replicate (h : n ≤ 160) : onesRun n (List.replicate k true) = min 160 (n + k) := by
  induction k generalizing n with
  | zero => simp; omega
  | succ k ih =>
    rw [List.replicate_succ, onesRun_cons, ih (by simp [onesOn])]
    simp [onesOn]; omega

/-- A character has its 11 samples of the start bit, its 128 of the data bits and its 9 of the stop bit. -/
@[simp] theorem samples_length (c : CharSamples) : c.samples.length = 148 := by
  simp [CharSamples.samples, bitSamples, List.length_flatMap]

/-! ### One sample of LRXn (R52 to R54) -/

/-- In the start search a 1-sample counts toward the four needed; the 160th seen in a row is an idle run. -/
theorem takeSample_search_one (h : (s.line l).receiver = .search ones zeros) :
    s.takeSample l true
      = if (s.line l).onesSeen = 159 then s.idleRun l
        else s.setReceiver l (.search (min 4 (ones + 1)) 0) (onesOn (s.line l).onesSeen true) := by
  simp [State.takeSample, h, State.searchOne]

/-- Behind four 1-samples a 0-sample is sample 1 of a start bit. -/
theorem takeSample_search_start (h : (s.line l).receiver = .search ones zeros) (ho : 4 ≤ ones) :
    s.takeSample l false = s.setReceiver l (.startCheck [false]) 0 := by
  simp [State.takeSample, h, State.searchZero, ho]

/-- Else it is counted, and the 160th in a row is a break character. -/
theorem takeSample_search_zero (h : (s.line l).receiver = .search ones zeros) (ho : ones < 4) :
    s.takeSample l false
      = if zeros + 1 < 160 then s.setReceiver l (.search 0 (zeros + 1)) 0 else s.zeroRun l := by
  simp [State.takeSample, h, State.searchZero, Nat.not_le.mpr ho]

/-- The start check takes samples 2 to 4 as they come. -/
theorem takeSample_check (h : (s.line l).receiver = .startCheck samples) (hn : samples.length < 4) :
    s.takeSample l x = s.setReceiver l (.startCheck (samples ++ [x])) (onesOn (s.line l).onesSeen x) := by
  simp [State.takeSample, h, hn]

/-- At sample 5 it is decided: a start bit where two or three of samples 3 to 5 are 0, a false start else. -/
theorem takeSample_decide (h : (s.line l).receiver = .startCheck samples) (hn : samples.length = 4) :
    s.takeSample l x
      = if 2 ≤ ((samples ++ [x]).drop 2).count false
        then s.startVerified l (decide (((samples ++ [x]).drop 2).count false ≠ 3)) (onesOn (s.line l).onesSeen x)
        else s.setReceiver l .startSearch (onesOn (s.line l).onesSeen x) := by
  simp [State.takeSample, h, hn, State.judgeStart]

/-- In a character the samples are CHARACTER's. -/
theorem takeSample_inCharacter (h : (s.line l).receiver = .inCharacter mark) : s.takeSample l x = s := by
  simp [State.takeSample, h]

theorem takeSamples_append (xs ys : List Bool) :
    s.takeSamples l (xs ++ ys) = (s.takeSamples l xs).takeSamples l ys := List.foldl_append ..

/-! ### The report of a recomputed factor (R126) -/

/-- A recomputation sets the factors and tells them as `factorTold` says. -/
theorem recomputeFrom_eq_factorTold (s : State) (oldResume : Nat) (always : Bool) :
    s.recomputeFrom oldResume always
      = (s.onWater Water.withFactors).factorTold s.water.factor oldResume always := by
  have h : (s.onWater Water.withFactors).thresholds = s.thresholds := rfl
  simp only [State.recomputeFrom, State.factorTold, h, State.reportToStations, Nat.not_le]
  rfl

theorem recompute_eq_factorTold (s : State) :
    s.recompute = (s.onWater Water.withFactors).factorTold s.water.factor s.thresholds.resume false :=
  recomputeFrom_eq_factorTold ..

/-! ### The page of the water record (R122, R127, R175) -/

theorem withWaterPage_of_stands {f : State → State} (h : s.loopStands (f s)) : s.withWaterPage f = f s := if_pos h

theorem withWaterPage_of_moves {f : State → State} (h : ¬ s.loopStands (f s)) :
    s.withWaterPage f = f (s.enqueue waterPage) := if_neg h

/-! ### The transmit pin (R61) -/

@[simp] theorem characterLevels_length (b : Byte) : (characterLevels b).length = 10 := by
  simp [characterLevels]

/-! ### The status bytes of a transfer (R168) -/

@[simp] theorem Port.statusBytes_length (p : Port) (early n : Nat) : (p.statusBytes early n).length = n := by
  simp [Port.statusBytes]; omega

/-- Byte `k` is the status at its own start. -/
theorem Port.statusBytes_eq (p : Port) (early n : Nat) :
    p.statusBytes early n
      = (List.range n).map fun k => if k < early then (p.before.getD p.status).byte else p.status.byte := by
  refine List.ext_getElem (by simp) fun k hk _ => ?_
  simp only [List.getElem_map, List.getElem_range, Port.statusBytes, List.getElem_append, List.length_replicate,
    List.getElem_replicate]
  simp only [Port.statusBytes_length] at hk
  split <;> split <;> first | rfl | omega

end Sys2Proof.Machine
end

