-- ==== Sys2Proof/Laws/Formats.lean ====
section
/-! SUPPORT. Lengths, sums and read-back of the bytes on the links. -/

namespace Sys2Proof

@[simp] theorem leBytes_length (n v : Nat) : (leBytes n v).length = n := by
  induction n generalizing v with
  | zero => rfl
  | succ n ih => simp [leBytes, ih]

@[simp] theorem leFields_nil : leFields [] = [] := rfl

@[simp] theorem leFields_cons (n v : Nat) (fs : List (Nat × Nat)) :
    leFields ((n, v) :: fs) = leBytes n v ++ leFields fs := rfl

theorem leFields_append (as bs : List (Nat × Nat)) : leFields (as ++ bs) = leFields as ++ leFields bs := by
  induction as with
  | nil => rfl
  | cons a as ih => obtain ⟨n, v⟩ := a; simp [ih]

/-- The length of a row of fields is the sum of their widths. -/
theorem leFields_length (fs : List (Nat × Nat)) : (leFields fs).length = (fs.map (·.1)).sum := by
  induction fs with
  | nil => rfl
  | cons f fs ih => obtain ⟨n, v⟩ := f; simp [ih]

/-- A value that fits its bytes is read back from them. -/
theorem leNat_leBytes {n v : Nat} (h : v < 256 ^ n) : leNat (leBytes n v) = v := by
  induction n generalizing v with
  | zero => simp at h; subst h; rfl
  | succ n ih =>
    have h' : v / 256 < 256 ^ n := by
      rw [Nat.div_lt_iff_lt_mul (by decide)]; rw [pow_succ] at h; exact h
    simp only [leBytes, leNat, ih h', BitVec.toNat_ofNat]
    omega

theorem byteSum_append (a b : List Byte) : byteSum (a ++ b) = byteSum a + byteSum b := by
  unfold byteSum
  rw [List.foldl_append]
  generalize List.foldl (· + ·) 0 a = x
  induction b generalizing x with
  | nil => simp
  | cons c cs ih =>
    rw [List.foldl_cons, List.foldl_cons, ih (x + c), ih (0 + c), ← BitVec.add_assoc]
    show x + c + _ = x + (BitVec.ofNat 8 0 + c) + _
    rw [BitVec.zero_add]

/-- The check byte makes the sum of the whole 0 (R169, R172). -/
@[simp] theorem byteSum_withCheck (bs : List Byte) : byteSum (withCheck bs) = 0 := by
  unfold withCheck
  rw [byteSum_append]
  simp [byteSum]

@[simp] theorem withCheck_length (bs : List Byte) : (withCheck bs).length = bs.length + 1 := by
  simp [withCheck]

theorem settings_bytes_length (r : Settings) : r.bytes.length = 45 := by
  simp [Settings.bytes, leFields_length, Function.comp_def, List.map_const']

end Sys2Proof
end

