-- ==== Sys2Proof/Laws/PerInstr.lean ====
section
/-! SUPPORT. Statements made of each command: a request's fields are as many bytes as its kind's fixed field
length (R170, 11.2). -/

namespace Sys2Proof.Laws.requestShape

/-- A command that is a request carries the field length of its kind. -/
def Statement (i : Instr) : Prop :=
  ∀ q, i.request? = some q → requestLength q.kind.toNat = some q.fields.length

theorem powerOn :
    Statement (.powerOn) := by
  intro q h; cases h

theorem resetNAssert :
    Statement (.resetNAssert) := by
  intro q h; cases h

theorem resetNRelease :
    Statement (.resetNRelease) := by
  intro q h; cases h

theorem startUpRestoreEnd :
    Statement (.startUpRestoreEnd) := by
  intro q h; cases h

theorem send (transfer : SendTransfer) :
    Statement (.send transfer) := by
  intro q h; cases h

theorem fetch (transfer : FetchTransfer) :
    Statement (.fetch transfer) := by
  intro q h; cases h

theorem pollTransfer (transfer : PollTransfer) :
    Statement (.pollTransfer transfer) := by
  intro q h; cases h

theorem admitSlab
    (echo : Byte) (tag : Nat) (material : Nat) (length : Nat) (width : Nat) (thickness : Nat) (cost :
    Nat) (rack : Nat) :
    Statement (.admitSlab echo tag material length width thickness cost rack) := by
  intro q h; cases h; rfl

theorem readSlab (echo : Byte) (tag : Nat) :
    Statement (.readSlab echo tag) := by
  intro q h; cases h; rfl

theorem listStock (echo : Byte) (cursor : Nat) (material : Nat) (slabState : Nat) :
    Statement (.listStock echo cursor material slabState) := by
  intro q h; cases h; rfl

theorem findSlab (echo : Byte) (material : Nat) (thickness : Nat) (minLength : Nat) (minWidth : Nat) :
    Statement (.findSlab echo material thickness minLength minWidth) := by
  intro q h; cases h; rfl

theorem moveSlab (echo : Byte) (tag : Nat) (rack : Nat) :
    Statement (.moveSlab echo tag rack) := by
  intro q h; cases h; rfl

theorem amendSlab (echo : Byte) (tag : Nat) (length : Nat) (width : Nat) (cost : Nat) :
    Statement (.amendSlab echo tag length width cost) := by
  intro q h; cases h; rfl

theorem retireSlab (echo : Byte) (tag : Nat) (reason : Nat) :
    Statement (.retireSlab echo tag reason) := by
  intro q h; cases h; rfl

theorem setMaterial
    (echo : Byte) (code : Nat) (veined : Nat) (density : Nat) (baseFeed : Nat) (minFeed : Nat) (hardness
    : Nat) (minRemLength : Nat) (minRemWidth : Nat) (valueFactor : Nat) :
    Statement (.setMaterial echo code veined density baseFeed minFeed hardness minRemLength minRemWidth valueFactor) := by
  intro q h; cases h; rfl

theorem clearMaterial (echo : Byte) (code : Nat) :
    Statement (.clearMaterial echo code) := by
  intro q h; cases h; rfl

theorem readMaterial (echo : Byte) (code : Nat) :
    Statement (.readMaterial echo code) := by
  intro q h; cases h; rfl

theorem openPlan (echo : Byte) (tag : Nat) (kerf : Nat) :
    Statement (.openPlan echo tag kerf) := by
  intro q h; cases h; rfl

theorem addCut (echo : Byte) (plan : Nat) (piece : Nat) (axis : Nat) (offset : Nat) :
    Statement (.addCut echo plan piece axis offset) := by
  intro q h; cases h; rfl

theorem undoCut (echo : Byte) (plan : Nat) :
    Statement (.undoCut echo plan) := by
  intro q h; cases h; rfl

theorem markPiece (echo : Byte) (plan : Nat) (piece : Nat) (designation : Nat) (job : Nat) (line : Nat) :
    Statement (.markPiece echo plan piece designation job line) := by
  intro q h; cases h; rfl

theorem lockPlan (echo : Byte) (plan : Nat) :
    Statement (.lockPlan echo plan) := by
  intro q h; cases h; rfl

theorem unlockPlan (echo : Byte) (plan : Nat) :
    Statement (.unlockPlan echo plan) := by
  intro q h; cases h; rfl

theorem dropPlan (echo : Byte) (plan : Nat) :
    Statement (.dropPlan echo plan) := by
  intro q h; cases h; rfl

theorem readPlan (echo : Byte) (plan : Nat) (start : Nat) :
    Statement (.readPlan echo plan start) := by
  intro q h; cases h; rfl

theorem abandonPlan (echo : Byte) (plan : Nat) :
    Statement (.abandonPlan echo plan) := by
  intro q h; cases h; rfl

theorem readLine (echo : Byte) (line : Nat) :
    Statement (.readLine echo line) := by
  intro q h; cases h; rfl

theorem mapLines (echo : Byte) (lines : Vector Nat 5) :
    Statement (.mapLines echo lines) := by
  intro q h; cases h
  simp [requestLength, leFields_length, Function.comp_def]

theorem attachStation (echo : Byte) (station : Nat) :
    Statement (.attachStation echo station) := by
  intro q h; cases h; rfl

theorem detachStation (echo : Byte) (station : Nat) :
    Statement (.detachStation echo station) := by
  intro q h; cases h; rfl

theorem startPlan (echo : Byte) (plan : Nat) (station : Nat) :
    Statement (.startPlan echo plan station) := by
  intro q h; cases h; rfl

theorem stopStation (echo : Byte) (station : Nat) :
    Statement (.stopStation echo station) := by
  intro q h; cases h; rfl

theorem resumeStation (echo : Byte) (station : Nat) :
    Statement (.resumeStation echo station) := by
  intro q h; cases h; rfl

theorem readStation (echo : Byte) (station : Nat) :
    Statement (.readStation echo station) := by
  intro q h; cases h; rfl

theorem fitBlade
    (echo : Byte) (station : Nat) (serial : Nat) (kerf : Nat) (maxPassDepth : Nat) (maxDepth : Nat)
    (life : Nat) (costPerUnit : Nat) (lowMark : Nat) (wear : Nat) :
    Statement (.fitBlade echo station serial kerf maxPassDepth maxDepth life costPerUnit lowMark wear) := by
  intro q h; cases h; rfl

theorem removeBlade (echo : Byte) (station : Nat) :
    Statement (.removeBlade echo station) := by
  intro q h; cases h; rfl

theorem readBlade (echo : Byte) (station : Nat) :
    Statement (.readBlade echo station) := by
  intro q h; cases h; rfl

theorem attachPlant (echo : Byte) :
    Statement (.attachPlant echo) := by
  intro q h; cases h; rfl

theorem detachPlant (echo : Byte) :
    Statement (.detachPlant echo) := by
  intro q h; cases h; rfl

theorem pressNow (echo : Byte) :
    Statement (.pressNow echo) := by
  intro q h; cases h; rfl

theorem resetPeriod (echo : Byte) (allowance : Nat) :
    Statement (.resetPeriod echo allowance) := by
  intro q h; cases h; rfl

theorem setWater
    (echo : Byte) (hold : Nat) (low : Nat) (fill : Nat) (full : Nat) (pressLevel : Nat) (slow : Nat)
    (stop : Nat) (resumeFactor : Nat) (autoPress : Nat) :
    Statement (.setWater echo hold low fill full pressLevel slow stop resumeFactor autoPress) := by
  intro q h; cases h; rfl

theorem readWater (echo : Byte) :
    Statement (.readWater echo) := by
  intro q h; cases h; rfl

theorem openJob (echo : Byte) (job : Nat) :
    Statement (.openJob echo job) := by
  intro q h; cases h; rfl

theorem setLine (echo : Byte) (job : Nat) (line : Nat) (target : Nat) :
    Statement (.setLine echo job line target) := by
  intro q h; cases h; rfl

theorem readJob (echo : Byte) (job : Nat) :
    Statement (.readJob echo job) := by
  intro q h; cases h; rfl

theorem closeJob (echo : Byte) (job : Nat) :
    Statement (.closeJob echo job) := by
  intro q h; cases h; rfl

theorem retireJob (echo : Byte) (job : Nat) :
    Statement (.retireJob echo job) := by
  intro q h; cases h; rfl

theorem readOverhead (echo : Byte) :
    Statement (.readOverhead echo) := by
  intro q h; cases h; rfl

theorem clearOverhead (echo : Byte) :
    Statement (.clearOverhead echo) := by
  intro q h; cases h; rfl

theorem retentionStatus (echo : Byte) :
    Statement (.retentionStatus echo) := by
  intro q h; cases h; rfl

theorem setSettings (echo : Byte) (record : Settings) :
    Statement (.setSettings echo record) := by
  intro q h; cases h; simp only [settings_bytes_length]; rfl

theorem readSettings (echo : Byte) :
    Statement (.readSettings echo) := by
  intro q h; cases h; rfl

theorem readDevice (echo : Byte) :
    Statement (.readDevice echo) := by
  intro q h; cases h; rfl

theorem nextNotice (echo : Byte) :
    Statement (.nextNotice echo) := by
  intro q h; cases h; rfl

theorem noticeDone (echo : Byte) :
    Statement (.noticeDone echo) := by
  intro q h; cases h; rfl

theorem setNotice (echo : Byte) (source : Nat) (enable : Nat) (level : Nat) :
    Statement (.setNotice echo source enable level) := by
  intro q h; cases h; rfl

theorem character (line : Fin 5) (samples : CharSamples) :
    Statement (.character line samples) := by
  intro q h; cases h

theorem breakCharacter (line : Fin 5) :
    Statement (.breakCharacter line) := by
  intro q h; cases h

theorem idleRun (line : Fin 5) :
    Statement (.idleRun line) := by
  intro q h; cases h

theorem gapTimerExpiry (line : Fin 5) :
    Statement (.gapTimerExpiry line) := by
  intro q h; cases h

theorem accept (line : Fin 5) (noise : Bool) (toggle : Bool) (cut : Nat) :
    Statement (.accept line noise toggle cut) := by
  intro q h; cases h

theorem pass
    (line : Fin 5) (noise : Bool) (toggle : Bool) (cut : Nat) (passIndex : Nat) (seconds : Nat) :
    Statement (.pass line noise toggle cut passIndex seconds) := by
  intro q h; cases h

theorem finish (line : Fin 5) (noise : Bool) (toggle : Bool) (cut : Nat) :
    Statement (.finish line noise toggle cut) := by
  intro q h; cases h

theorem state
    (line : Fin 5) (noise : Bool) (toggle : Bool) (mode : Nat) (table : Nat) (passesDone : Nat) :
    Statement (.state line noise toggle mode table passesDone) := by
  intro q h; cases h

theorem fault (line : Fin 5) (noise : Bool) (toggle : Bool) (code : Nat) (cut : Nat) :
    Statement (.fault line noise toggle code cut) := by
  intro q h; cases h

theorem levels (line : Fin 5) (noise : Bool) (toggle : Bool) (report : LevelsReport) :
    Statement (.levels line noise toggle report) := by
  intro q h; cases h

theorem pressState (line : Fin 5) (noise : Bool) (toggle : Bool) (report : Nat) (cake : Nat) :
    Statement (.pressState line noise toggle report cake) := by
  intro q h; cases h

theorem transmitStart (line : Fin 5) :
    Statement (.transmitStart line) := by
  intro q h; cases h

theorem frameSent (line : Fin 5) :
    Statement (.frameSent line) := by
  intro q h; cases h

theorem acceptWaitExpiry (station : Fin 4) :
    Statement (.acceptWaitExpiry station) := by
  intro q h; cases h

theorem holdWaitExpiry (station : Fin 4) :
    Statement (.holdWaitExpiry station) := by
  intro q h; cases h

theorem listeningReplyTimerExpiry (station : Fin 4) :
    Statement (.listeningReplyTimerExpiry station) := by
  intro q h; cases h

theorem silenceTimerExpiry (station : Fin 4) :
    Statement (.silenceTimerExpiry station) := by
  intro q h; cases h

theorem stationQueryTimerExpiry (station : Fin 4) :
    Statement (.stationQueryTimerExpiry station) := by
  intro q h; cases h

theorem plantQueryTimerExpiry :
    Statement (.plantQueryTimerExpiry) := by
  intro q h; cases h

theorem staleTimerExpiry :
    Statement (.staleTimerExpiry) := by
  intro q h; cases h

theorem pressStartTimerExpiry :
    Statement (.pressStartTimerExpiry) := by
  intro q h; cases h

theorem settleTimerExpiry (valve : Fin 5) :
    Statement (.settleTimerExpiry valve) := by
  intro q h; cases h

theorem pageWriteStart :
    Statement (.pageWriteStart) := by
  intro q h; cases h

theorem eraseDone :
    Statement (.eraseDone) := by
  intro q h; cases h

theorem programDone :
    Statement (.programDone) := by
  intro q h; cases h

theorem verifyDone (agrees : Bool) (markerSet : Bool) :
    Statement (.verifyDone agrees markerSet) := by
  intro q h; cases h

theorem startBitVerified (line : Fin 5) (samples : List Bool) :
    Statement (.startBitVerified line samples) := by
  intro q h; cases h

theorem powerFailure :
    Statement (.powerFailure) := by
  intro q h; cases h

end Sys2Proof.Laws.requestShape
end

