-- ==== Sys2Proof/Laws/Serve.lean ====
section
/-! SUPPORT. How a request comes out (R171, R172, R180), said once for every request; and that no command stops
the block. -/

namespace Sys2Proof.Machine

variable {i : Instr} {q : Request} {h : Handler} {s t : State} {fs : List Byte} {a : Answer}

/-- A request in service is answered (R171, R172). -/
theorem serve_taken (hq : i.request? = some q) (ht : s.port.takes q = true) :
    serve i h s = .next (s.served q.echo h) := by
  simp [serve, hq, ht]

/-- A request that is not in service changes nothing (R168). -/
theorem serve_ignored (hq : i.request? = some q) (ht : s.port.takes q = false) : serve i h s = .next s := by
  simp [serve, hq, ht]

/-- An IDLE port takes any request (assumption 3). -/
theorem takes_of_idle (hs : s.port.status = .idle) : s.port.takes q = true := by simp [Port.takes, hs]

/-- A WORKING port serves the request in its buffer (R171). -/
theorem takes_of_working (hs : s.port.status = .working) (hb : s.port.request = some q) :
    s.port.takes q = true := by
  simp [Port.takes, hs, hb]

theorem served_ok (hh : h s = .ok (t, fs)) (echo : Byte) : s.served echo h = t.answer echo .ok fs := by
  simp [State.served, hh]

theorem served_error (hh : h s = .error a) (echo : Byte) : s.served echo h = s.answer echo a.code a.fields := by
  simp [State.served, hh]

/-- An IDLE port answers OK with the block's fields. -/
theorem serve_ok (hq : i.request? = some q) (ht : s.port.takes q = true) (hh : h s = .ok (t, fs)) :
    serve i h s = .next (t.answer q.echo .ok fs) := by
  rw [serve_taken hq ht, served_ok hh]

/-- A refusal, and an answer that found nothing, leave everything but the port as it was (R175, R180). -/
theorem serve_error (hq : i.request? = some q) (ht : s.port.takes q = true) (hh : h s = .error a) :
    serve i h s = .next (s.answer q.echo a.code a.fields) := by
  rw [serve_taken hq ht, served_error hh]

/-- Every request comes out in a next state. -/
theorem serve_next (i : Instr) (h : Handler) (s : State) : ∃ t, serve i h s = .next t := by
  unfold serve
  split
  · exact ⟨_, rfl⟩
  · split
    · exact ⟨_, rfl⟩
    · exact ⟨_, rfl⟩

end Sys2Proof.Machine
end

