-- ==== Sys2Proof/Laws/Requests.lean ====
section
/-! SUPPORT. What the words of the statements give of the model's own functions: a request in service
is taken, a tag in range finds its record, the lowest free slot, a rack field. -/

namespace Sys2Proof.Machine

variable {s t : State} {i : Instr} {q : Request} {h : Handler}

/-- `lowest` answers a slot exactly when the slot passes the test and no lower one does. -/
theorem lowest_iff {α : Type} {n : Nat} {v : Vector α n} {p : α → Bool} {i : Fin n} :
    lowest v p = some i ↔ p (slot v i) = true ∧ ∀ j < i, p (slot v j) = false := by
  constructor
  · exact lowest_some
  · rintro ⟨h1, h2⟩
    cases hx : lowest v p with
    | none => rw [lowest_none] at hx; simp [hx i] at h1
    | some j =>
      obtain ⟨a, b⟩ := lowest_some hx
      rcases lt_trichotomy i j with h | h | h
      · rw [b i h] at h1; cases h1
      · rw [h]
      · rw [h2 j h] at a; cases a

/-- A request in service is one the port takes. -/
theorem serving_takes (hs : s.serving i) (hq : i.request? = some q) : s.port.takes q = true := by
  obtain ⟨q', h1, h2⟩ := hs
  rw [hq] at h1; cases h1
  rcases h2 with h2 | ⟨h2, h3⟩ <;> simp [Port.takes, *]

/-- A request in service whose handler succeeds is answered OK with its fields. -/
theorem serving_ok {fs} (hs : s.serving i) (hq : i.request? = some q) (hh : h s = .ok (t, fs)) :
    serve i h s = .next (t.answer q.echo .ok fs) := serve_ok hq (serving_takes hs hq) hh

/-- A request in service whose handler refuses changes nothing but the reply. -/
theorem serving_error {a} (hs : s.serving i) (hq : i.request? = some q) (hh : h s = .error a) :
    serve i h s = .next (s.answer q.echo a.code a.fields) := serve_error hq (serving_takes hs hq) hh

/-- The record a tag names is the one the lookup finds. -/
theorem slabOf_names {tag n r} (h : s.tagNames tag n r) : s.slabOf tag = some (n, r) := by
  obtain ⟨h1, h2, h3, h4, h5⟩ := h
  have : s.findTag tag = some n := by
    unfold State.findTag
    rw [lowest_iff]
    refine ⟨?_, ?_⟩
    · show (s.slab n).any _ = true
      rw [h3]; simp [h4]
    · intro k hk
      show (s.slab k).any _ = false
      cases hx : s.slab k with
      | none => rfl
      | some x =>
        simp only [Option.any_some, beq_eq_false_iff_ne]
        intro e; exact absurd (h5 k x hx e) (by omega)
  simp [State.slabOf, this, h3]

/-- A tag that names a record passes the tag checks (R10). -/
theorem tagCheck_names {tag n r} (h : s.tagNames tag n r) : s.tagCheck tag = .ok (n, r) := by
  have := slabOf_names h
  unfold State.tagCheck
  rw [if_neg (by obtain ⟨h1,h2,_⟩ := h; omega), this]

/-- A tag no live record carries is not found. -/
theorem findTag_none {tag} (h : ∀ k r, s.slab k = some r → r.tag ≠ tag) : s.findTag tag = none := by
  unfold State.findTag
  rw [lowest_none]
  intro k
  show (s.slab k).any _ = false
  cases hx : s.slab k with
  | none => rfl
  | some x => simp [h k x hx]

/-- A tag a live record carries is found. -/
theorem findTag_isSome {tag} (h : ∃ k r, s.slab k = some r ∧ r.tag = tag) : (s.findTag tag).isSome := by
  by_contra hh
  simp at hh
  unfold State.findTag at hh
  rw [lowest_none] at hh
  obtain ⟨k, r, h1, h2⟩ := h
  have := hh k
  change (s.slab k).any _ = false at this
  rw [h1] at this; simp [h2] at this

/-- Enqueuing pages one after the other adds them and nothing else, in place or behind the queue (R155). -/
theorem enqueuedOnly_of {pages} (h : t.retention.queue = pages.foldl queueWith s.retention.queue) :
    s.enqueuedOnly t pages := by
  unfold State.enqueuedOnly
  rw [h]; clear h
  have key : ∀ (ps : List (Fin 648)) (q : List (Fin 648)), q <+: ps.foldl queueWith q
      ∧ (∀ p, p ∈ ps.foldl queueWith q ↔ p ∈ q ∨ p ∈ ps) := by
    intro ps
    induction ps with
    | nil => intro q; simp
    | cons p ps ih =>
      intro q
      obtain ⟨a, b⟩ := ih (queueWith q p)
      constructor
      · refine List.IsPrefix.trans ?_ a
        unfold queueWith; split
        · exact List.prefix_refl _
        · exact List.prefix_append _ _
      · intro r; rw [List.foldl_cons, b]; simp; tauto
  obtain ⟨a, b⟩ := key pages s.retention.queue
  exact ⟨a, fun p hp => (b p).2 (.inr hp), fun p hp => (b p).1 hp⟩

/-- The lowest free slot of the Stock Table (R6). -/
theorem liveSlot {n} (h1 : s.slab n = none) (h2 : ∀ k, k < n → s.slab k ≠ none) :
    lowest s.stock.slabs (fun r => r.isNone) = some n := by
  rw [lowest_iff]
  refine ⟨?_, ?_⟩
  · show (s.slab n).isNone = true; simp [h1]
  · intro k hk; show (s.slab k).isNone = false
    have := h2 k hk; cases hx : s.slab k <;> simp_all

/-- A rack field names a position or, as 255, none (R9). -/
theorem rackField_of {pos : Option (Fin 120)} {rack}
    (h : pos = none ∧ rack = 255 ∨ ∃ p : Fin 120, pos = some p ∧ rack = p.val) :
    rackField rack = some pos := by
  rcases h with ⟨rfl, rfl⟩ | ⟨p, rfl, rfl⟩
  · rfl
  · have : p.val ≠ 255 := by omega
    simp [rackField, optional, this]

end Sys2Proof.Machine
end

