-- ==== Sys2Proof/Laws/Valves.lean ====
section
/-! SUPPORT. Valve commands, station states and the water factor: what the operations that change them do. -/

namespace Sys2Proof.Machine

/-! ### Handing frames (R62, R63) -/

@[simp] theorem handFrame_water (s : State) (l : Fin 5) (f : TxFrame) : (s.handFrame l f).water = s.water := by
  unfold State.handFrame; split <;> rfl

@[simp] theorem handFrame_stations (s : State) (l : Fin 5) (f : TxFrame) :
    (s.handFrame l f).stations = s.stations := by
  unfold State.handFrame; split <;> rfl

/-- A frame of a new kind joins at the tail, one of a kind already waiting takes its place; no kind stands twice
(R62, R63). -/
theorem queueFrame_nodup {q : List TxFrame} (h : (q.map fun g => g.message.kindCode).Nodup) (f : TxFrame) :
    ((queueFrame q f).map fun g => g.message.kindCode).Nodup := by
  obtain ⟨tog, m⟩ := f
  have other (k : Nat) (hk : k = m.kindCode) :
      ((if q.any (fun g => g.message.kindCode == k) then
          q.map (fun g => if g.message.kindCode = k then (⟨tog, m⟩ : TxFrame) else g)
        else q ++ [⟨tog, m⟩]).map fun g => g.message.kindCode).Nodup := by
    subst hk
    split
    · rw [List.map_map]
      have e : ((fun g : TxFrame => g.message.kindCode) ∘
          fun g : TxFrame => if g.message.kindCode = m.kindCode then (⟨tog, m⟩ : TxFrame) else g)
          = fun g : TxFrame => g.message.kindCode := by
        funext g
        simp only [Function.comp]
        split
        · next e => exact e.symm
        · rfl
      rw [e]; exact h
    · next hn =>
      rw [List.map_append, List.nodup_append]
      refine ⟨h, by simp, ?_⟩
      intro a ha b hb
      simp only [List.map_cons, List.map_nil, List.mem_singleton] at hb
      subst hb
      intro e
      subst e
      simp only [List.mem_map] at ha
      obtain ⟨g, hg, he⟩ := ha
      apply hn
      rw [List.any_eq_true]
      exact ⟨g, hg, by simp [he]⟩
  cases m with
  | hold =>
    simp only [queueFrame, List.map_cons, List.nodup_cons]
    constructor
    · intro hm
      simp only [List.mem_map, List.mem_filter] at hm
      obtain ⟨g, ⟨_, hg⟩, he⟩ := hm
      simp [TxMessage.kindCode] at he hg
      simp [he] at hg
    · exact h.sublist (List.Sublist.map _ List.filter_sublist)
  | order o => exact other 1 rfl
  | feed n => exact other 3 rfl
  | query => exact other 4 rfl
  | valves v => exact other 5 rfl
  | press => exact other 6 rfl

/-! ### Commanding a valve (R123, R124) -/

theorem settleTest_water (s : State) (v : Fin 5) :
    ∃ st, (s.settleTest v).water = { s.water with settle := st } := by
  unfold State.settleTest
  split
  · exact ⟨_, rfl⟩
  · exact ⟨s.water.settle, rfl⟩

/-- A valve command changes that valve's command and settle timers, and nothing else of the water record. -/
theorem commandValve_water (s : State) (v : Fin 5) (b : Bool) :
    ∃ st, (s.commandValve v b).water = { s.water with commanded := put s.water.commanded v b, settle := st } := by
  unfold State.commandValve
  split
  · next h => exact ⟨s.water.settle, by rw [← h]; simp⟩
  · obtain ⟨st, hst⟩ := settleTest_water (((s.onWater fun w => { w with commanded := put w.commanded v b }).handPlant
      (.valves (s.onWater fun w => { w with commanded := put w.commanded v b }).water.commanded))) v
    exact ⟨st, by rw [hst]; simp [State.handPlant]⟩

theorem commandValve_commanded (s : State) (v w : Fin 5) (b : Bool) :
    slot (s.commandValve v b).water.commanded w = if v = w then b else slot s.water.commanded w := by
  obtain ⟨st, h⟩ := commandValve_water s v b
  rw [h]; exact slot_put ..

@[simp] theorem settleTest_stations (s : State) (v : Fin 5) : (s.settleTest v).stations = s.stations := by
  unfold State.settleTest; split <;> rfl

@[simp] theorem commandValve_stations (s : State) (v : Fin 5) (b : Bool) :
    (s.commandValve v b).stations = s.stations := by
  unfold State.commandValve
  split
  · rfl
  · simp [State.handPlant]

/-! ### Entering a station state (R69) -/

/-- A state entered changes that station's state and nothing else of the station records. -/
@[simp] theorem enterState_stations (s : State) (i : Fin 4) (x : StationState) :
    (s.enterState i x).stations = put s.stations i { s.station i with state := x } := by
  unfold State.enterState
  dsimp only
  split <;> simp

/-- The station's supply valve follows its state; no other command changes (R69, R123). -/
theorem enterState_commanded {s : State} {i : Fin 4}
    (h : slot s.water.commanded (supplyValve i) = (s.station i).state.wet) (x : StationState) (w : Fin 5) :
    slot (s.enterState i x).water.commanded w =
      if supplyValve i = w then x.wet else slot s.water.commanded w := by
  unfold State.enterState
  dsimp only
  split
  · next e =>
    simp only [State.setStation_water]
    split
    · next ew => subst ew; rw [h, e]
    · rfl
  · rw [commandValve_commanded]; rfl

/-! ### The water factor (R125) -/

theorem factorSettle_le (x : Option Nat) : factorSettle x ≤ 1000 := by
  unfold factorSettle
  split
  · omega
  · split
    · omega
    · split <;> omega

/-- F lies in 0 to 1000, and is 0 unless the link is LIVE (R125). -/
theorem withFactors_factor (w : Water) :
    w.withFactors.factor ≤ 1000 ∧ (w.link ≠ .live → w.withFactors.factor = 0) := by
  unfold Water.withFactors
  dsimp only
  split
  · next h => exact ⟨by have := factorSettle_le w.settling; omega, fun g => absurd h g⟩
  · exact ⟨by omega, fun _ => rfl⟩

@[simp] theorem withFactors_link (w : Water) : w.withFactors.link = w.link := rfl
@[simp] theorem withFactors_kept (w : Water) : w.withFactors.kept = w.kept := rfl
@[simp] theorem withFactors_commanded (w : Water) : w.withFactors.commanded = w.commanded := rfl

end Sys2Proof.Machine
end

