-- ==== Sys2Proof/Tests/Slice0.lean ====
section
/-! SUPPORT. Tests: ill-formed commands, the spec's worked examples, and for each statement with hypotheses a
state and operands that meet them. -/

namespace Sys2Proof.Tests

-- One test after another: checked side by side, the evaluations ask for more threads than the check allows.
set_option Elab.async false

open Sys2Proof.Machine

/-! ### Fixtures -/

/-- The part after the restore of a blank array, ready for a request. -/
def idle : State := { State.reset with port := { State.reset.port with status := .idle } }

/-- Material 5 of example 2.10. -/
def stone : Material where
  density := 265
  hardness := 16
  veined := false
  minRemLength := 3000
  minRemWidth := 3000
  valueFactor := 192
  baseFeed := 1200
  minFeed := 300

/-- Slab 2250 of example 2.10. -/
def slab2250 : Slab where
  tag := 2250
  kind := .full
  material := 5
  length := 32000
  width := 18000
  thickness := 300
  cost := 84000
  parent := none
  rack := some 17
  state := .available
  holder := none
  interrupted := false

/-- A stock of one slab, in slot 3, where its position says it is. -/
def yardOf (r : Slab) : State :=
  { idle with
    stock := { idle.stock with
      slabs := put State.reset.stock.slabs 3 (some r)
      rackMap := match r.rack with
        | none => idle.stock.rackMap
        | some p => put idle.stock.rackMap p (some r.tag)
      materials := put idle.stock.materials 5 (some stone) } }

def yard : State := yardOf slab2250

theorem only_slab {s : State} {r : Slab} (h : s.stock.slabs = put State.reset.stock.slabs 3 (some r))
    (k : Fin 512) (x : Slab) (hx : s.slab k = some x) : k = 3 ∧ x = r := by
  unfold State.slab at hx
  rw [h, slot_put] at hx
  split at hx
  · next e => exact ⟨e.symm, (Option.some.inj hx).symm⟩
  · simp [State.reset, Stock.blank] at hx

theorem slab_named {s : State} {r : Slab} (h : s.stock.slabs = put State.reset.stock.slabs 3 (some r))
    (hr : 1 ≤ r.tag ∧ r.tag ≤ 16777215) : s.tagNames r.tag 3 r :=
  ⟨hr.1, hr.2, by simp [State.slab, h], rfl, fun m x hx _ => (only_slab h m x hx).1⟩

theorem in_service {s : State} {i : Instr} {q : Request} (h : s.port.status = .idle)
    (hq : i.request? = some q) : s.serving i := ⟨q, hq, .inl h⟩

/-- The next state of an outcome. -/
def next? (o : Host.Outcome State Fault Refusal) : Option State :=
  match o with
  | .next t => some t
  | _ => none

/-- The code of the reply a command leaves in the reply buffer. -/
def answered (i : Instr) (s : State) : Option ReplyCode :=
  (next? (exec i s)).bind fun t => t.port.reply.map (·.code)

/-- The pieces of example 2.10 after step 17. -/
def pieces210 : Vector Piece 64 :=
  let v := (Vector.replicate 64 Piece.unused)
  let v := put v 0 (.split ⟨0, 0, 32000, 18000⟩ none)
  let v := put v 1 (.split ⟨0, 0, 32000, 6350⟩ (some ⟨0, 0⟩))
  let v := put v 2 (.split ⟨0, 6385, 32000, 11615⟩ (some ⟨0, 0⟩))
  let v := put v 3 (.leaf ⟨0, 0, 24500, 6350⟩ (some ⟨1, 1⟩) (some (.part 1207 0)))
  let v := put v 4 (.leaf ⟨24535, 0, 7465, 6350⟩ (some ⟨1, 1⟩) (some (.part 1311 0)))
  let v := put v 5 (.split ⟨0, 6385, 32000, 9150⟩ (some ⟨2, 2⟩))
  let v := put v 6 (.leaf ⟨0, 15570, 32000, 2430⟩ (some ⟨2, 2⟩) (some .scrap))
  let v := put v 7 (.leaf ⟨0, 6385, 21000, 9150⟩ (some ⟨5, 3⟩) (some (.part 1207 1)))
  put v 8 (.leaf ⟨21035, 6385, 10965, 9150⟩ (some ⟨5, 3⟩) (some .remnant))

/-- The cuts of example 2.10. -/
def cuts210 : List Cut :=
  [⟨0, .rip, 6350, 32000, 0, 6350, .pending⟩, ⟨1, .cross, 24500, 6350, 24500, 0, .pending⟩,
    ⟨2, .rip, 9150, 32000, 0, 15535, .pending⟩, ⟨5, .cross, 21000, 9150, 21000, 6385, .pending⟩]

/-- Plan 2 of example 2.10 after step 17, OPEN. -/
def laidOut : Plan where
  state := .opened
  slabTag := 2250
  kerf := 35
  station := none
  snapshot := none
  pieces := pieces210
  cuts := cuts210
  cutsDone := 0
  passCount := none
  passDepth := none
  remainingTravel := none
  passesReported := 0
  touched := false
  pool := 0
  poolSaturated := false
  reservedRemnants := 0
  yields := none

/-- The plan after step 18, LOCKED. -/
def locked : Plan :=
  { laidOut with
    state := .locked, snapshot := some ⟨5, stone⟩, reservedRemnants := 1
    yields := some ⟨395127750, 100329750, 77760000, 2782500, 685⟩
    passCount := some 1, remainingTravel := some 79500 }

/-- The plan bound to station 1 with two passes a cut. -/
def boundPlan : Plan :=
  { locked with
    state := .bound, station := some 1, passCount := some 2, passDepth := some 150
    remainingTravel := some 159000 }

def part (target designated : Nat) : JobLine where
  target := target
  delivered := 0
  designated := designated
  materialCents := 0
  processCents := 0

/-- Jobs 1207 and 1311 of example 2.10, designated as after step 17. -/
def jobs210 : Vector (Option Job) 96 :=
  let empty := Vector.replicate 8 (none : Option JobLine)
  put (put (Vector.replicate 96 none) 0
      (some ⟨1207, false, put (put empty 0 (some (part 1 1))) 1 (some (part 1 1)), 0, 0, false⟩))
    1 (some ⟨1311, false, put empty 0 (some (part 2 1)), 0, 0, false⟩)

/-- The stock with plan 2 as given, its slab in the state given and its remnants reserved. -/
def planning (p : Plan) (st : SlabState) : State :=
  { yardOf { slab2250 with
      state := st, holder := some 2, rack := if st = .cutting then none else some 17 } with
    plans := put idle.plans 2 (some p)
    jobs := jobs210
    stock := { (yardOf { slab2250 with
      state := st, holder := some 2, rack := if st = .cutting then none else some 17 }).stock with
      reserved := p.reservedRemnants } }

def blade : Blade where
  serial := 40118
  kerf := 30
  maxPassDepth := 150
  maxDepth := 400
  fittedLife := 60000
  wearRemaining := 6500
  wearCarry := 0
  costPerUnit := 210
  lowMark := 100
  lowRaised := false

/-- A line in use, its transmitter in the idle behind a frame. -/
def openLine : Line :=
  { Line.afterReset with
    enabled := true, assembler := .ready, transmitter := .separatingIdle }

/-- The loop of the factor examples: LIVE, the tanks good, F 1000. -/
def goodWater : Water :=
  { Water.afterReset with
    link := .live, clear := some 500, settling := some 700, meterBaseline := some 65500
    reported := some (Vector.replicate 5 false), staleTimer := some 5000, queryTimer := some 2500 }.withFactors

/-- Station 1 in the given state with plan 2, its order out and its timers running where its state has them. -/
def atStation (st : StationState) : Station :=
  { Station.afterReset with
    state := st, plan := some 2, toggle := true, orderOutstanding := decide (st ≠ .staged)
    sawMode := some .idle, lastFeedLimit := some 1200
    replyTimer := if st.wet then some 500 else none
    silenceTimer := if st.wet then some 3000 else none
    queryTimer := if st.wet then some 1500 else none }

/-- Plan 2 of the examples at station 1 in the given state, the plant LIVE. -/
def cell (st : StationState) : State :=
  let s := planning { boundPlan with touched := decide (st ≠ .staged) }
    (if st = .staged then .held else .cutting)
  { s with
    stations := put s.stations 1 (atStation st)
    lines := put (put s.lines 1 openLine) 4 openLine
    blades := put s.blades 1 (some blade)
    water := { goodWater with commanded := put goodWater.commanded 2 st.wet } }

/-- The cell with station 1's record changed. -/
def cellWith (st : StationState) (f : Station → Station) : State :=
  (cell st).setStation 1 (f (atStation st))

/-! ### Ill-formed commands: each field one above what its bytes carry (R189, R190) -/

/-- No command of the list is well formed. -/
def noneFits (is : List Instr) : Bool := is.all fun i => !i.wellFormed

theorem test_illFormed_admitSlab : noneFits [.admitSlab 0 16777216 0 0 0 0 0 0,
    .admitSlab 0 0 256 0 0 0 0 0, .admitSlab 0 0 0 65536 0 0 0 0, .admitSlab 0 0 0 0 65536 0 0 0,
    .admitSlab 0 0 0 0 0 65536 0 0, .admitSlab 0 0 0 0 0 0 16777216 0,
    .admitSlab 0 0 0 0 0 0 0 256] = true := by decide

theorem test_illFormed_readSlab : noneFits [.readSlab 0 16777216] = true := by decide

theorem test_illFormed_listStock : noneFits [.listStock 0 65536 0 0, .listStock 0 0 256 0,
    .listStock 0 0 0 256] = true := by decide

theorem test_illFormed_findSlab : noneFits [.findSlab 0 256 0 0 0, .findSlab 0 0 65536 0 0,
    .findSlab 0 0 0 65536 0, .findSlab 0 0 0 0 65536] = true := by decide

theorem test_illFormed_moveSlab : noneFits [.moveSlab 0 16777216 0, .moveSlab 0 0 256] = true := by decide

theorem test_illFormed_amendSlab : noneFits [.amendSlab 0 16777216 0 0 0, .amendSlab 0 0 65536 0 0,
    .amendSlab 0 0 0 65536 0, .amendSlab 0 0 0 0 16777216] = true := by decide

theorem test_illFormed_retireSlab : noneFits [.retireSlab 0 16777216 0,
    .retireSlab 0 0 256] = true := by decide

theorem test_illFormed_setMaterial : noneFits [.setMaterial 0 256 0 0 0 0 0 0 0 0,
    .setMaterial 0 0 256 0 0 0 0 0 0 0, .setMaterial 0 0 0 65536 0 0 0 0 0 0,
    .setMaterial 0 0 0 0 65536 0 0 0 0 0, .setMaterial 0 0 0 0 0 65536 0 0 0 0,
    .setMaterial 0 0 0 0 0 0 256 0 0 0, .setMaterial 0 0 0 0 0 0 0 65536 0 0,
    .setMaterial 0 0 0 0 0 0 0 0 65536 0, .setMaterial 0 0 0 0 0 0 0 0 0 65536] = true := by decide

theorem test_illFormed_clearMaterial : noneFits [.clearMaterial 0 256] = true := by decide

theorem test_illFormed_readMaterial : noneFits [.readMaterial 0 256] = true := by decide

theorem test_illFormed_openPlan : noneFits [.openPlan 0 16777216 0, .openPlan 0 0 256] = true := by decide

theorem test_illFormed_addCut : noneFits [.addCut 0 256 0 0 0, .addCut 0 0 256 0 0, .addCut 0 0 0 256 0,
    .addCut 0 0 0 0 65536] = true := by decide

theorem test_illFormed_undoCut : noneFits [.undoCut 0 256] = true := by decide

theorem test_illFormed_lockPlan : noneFits [.lockPlan 0 256] = true := by decide

theorem test_illFormed_unlockPlan : noneFits [.unlockPlan 0 256] = true := by decide

theorem test_illFormed_dropPlan : noneFits [.dropPlan 0 256] = true := by decide

theorem test_illFormed_abandonPlan : noneFits [.abandonPlan 0 256] = true := by decide

theorem test_illFormed_markPiece : noneFits [.markPiece 0 256 0 0 0 0, .markPiece 0 0 256 0 0 0,
    .markPiece 0 0 0 256 0 0, .markPiece 0 0 0 0 65536 0, .markPiece 0 0 0 0 0 256] = true := by decide

theorem test_illFormed_readPlan : noneFits [.readPlan 0 256 0, .readPlan 0 0 256] = true := by decide

theorem test_illFormed_readLine : noneFits [.readLine 0 256] = true := by decide

theorem test_illFormed_attachStation : noneFits [.attachStation 0 256] = true := by decide

theorem test_illFormed_detachStation : noneFits [.detachStation 0 256] = true := by decide

theorem test_illFormed_stopStation : noneFits [.stopStation 0 256] = true := by decide

theorem test_illFormed_resumeStation : noneFits [.resumeStation 0 256] = true := by decide

theorem test_illFormed_readStation : noneFits [.readStation 0 256] = true := by decide

theorem test_illFormed_removeBlade : noneFits [.removeBlade 0 256] = true := by decide

theorem test_illFormed_readBlade : noneFits [.readBlade 0 256] = true := by decide

theorem test_illFormed_startPlan : noneFits [.startPlan 0 256 0, .startPlan 0 0 256] = true := by decide

theorem test_illFormed_fitBlade : noneFits [.fitBlade 0 256 0 0 0 0 0 0 0 0,
    .fitBlade 0 0 16777216 0 0 0 0 0 0 0, .fitBlade 0 0 0 256 0 0 0 0 0 0,
    .fitBlade 0 0 0 0 65536 0 0 0 0 0, .fitBlade 0 0 0 0 0 65536 0 0 0 0,
    .fitBlade 0 0 0 0 0 0 16777216 0 0 0, .fitBlade 0 0 0 0 0 0 0 65536 0 0,
    .fitBlade 0 0 0 0 0 0 0 0 65536 0, .fitBlade 0 0 0 0 0 0 0 0 0 16777216] = true := by decide

theorem test_illFormed_resetPeriod : noneFits [.resetPeriod 0 4294967296] = true := by decide

theorem test_illFormed_setWater : noneFits [.setWater 0 65536 0 0 0 0 0 0 0 0,
    .setWater 0 0 65536 0 0 0 0 0 0 0, .setWater 0 0 0 65536 0 0 0 0 0 0,
    .setWater 0 0 0 0 65536 0 0 0 0 0, .setWater 0 0 0 0 0 16777216 0 0 0 0,
    .setWater 0 0 0 0 0 0 16777216 0 0 0, .setWater 0 0 0 0 0 0 0 16777216 0 0,
    .setWater 0 0 0 0 0 0 0 0 65536 0, .setWater 0 0 0 0 0 0 0 0 0 256] = true := by decide

theorem test_illFormed_openJob : noneFits [.openJob 0 65536] = true := by decide

theorem test_illFormed_readJob : noneFits [.readJob 0 65536] = true := by decide

theorem test_illFormed_closeJob : noneFits [.closeJob 0 65536] = true := by decide

theorem test_illFormed_retireJob : noneFits [.retireJob 0 65536] = true := by decide

theorem test_illFormed_setLine : noneFits [.setLine 0 65536 0 0, .setLine 0 0 256 0,
    .setLine 0 0 0 256] = true := by decide

theorem test_illFormed_setNotice : noneFits [.setNotice 0 256 0 0, .setNotice 0 0 256 0,
    .setNotice 0 0 0 256] = true := by decide

theorem test_illFormed_mapLines :
    (List.finRange 5).all (fun u =>
      !(Instr.mapLines 0 (put (Vector.replicate 5 0) u 256)).wellFormed) = true := by
  decide +kernel

theorem test_illFormed_setSettings :
    [{ Settings.blank with stationRate := put Settings.blank.stationRate 3 16777216 },
      { Settings.blank with progressInterval := put Settings.blank.progressInterval 3 256 },
      { Settings.blank with replyTimeout := 65536 }, { Settings.blank with silenceLimit := 65536 },
      { Settings.blank with feedStep := 65536 }, { Settings.blank with badFrameLimit := 256 },
      { Settings.blank with rateDivisor := put Settings.blank.rateDivisor 4 65536 },
      { Settings.blank with staleLimit := 65536 }, { Settings.blank with pressStartTimeout := 65536 },
      { Settings.blank with valveSettleTime := 65536 }, { Settings.blank with waterRate := 16777216 },
      { Settings.blank with freshRate := 16777216 }].all
      (fun r => !(Instr.setSettings 0 r).wellFormed) = true := by
  decide +kernel

theorem test_illFormed_reports :
    noneFits [.accept 0 false false 256, .pass 0 false false 256 0 0, .pass 0 false false 0 256 0,
      .pass 0 false false 0 0 65536, .finish 0 false false 256, .state 0 false false 256 0 0,
      .state 0 false false 0 256 0, .state 0 false false 0 0 256, .fault 0 false false 256 0,
      .fault 0 false false 0 256, .pressState 0 false false 256 0, .pressState 0 false false 0 16777216,
      .levels 0 false false ⟨65536, 0, 0, Vector.replicate 4 0, 0⟩,
      .levels 0 false false ⟨0, 65536, 0, Vector.replicate 4 0, 0⟩,
      .levels 0 false false ⟨0, 0, 65536, Vector.replicate 4 0, 0⟩,
      .levels 0 false false ⟨0, 0, 0, #v[0, 0, 0, 256], 0⟩] = true := by
  decide +kernel

theorem test_illFormed_poll : noneFits [.pollTransfer ⟨161, 0, 0⟩] = true := by decide

/-! ### The spec's worked examples -/

/-- Example 11.6.2: the frame of PASS, cut 0, pass 1, 410 seconds, toggle 1. -/
theorem test_passFrame : (Message.pass 0 1 410).frame true = [73, 4, 0, 1, 154, 1, 23]
    ∧ decodeFrame [73, 4, 0, 1, 154, 1, 23] = some (true, .pass 0 1 410)
    ∧ decodeFrame [73, 4, 0, 1, 155, 1, 23] = none := by decide +kernel

/-- R190 and 11.6.1: byte order of the fields of LEVELS and PRESS_STATE, from hand calculation. -/
theorem test_plantFrames :
    (Message.levels ⟨280, 700, 10536, #v[0, 40, 0, 0], 4⟩).payload = [24, 1, 188, 2, 40, 41, 0, 40, 0, 0, 4]
    ∧ (Message.pressState 2 21400).frame false = [14, 4, 2, 152, 83, 0, 1] := by decide +kernel

/-- R169 and R189: a READ_SLAB frame of tag 2250 with echo 65, from hand calculation. -/
theorem test_requestFrame : (Instr.readSlab 65 2250).request?.map Request.frame
    = some [17, 65, 3, 0, 202, 8, 0, 217] := by decide +kernel

/-- Example 9.13: a SEND while a reply waits is ignored whole; a damaged frame is answered BAD_CHECK. -/
theorem test_sendExample :
    (next? (exec (.send ⟨0, [17, 65, 3, 0, 202, 8, 0, 217]⟩)
        { idle with port := idle.port.replied 65 .ok [37, 0] })).map (fun t => (t.port.status, t.port.sdo))
      = some (.reply, List.replicate 9 195)
    ∧ answered (.send ⟨0, [17, 66, 3, 0, 203, 8, 0, 216]⟩) idle = some .badCheck := by decide +kernel

/-- Example 9.13, steps 7 and 8: a FETCH cut short keeps the reply, a whole one empties the buffer. -/
theorem test_fetchExample :
    (next? (exec (.fetch ⟨0, 2⟩) { idle with port := idle.port.replied 65 .ok [37, 0] })).map
        (fun t => (t.port.status, t.port.sdo)) = some (.reply, [195, 0, 65])
    ∧ (next? (exec (.fetch ⟨0, 8⟩) { idle with port := idle.port.replied 65 .ok [37, 0] })).map
        (fun t => (t.port.status, t.port.sdo)) = some (.idle, [195, 0, 65, 2, 0, 37, 0, 152, 255]) := by
  decide +kernel

/-- R168: a poll that SSEL_N holds low while the reply is built gives WORKING before it and REPLY behind it; a FETCH
that met WORKING when SSEL_N fell takes no reply; a SEND that met IDLE in its operation byte is decided so. -/
theorem test_statusWithinTransfer :
    (next? (exec (.pollTransfer ⟨0, 2, 3⟩) { idle with port := idle.port.replied 65 .ok [37, 0] })).map
        (fun t => t.port.sdo) = some [194, 194, 195, 195]
    ∧ (next? (exec (.fetch ⟨1, 2⟩) { idle with port := idle.port.replied 65 .ok [37, 0] })).map
        (fun t => (t.port.sdo, t.port.reply.isSome)) = some ([194, 195, 195], true)
    ∧ (next? (exec (.pollTransfer ⟨162, 0, 2⟩) { idle with port := idle.port.replied 65 .ok [37, 0] })).map
        (fun t => t.port.sdo) = some [195, 0, 65]
    ∧ (next? (exec (.send ⟨0, [98, 9, 0, 0, 149]⟩) { idle with port := { idle.port with before := some .starting } })).map
        (fun t => (t.port.status, t.port.sdo)) = some (.working, List.replicate 6 193)
    ∧ (next? (exec (.send ⟨1, [98, 9, 0, 0, 149]⟩) { idle with port := { idle.port with before := some .starting } })).map
        (fun t => (t.port.status, t.port.sdo)) = some (.idle, [192, 193, 193, 193, 193, 193]) := by decide +kernel

/-- R52 to R54: a start check with one of its three samples at 1 verifies with a noise mark; one with two at 1 is a
false start; 160 samples at 0 without four at 1 before are a break character, 160 at 1 an idle run, also where a false
start or a character has the first of them. -/
theorem test_startCheck :
    let s := { idle with lines := put idle.lines 1 openLine }
    let after (xs : List Bool) := (next? (exec (.startBitVerified 1 xs) s)).map fun t => t.line 1
    ((after [true, true, true, true, false, true, false, true, false]).map (·.receiver) = some (.inCharacter true))
    ∧ (after [true, true, true, true, false, false, true, true, false]).map (·.receiver) = some .startSearch
    ∧ (after (List.replicate 159 false)).map (fun x => (x.receiver, x.breakRun)) = some (.search 0 159, false)
    ∧ (after (List.replicate 160 false)).map (fun x => (x.receiver, x.breakRun)) = some (.startSearch, true)
    ∧ (after (List.replicate 160 false ++ List.replicate 160 true)).map (fun x => (x.receiver, x.breakRun))
      = some (.search 4 0, false)
    ∧ (after (List.replicate 160 false ++ List.replicate 4 true ++ false :: List.replicate 159 true)).map (·.breakRun)
      = some true
    ∧ (after (List.replicate 160 false ++ List.replicate 4 true ++ false :: List.replicate 160 true)).map (·.breakRun)
      = some false
    ∧ (onesRun 0 (CharSamples.clean 255).samples = 137 ∧ onesRun 160 (CharSamples.clean 24).samples = 9
      ∧ onesRun 12 { CharSamples.clean 255 with start := BitVec.allOnes 11 }.samples = 160) := by decide +kernel

/-- R61 and R190: the QUERY frame 132, 0, 124 on LTXn, bit time by bit time, and the pin of a disabled line. -/
theorem test_transmitPin :
    let s := { idle with lines := put idle.lines 1 { openLine with transmitter := .sending ⟨false, .query⟩ } }
    (List.range 31).map (fun bit => s.transmitPin 1 bit)
      = ([false, false, false, true, false, false, false, false, true, true]
        ++ [false, false, false, false, false, false, false, false, false, true]
        ++ [false, false, false, true, true, true, true, true, false, true] ++ [true]).map some
    ∧ s.transmitPin 0 0 = none := by decide +kernel

/-- 11.4 and assumption 17: the block of a SCRAP leaf, and of an UNUSED piece, which is zeros. -/
theorem test_pieceBlock :
    (Piece.leaf ⟨0, 256, 1, 2⟩ (some ⟨2, 3⟩) (some .scrap)).block 6
      = [6, 1, 0, 0, 0, 1, 1, 0, 2, 0, 2, 3, 3, 0, 0, 255]
    ∧ (Piece.leaf ⟨0, 256, 1, 2⟩ none (some (.part 1207 0))).block 0
      = [0, 1, 0, 0, 0, 1, 1, 0, 2, 0, 255, 255, 1, 183, 4, 1]
    ∧ Piece.unused.block 63 = 63 :: List.replicate 15 0 := by decide +kernel

/-- R170 to R172 and assumption 3: a SEND command leaves the frame waiting, and the request command behind it
is its service. -/
theorem test_sendThenService :
    ((next? (exec (.send ⟨0, [98, 9, 0, 0, 149]⟩) idle)).map (fun t => (t.port.status, t.port.request))
      = some (.working, some ⟨98, 9, []⟩))
    ∧ ((next? (exec (.send ⟨0, [98, 9, 0, 0, 149]⟩) idle)).bind
        (fun t => (next? (exec (.readDevice 9) t)).map (fun u => (u.port.status, u.port.request)))
      = some (.reply, none)) := by decide +kernel

/-- Example 1.5.1: the fits, and the ties in area settled by kind and then by cost basis. -/
theorem test_findSlabTies :
    fitOf false 30000 18000 11000 9000 = some .direct ∧ fitOf false 10965 9150 11000 9000 = none
    ∧ fitOf false 9500 12000 11000 9000 = some .rotated ∧ fitOf true 9500 12000 11000 9000 = none
    ∧ ({ slab2250 with kind := .remnant, length := 9500, width := 12000, cost := 11200 } : Slab).betterThan
        { slab2250 with kind := .remnant, length := 12000, width := 9500, cost := 11500 } = true
    ∧ ({ slab2250 with kind := .full, length := 12000, width := 9500, cost := 9000 } : Slab).betterThan
        { slab2250 with kind := .remnant, length := 9500, width := 12000, cost := 11200 } = false := by
  decide +kernel

/-- Example 2.10, steps 2 and 3: the geometry of a RIP and a CROSS. -/
theorem test_cutGeometry :
    cutGeometry .rip 35 6350 ⟨0, 0, 32000, 18000⟩
      = ⟨⟨0, 0, 32000, 6350⟩, ⟨0, 6385, 32000, 11615⟩, 32000, 0, 6350⟩
    ∧ cutGeometry .cross 35 24500 ⟨0, 0, 32000, 6350⟩
      = ⟨⟨0, 0, 24500, 6350⟩, ⟨24535, 0, 7465, 6350⟩, 6350, 24500, 0⟩ := by decide +kernel

/-- Example 2.10, steps 4, 5, 13, 15 and 16: the refusals. -/
theorem test_planRefusals :
    answered (.addCut 7 2 0 1 10000) (planning laidOut .held) = some .notLeaf
    ∧ answered (.addCut 7 2 6 0 2300)
        (planning { laidOut with pieces := put pieces210 6 (.leaf ⟨0, 15570, 32000, 2430⟩ none none) } .held)
      = some .sliver
    ∧ answered (.markPiece 7 2 4 1 1207 1) (planning laidOut .held) = some .lineFull
    ∧ answered (.markPiece 7 2 6 2 0 0) (planning laidOut .held) = some .tooSmall
    ∧ answered (.lockPlan 7 2)
        (planning { laidOut with pieces := put pieces210 6 (.leaf ⟨0, 15570, 32000, 2430⟩ none none) } .held)
      = some .undesignated := by decide +kernel

/-- Example 2.10, step 18: the yield figures, the remnants and the travel. -/
theorem test_lockPlan : (next? (exec (.lockPlan 7 2) (planning laidOut .held))).map
    (fun t => (t.plan 2, t.stock.reserved)) = some (some locked, 1) := by decide +kernel

/-- Example 5.4: the derivation of the passes and the wear of two PASSes. -/
theorem test_bladeWear : passCountFor 200 150 = 2 ∧ passDepthFor 200 2 = 100
    ∧ blade.wearUnits 24100 100 24 = 361 ∧ (blade.worn 24100 100 24).wearCarry = 80000
    ∧ ((blade.worn 24100 100 24).worn 24100 100 24).wearRemaining = 5777
    ∧ (blade.worn 24100 100 24).turnsLow = false
    ∧ ((blade.worn 24100 100 24).worn 24100 100 24).turnsLow = true := by decide +kernel

/-- Example 6.4.1: the solids of the first PASSes of plan 2. -/
theorem test_solids :
    (({ idle with water := { goodWater with kept := { goodWater.kept with solids := 29200 } } }.addSolids
      32000 35 150 265).water.kept.solids = 29645)
    ∧ (({ idle with water := { goodWater with kept :=
          { goodWater.kept with solids := 29645, solidsCarry := 20000000 } } }.addSolids
      32000 35 150 265).water.press = .requested) := by decide +kernel

def levelsOf (clear settling solids : Nat) : Nat × Nat × Nat × Nat :=
  let w := { goodWater with
    clear := some clear, settling := some settling
    kept := { goodWater.kept with solids := solids } }.withFactors
  (w.fClear, w.fSettle, w.fSolids, w.factor)

/-- Example 6.8.1: the six factor cases. -/
theorem test_factorCases :
    levelsOf 290 700 38000 = (560, 1000, 1000, 560) ∧ levelsOf 270 700 38000 = (480, 1000, 1000, 480)
    ∧ levelsOf 150 700 38000 = (0, 1000, 1000, 0) ∧ levelsOf 280 700 38000 = (520, 1000, 1000, 520)
    ∧ levelsOf 160 900 55000 = (200, 500, 250, 200) ∧ levelsOf 420 950 20000 = (1000, 0, 1000, 0) := by
  decide +kernel

/-- The plant's line open, the press and make-up of example 6.6.1. -/
def loop661 (used meter : Nat) (opened : Bool) : State :=
  { idle with
    lines := put idle.lines 4 openLine
    settings := { idle.settings with freshRate := 150 }
    water := { goodWater with
      meterBaseline := some meter, commanded := put goodWater.commanded 0 opened
      kept := { goodWater.kept with periodUsed := used, allowance := some 2000 } } }

/-- R115: a meter that wraps from 65,500 to 30 has run 66 litres. Example 6.6.1, third and fourth LEVELS. -/
theorem test_levels :
    (next? (exec (.levels 4 false false ⟨500, 700, 30, #v[0, 0, 0, 0], 0⟩)
        { idle with lines := put idle.lines 4 openLine, water := goodWater })).map
      (fun t => t.water.kept.periodUsed) = some 66
    ∧ (next? (exec (.levels 4 false false ⟨370, 700, 10530, #v[0, 0, 0, 0], 1⟩) (loop661 1980 10490 true))).map
      (fun t => (t.water.kept.periodUsed, slot t.water.commanded 0, t.overhead.processTotal, t.overhead.carry,
        (slot t.notices.sources allowanceSource).pending.isSome)) = some (2020, false, 6, 0, true)
    ∧ (next? (exec (.levels 4 false false ⟨280, 700, 10536, #v[0, 0, 0, 0], 0⟩) (loop661 2020 10530 false))).map
      (fun t => (t.water.kept.periodUsed, slot t.water.commanded 0, t.overhead.processTotal, t.overhead.carry))
        = some (2026, false, 0, 900) := by decide +kernel

/-- Example 4.10 and case C of 6.8.1: a clear level at the hold level holds the cutting station. -/
theorem test_waterHold :
    (next? (exec (.levels 4 false false ⟨150, 700, 65500, #v[0, 0, 0, 0], 4⟩) (cell .cutting))).map
      (fun t => ((t.station 1).state, (t.station 1).condition, (t.line 1).queue, t.water.factor))
    = some (.holding, .waterHold, [⟨true, .hold⟩], 0) := by decide +kernel

/-- Example 7.6: the remnant's basis, the rounded pool and the shares of the parts. -/
theorem test_closeShares :
    remnantBasis 84000 100329750 192 576000000 = 10973 ∧ poolCents 2358605 = 2359
    ∧ shares 73027 [155575000, 47402750, 192150000] = [28753, 8761, 35513]
    ∧ shares 2359 [155575000, 47402750, 192150000] = [929, 283, 1147] := by decide +kernel

/-- Example 7.6, step 6: what the job lines hold after the close. -/
theorem test_closeBookings :
    let s := (cell .cutting).bookClose { boundPlan with pool := 2358605 } 73027
    s.jobLine 1207 0 = some ⟨1, 1, 0, 28753, 929⟩ ∧ s.jobLine 1207 1 = some ⟨1, 1, 0, 35513, 1147⟩
      ∧ s.jobLine 1311 0 = some ⟨2, 1, 0, 8761, 283⟩
      ∧ (s.job 0).map (fun j => (j.materialTotal, j.processTotal)) = some (64266, 2076) := by decide +kernel

/-- Example 7.7.1: the write-off of an abandoned plan. -/
theorem test_abandon :
    (next? (exec (.abandonPlan 7 2) (({ cellWith .paused id with
        overhead := ⟨120000, 3500, 900, false⟩ }).updatePlan 2 fun p => { p with pool := 1054000 }))).map
      (fun t => (t.overhead, t.stock.reserved, (t.jobLine 1207 0).map (·.designated), (t.slab 3).isSome,
        (t.plan 2).isSome))
    = some (⟨204000, 4554, 900, false⟩, 0, some 0, false, false) := by decide +kernel

/-- Example 3.4.1, steps 1 and 2: a FEED takes the place of the old one, a HOLD goes ahead and withdraws it. -/
theorem test_holdOvertakes :
    queueFrame [⟨true, .feed 900⟩, ⟨true, .query⟩] ⟨true, .feed 840⟩ = [⟨true, .feed 840⟩, ⟨true, .query⟩]
    ∧ queueFrame [⟨true, .feed 840⟩, ⟨true, .query⟩] ⟨true, .hold⟩ = [⟨true, .hold⟩, ⟨true, .query⟩] := by
  decide +kernel

/-- Example 1.3.1: the remnant counter advances with wrap. -/
theorem test_nextTag : nextTag 16777214 = 16777215 ∧ nextTag 16777215 = 8388608 ∧ nextTag 8388609 = 8388610 := by
  decide

/-- Notice sources 13 and 21 of example 10.5 pending, and what else is given. -/
def notices105 (pending : List (Fin 24)) (floors : List Nat) : State :=
  { idle with
    notices :=
      { sources := Vector.ofFn fun i =>
          { slot idle.notices.sources i with
            pending := if i ∈ pending then some ⟨.bladeLow 1 7 500, 1⟩ else none }
        floors := floors } }

/-- Example 10.5, steps 1, 6 and 7: source 21 pushes floor 2; source 2 passes floor 3 with no push; then NONE. -/
theorem test_nextNotice :
    (next? (exec (.nextNotice 7) (notices105 [13, 21] []))).map
        (fun t => (t.notices.floors, t.noticeAsserted)) = some ([2], false)
    ∧ (next? (exec (.nextNotice 7) (notices105 [13, 5, 2] [3, 2]))).map
        (fun t => (t.notices.floors, (slot t.notices.sources 2).pending, t.noticeAsserted))
      = some ([3, 2], none, false)
    ∧ (next? (exec (.nextNotice 7) (notices105 [13, 5] [3, 2]))).map (fun t => t.port.reply)
      = some (some ⟨.nothing, 7, [2]⟩) := by decide +kernel

/-- Example 10.5, steps 8 and 14. -/
theorem test_noticeDone :
    (next? (exec (.noticeDone 7) (notices105 [13, 5] [3, 2]))).map
        (fun t => (t.notices.floors, t.noticeAsserted, t.port.reply))
      = some ([2], true, some ⟨.ok, 7, [2, 1]⟩)
    ∧ answered (.noticeDone 7) (notices105 [] []) = some .nothingOpen := by decide +kernel

/-- R178: the Line Map of a blank array in the reply of READ_SETTINGS; no row of the opcode table gives bits. -/
theorem test_readSettings :
    (next? (exec (.readSettings 7) idle)).map (fun t => t.port.reply.map fun r => r.fields.drop 45)
      = some (some [0, 1, 2, 3, 4])
    ∧ decodeTableWord 8 16 = none := by decide +kernel

/-! ### Witnesses: states and operands that meet the hypotheses of the statements, clause by clause -/

/-- The plan as OPEN_PLAN makes it: one leaf, the whole slab, no cut. -/
def whole : Plan :=
  { laidOut with
    pieces := put (Vector.replicate 64 .unused) 0 (.leaf ⟨0, 0, 32000, 18000⟩ none none), cuts := [] }

/-- Piece 6 of example 2.10 not yet designated. -/
def undesignated : Plan :=
  { laidOut with pieces := put pieces210 6 (.leaf ⟨0, 15570, 32000, 2430⟩ (some ⟨2, 2⟩) none) }

theorem other_tag {s : State} {r : Slab} {tag : Nat}
    (h : s.stock.slabs = put State.reset.stock.slabs 3 (some r)) (ht : r.tag ≠ tag) (k : Fin 512) (x : Slab)
    (hx : s.slab k = some x) : x.tag ≠ tag := by
  rw [(only_slab h k x hx).2]; exact ht

theorem witness_AdmitSlab_taken :
    yard.serving (.admitSlab 7 8388607 5 40000 24000 600 9999999 119)
    ∧ (1 ≤ 8388607 ∧ yard.material 5 = some stone
      ∧ (some (119 : Fin 120) = none ∧ 119 = 255 ∨ ∃ p : Fin 120, some (119 : Fin 120) = some p ∧ 119 = p.val))
    ∧ (∀ k r, yard.slab k = some r → r.tag ≠ 8388607) ∧ yard.liveSlabs + yard.stock.reserved < 512
    ∧ yard.slab 0 = none ∧ (∀ k, k < 0 → yard.slab k ≠ none)
    ∧ (∀ p, some (119 : Fin 120) = some p → slot yard.stock.rackMap p = none) :=
  ⟨in_service rfl rfl, by decide +kernel, other_tag rfl (by decide), by decide +kernel, by decide +kernel,
    fun k h => absurd h (Fin.not_lt_zero k), by decide +kernel⟩

/-- One clause each: a live tag, a full table, a filled position. -/
theorem witness_AdmitSlab_refused :
    yard.serving (.admitSlab 7 2250 5 1000 1000 100 0 17) ∧ yard.material 5 = some stone
    ∧ (∃ k r, yard.slab k = some r ∧ r.tag = 2250)
    ∧ (∀ k r, yard.slab k = some r → r.tag ≠ 1)
    ∧ 512 ≤ (yard.setReserved 511).liveSlabs + (yard.setReserved 511).stock.reserved
    ∧ yard.liveSlabs + yard.stock.reserved < 512
    ∧ ∃ p x, some (17 : Fin 120) = some p ∧ slot yard.stock.rackMap p = some x :=
  ⟨in_service rfl rfl, by decide +kernel, ⟨3, slab2250, by decide +kernel, rfl⟩, other_tag rfl (by decide),
    by decide +kernel, by decide +kernel, 17, 2250, rfl, by decide +kernel⟩

theorem witness_NumbersAreChecked :
    yard.serving (.readSlab 7 0) ∧ yard.serving (.retireSlab 7 16777216 0)
    ∧ (yard.serving (.moveSlab 7 16777215 255) ∧ ∀ k r, yard.slab k = some r → r.tag ≠ 16777215)
    ∧ (31 < 32 ∧ yard.serving (.readMaterial 7 32) ∧ 3 < 4 ∧ yard.serving (.stopStation 7 4))
    ∧ (yard.serving (.undoCut 7 12) ∧ yard.serving (.undoCut 7 11) ∧ yard.plan 11 = none)
    ∧ ((planning laidOut .held).serving (.unlockPlan 7 2) ∧ (planning laidOut .held).plan 2 = some laidOut
      ∧ ¬ laidOut.state = .locked)
    ∧ (yard.serving (.readJob 7 0) ∧ yard.serving (.closeJob 7 65536) ∧ yard.serving (.retireJob 7 65535)
      ∧ ∀ n, ∀ j ∈ yard.job n, j.number ≠ 65535) :=
  ⟨in_service rfl rfl, in_service rfl rfl, ⟨in_service rfl rfl, other_tag rfl (by decide)⟩,
    ⟨by decide, in_service rfl rfl, by decide, in_service rfl rfl⟩,
    ⟨in_service rfl rfl, in_service rfl rfl, by decide +kernel⟩,
    ⟨in_service rfl rfl, by decide +kernel, by decide⟩,
    in_service rfl rfl, in_service rfl rfl, in_service rfl rfl, by decide +kernel⟩

theorem witness_StockAndPlanReads :
    (yard.serving (.readSlab 7 2250) ∧ yard.tagNames 2250 3 slab2250)
    ∧ (yard.serving (.listStock 7 3 5 0) ∧ yard.slab 3 = some slab2250
      ∧ (5 ≠ 255 → slab2250.material.val = 5) ∧ (0 ≠ 255 → slab2250.state.code = 0)
      ∧ ∀ k x, 3 ≤ k.val → k < 3 → yard.slab k = some x →
        ¬((5 ≠ 255 → x.material.val = 5) ∧ (0 ≠ 255 → x.state.code = 0)))
    ∧ (yard.serving (.listStock 7 512 255 255) ∧ ∀ k x, 512 ≤ k.val → yard.slab k = some x →
        ¬((255 ≠ 255 → x.material.val = 255) ∧ (255 ≠ 255 → x.state.code = 255)))
    ∧ (yard.serving (.readMaterial 7 5) ∧ yard.material 5 = some stone)
    ∧ ((planning laidOut .held).serving (.readPlan 7 2 63) ∧ (planning laidOut .held).plan 2 = some laidOut) :=
  ⟨⟨in_service rfl rfl, slab_named (r := slab2250) rfl (by decide)⟩,
    ⟨in_service rfl rfl, by decide +kernel, by decide, by decide, fun k x h1 h2 => by omega⟩,
    ⟨in_service rfl rfl, fun k x h => by omega⟩,
    ⟨in_service rfl rfl, by decide +kernel⟩, in_service rfl rfl, by decide +kernel⟩

/-- Rack position 120, a length of 999 and reason 2; a CUTTING record; the position of another slab. -/
theorem witness_MoveAmendRetire_refused :
    (yard.serving (.moveSlab 7 2250 120) ∧ yard.serving (.amendSlab 7 2250 999 1000 0)
      ∧ yard.serving (.retireSlab 7 2250 2))
    ∧ ((cell .cutting).serving (.moveSlab 7 2250 255) ∧ (cell .cutting).serving (.amendSlab 7 2250 1000 1000 0)
      ∧ (cell .cutting).serving (.retireSlab 7 2250 0)
      ∧ (cell .cutting).tagNames 2250 3 { slab2250 with state := .cutting, holder := some 2, rack := none })
    ∧ (let s := yard.rackAt (some 119) (some 2251);
      s.serving (.moveSlab 7 2250 119) ∧ s.tagNames 2250 3 slab2250 ∧ slot s.stock.rackMap 119 = some 2251
        ∧ 2251 ≠ slab2250.tag) :=
  ⟨⟨in_service rfl rfl, in_service rfl rfl, in_service rfl rfl⟩,
    ⟨in_service rfl rfl, in_service rfl rfl, in_service rfl rfl,
      slab_named (r := { slab2250 with state := .cutting, holder := some 2, rack := none }) rfl (by decide)⟩,
    in_service rfl rfl, slab_named (r := slab2250) rfl (by decide), by decide +kernel, by decide⟩

/-- A need one beyond the slab's length fits nothing; at its length it fits the one candidate. -/
theorem witness_FindSlab :
    (yard.serving (.findSlab 7 5 300 32001 1) ∧ yard.material 5 = some stone
      ∧ ∀ k x, yard.slab k = some x → ¬ x.findsFit 5 stone.veined 300 32001 1)
    ∧ yard.serving (.findSlab 7 5 300 32000 18000) ∧ yard.slab 3 = some slab2250
      ∧ slab2250.findsFit 5 stone.veined 300 32000 18000
      ∧ ∀ k x, yard.slab k = some x → x.findsFit 5 stone.veined 300 32000 18000 → k = 3 ∧ x = slab2250 :=
  ⟨⟨in_service rfl rfl, by decide +kernel, fun k x h => by
      rw [(only_slab (r := slab2250) rfl k x h).2]; unfold Slab.findsFit; decide⟩,
    in_service rfl rfl, by decide +kernel, by unfold Slab.findsFit; decide,
    fun k x h _ => only_slab rfl k x h⟩

theorem witness_MoveAmendRetire :
    yard.tagNames 2250 3 slab2250 ∧ slab2250.state ≠ .cutting ∧ slab2250.state = .available
    ∧ yard.serving (.moveSlab 7 2250 17) ∧ some (17 : Fin 120) = slab2250.rack
    ∧ (∀ p x, some (17 : Fin 120) = some p → slot yard.stock.rackMap p = some x → x = 2250)
    ∧ yard.serving (.moveSlab 7 2250 255) ∧ (none : Option (Fin 120)) ≠ slab2250.rack
    ∧ yard.serving (.amendSlab 7 2250 1000 24000 9999999)
    ∧ yard.serving (.retireSlab 7 2250 0) ∧ yard.serving (.retireSlab 7 2250 1) :=
  ⟨slab_named (r := slab2250) rfl (by decide), by decide, by decide, in_service rfl rfl, rfl, by
      intro p x hp hx
      obtain rfl : p = 17 := (Option.some.inj hp).symm
      have e : slot yard.stock.rackMap 17 = some 2250 := by decide +kernel
      exact (Option.some.inj (e.symm.trans hx)).symm,
    in_service rfl rfl, by decide, in_service rfl rfl, in_service rfl rfl, in_service rfl rfl⟩

theorem witness_Materials :
    yard.serving (.setMaterial 7 31 1 0 65535 0 0 0 0 65535)
    ∧ (yard.serving (.clearMaterial 7 0) ∧ yard.material 0 = none)
    ∧ (yard.serving (.clearMaterial 7 5) ∧ yard.material 5 ≠ none ∧ ∃ k r, yard.slab k = some r ∧ r.material = 5)
    ∧ ((yard.setMaterial 31 (some stone)).serving (.clearMaterial 7 31)
      ∧ (yard.setMaterial 31 (some stone)).material 31 ≠ none
      ∧ ∀ k r, (yard.setMaterial 31 (some stone)).slab k = some r → r.material ≠ 31) :=
  ⟨in_service rfl rfl, ⟨in_service rfl rfl, by decide +kernel⟩,
    ⟨in_service rfl rfl, by decide +kernel, 3, slab2250, by decide +kernel, rfl⟩,
    in_service rfl rfl, by decide +kernel, fun k r h => by
      rw [(only_slab (r := slab2250) rfl k r h).2]; decide⟩

theorem witness_OpenPlan :
    yard.serving (.openPlan 7 2250 80) ∧ yard.serving (.openPlan 7 2250 20)
    ∧ yard.plan 0 = none ∧ (∀ j, j < 0 → yard.plan j ≠ none) ∧ yard.tagNames 2250 3 slab2250
    ∧ slab2250.state = .available ∧ slab2250.interrupted = false ∧ yard.material slab2250.material = some stone :=
  ⟨in_service rfl rfl, in_service rfl rfl, by decide +kernel, by decide +kernel,
    slab_named (r := slab2250) rfl (by decide), rfl, rfl, by decide +kernel⟩

/-- A kerf outside either end; no free slot; a tag out of range and one of no slab; an interrupted slab; one whose
material is not DEFINED. -/
theorem witness_OpenPlan_refused :
    let full : State := { yard with plans := Vector.replicate 12 (some locked) }
    let cracked : Slab := { slab2250 with interrupted := true }
    let unknown : Slab := { slab2250 with material := 6 }
    (yard.serving (.openPlan 7 2250 19) ∧ yard.serving (.openPlan 7 2250 81))
    ∧ (full.serving (.openPlan 7 2250 80) ∧ ∀ k, full.plan k ≠ none)
    ∧ (yard.serving (.openPlan 7 0 20) ∧ yard.serving (.openPlan 7 16777215 80) ∧ yard.plan 0 = none
      ∧ ∀ k r, yard.slab k = some r → r.tag ≠ 16777215)
    ∧ ((yardOf cracked).serving (.openPlan 7 2250 20) ∧ (yardOf cracked).tagNames 2250 3 cracked
      ∧ cracked.interrupted = true)
    ∧ ((yardOf unknown).serving (.openPlan 7 2250 20) ∧ (yardOf unknown).tagNames 2250 3 unknown
      ∧ unknown.state = .available ∧ unknown.interrupted = false
      ∧ (yardOf unknown).material unknown.material = none) :=
  ⟨⟨in_service rfl rfl, in_service rfl rfl⟩, ⟨in_service rfl rfl, by decide +kernel⟩,
    ⟨in_service rfl rfl, in_service rfl rfl, by decide +kernel, other_tag rfl (by decide)⟩,
    ⟨in_service rfl rfl, slab_named (r := { slab2250 with interrupted := true }) rfl (by decide), rfl⟩,
    in_service rfl rfl, slab_named (r := { slab2250 with material := 6 }) rfl (by decide), rfl, rfl,
    by decide +kernel⟩

/-- The greatest offset of a RIP and the least of a CROSS. -/
theorem witness_AddCut :
    (planning whole .held).serving (.addCut 7 2 0 Axis.rip.code 17765)
    ∧ (planning whole .held).serving (.addCut 7 2 0 Axis.cross.code 200)
    ∧ (planning whole .held).plan 2 = some whole ∧ whole.state = .opened
    ∧ slot whole.pieces 0 = .leaf ⟨0, 0, 32000, 18000⟩ none none
    ∧ 17765 ≤ 40000 ∧ 200 + 17765 + whole.kerf = 18000 ∧ 200 + 200 + whole.kerf ≤ 32000
    ∧ whole.cuts.length = 0 :=
  ⟨in_service rfl rfl, in_service rfl rfl, by decide +kernel⟩

theorem witness_CutsExact :
    (sliverOk .rip 35 17765 ⟨0, 0, 32000, 18000⟩ = true ∧ sliverOk .rip 35 17766 ⟨0, 0, 32000, 18000⟩ = false)
    ∧ slot whole.pieces 1 = .unused ∧ slot whole.pieces 2 = .unused
    ∧ ∃ t, exec (.addCut 7 2 0 Axis.rip.code 17765) (planning whole .held) = .next t :=
  ⟨by decide, by decide +kernel, by decide +kernel, _, rfl⟩

/-- The number, the axis and the offset each one too large; an UNUSED, a SPLIT and a designated piece; offsets one step
beyond the sliver rule; the 32nd cut. -/
theorem witness_AddCut_refused :
    let s := planning undesignated .held
    let many : Plan := { undesignated with cuts := List.replicate 31 ⟨0, .rip, 6350, 32000, 0, 6350, .pending⟩ }
    s.plan 2 = some undesignated ∧ undesignated.state = .opened
    ∧ (s.serving (.addCut 7 2 64 1 40000) ∧ s.serving (.addCut 7 2 63 2 40000) ∧ s.serving (.addCut 7 2 63 1 40001))
    ∧ (s.serving (.addCut 7 2 9 0 200) ∧ slot undesignated.pieces 9 = .unused)
    ∧ slot undesignated.pieces 0 = .split ⟨0, 0, 32000, 18000⟩ none
    ∧ slot undesignated.pieces 8 = .leaf ⟨21035, 6385, 10965, 9150⟩ (some ⟨5, 3⟩) (some .remnant)
    ∧ (slot undesignated.pieces 6 = .leaf ⟨0, 15570, 32000, 2430⟩ (some ⟨2, 2⟩) none
      ∧ 199 < 200 ∧ 2430 < 2196 + undesignated.kerf + 200 ∧ 2195 + undesignated.kerf + 200 ≤ 2430
      ∧ 31 ≤ many.cuts.length) :=
  ⟨by decide +kernel, rfl, ⟨in_service rfl rfl, in_service rfl rfl, in_service rfl rfl⟩,
    ⟨in_service rfl rfl, by decide +kernel⟩, by decide +kernel⟩

/-- The plan of example 2.10 after its first cut. -/
def oneCut : Plan :=
  { whole with
    pieces := put (put (put whole.pieces 0 (.split ⟨0, 0, 32000, 18000⟩ none)) 1
        (.leaf ⟨0, 0, 32000, 6350⟩ (some ⟨0, 0⟩) none)) 2 (.leaf ⟨0, 6385, 32000, 11615⟩ (some ⟨0, 0⟩) none)
    cuts := [⟨0, .rip, 6350, 32000, 0, 6350, .pending⟩] }

/-- No cut; a last cut with a designated child; one without, which is undone. -/
theorem witness_UndoCut :
    ((planning whole .held).serving (.undoCut 7 2) ∧ (planning whole .held).plan 2 = some whole ∧ whole.cuts = [])
    ∧ (laidOut.cuts = cuts210.take 3 ++ [⟨5, .cross, 21000, 9150, 21000, 6385, .pending⟩]
      ∧ slot laidOut.pieces 7 = .leaf ⟨0, 6385, 21000, 9150⟩ (some ⟨5, 3⟩) (some (.part 1207 1)))
    ∧ (planning oneCut .held).serving (.undoCut 7 2) ∧ (planning oneCut .held).plan 2 = some oneCut
    ∧ oneCut.state = .opened ∧ oneCut.cuts = [] ++ [⟨0, .rip, 6350, 32000, 0, 6350, .pending⟩]
    ∧ (∀ x y d, slot oneCut.pieces 1 ≠ .leaf x y (some d) ∧ slot oneCut.pieces 2 ≠ .leaf x y (some d))
    ∧ slot oneCut.pieces 0 = .split ⟨0, 0, 32000, 18000⟩ none :=
  ⟨⟨in_service rfl rfl, by decide +kernel⟩, by decide +kernel, in_service rfl rfl, by decide +kernel, rfl, rfl,
    fun _ _ _ => ⟨nofun, nofun⟩, by decide +kernel⟩

/-- A new PART on the last piece a line takes, a REMNANT at both minima, none and SCRAP. -/
theorem witness_MarkPiece_taken :
    let s := planning laidOut .held
    s.serving (.markPiece 7 2 4 1 1311 1) ∧ s.serving (.markPiece 7 2 8 2 0 0)
    ∧ s.serving (.markPiece 7 2 6 0 0 0) ∧ s.serving (.markPiece 7 2 6 3 0 0)
    ∧ s.plan 2 = some laidOut ∧ laidOut.state = .opened
    ∧ slot laidOut.pieces 4 = .leaf ⟨24535, 0, 7465, 6350⟩ (some ⟨1, 1⟩) (some (.part 1311 0))
    ∧ slot laidOut.pieces 8 = .leaf ⟨21035, 6385, 10965, 9150⟩ (some ⟨5, 3⟩) (some .remnant)
    ∧ slot laidOut.pieces 6 = .leaf ⟨0, 15570, 32000, 2430⟩ (some ⟨2, 2⟩) (some .scrap)
    ∧ (s.slabOf 2250).map (·.1) = some 3 ∧ s.material 5 = some stone
    ∧ (stone.minRemLength ≤ 10965 ∧ stone.minRemWidth ≤ 9150)
    ∧ (s.jobOf 1311).map (fun x => (x.1, x.2.closed, slot x.2.lines 0)) = some (1, false, some (part 2 1))
    ∧ (part 2 1).delivered + ((part 2 1).designated - 1) < (part 2 1).target :=
  ⟨in_service rfl rfl, in_service rfl rfl, in_service rfl rfl, in_service rfl rfl, by decide +kernel⟩

/-- A piece too narrow either way; an absent job, a closed one, an absent line and a full one. -/
theorem witness_MarkPiece_refused :
    let s := planning undesignated .held
    let closed := s.setJob 1 ((s.job 1).map fun j => { j with closed := true })
    s.plan 2 = some undesignated
    ∧ slot undesignated.pieces 6 = .leaf ⟨0, 15570, 32000, 2430⟩ (some ⟨2, 2⟩) none
    ∧ (s.serving (.markPiece 7 2 6 2 0 0) ∧ (s.slabOf 2250).map (·.1) = some 3 ∧ s.material 5 = some stone
      ∧ ¬(stone.minRemLength ≤ 32000 ∧ stone.minRemWidth ≤ 2430)
      ∧ ¬(stone.veined = false ∧ stone.minRemLength ≤ 2430 ∧ stone.minRemWidth ≤ 32000))
    ∧ (s.serving (.markPiece 7 2 6 1 65535 8) ∧ ∀ n, ∀ j ∈ s.job n, j.number ≠ 65535)
    ∧ (closed.serving (.markPiece 7 2 6 1 1311 1) ∧ (closed.jobOf 1311).map (·.2.closed) = some true)
    ∧ (s.serving (.markPiece 7 2 6 1 1207 8)
      ∧ (s.jobOf 1207).map (fun x => (x.2.closed, slot x.2.lines 7)) = some (false, none))
    ∧ (s.serving (.markPiece 7 2 6 1 1207 1)
      ∧ (s.jobOf 1207).map (fun x => (x.2.closed, slot x.2.lines 0)) = some (false, some (part 1 1))
      ∧ (part 1 1).target ≤ (part 1 1).delivered + (part 1 1).designated) :=
  ⟨by decide +kernel, by decide +kernel, ⟨in_service rfl rfl, by decide +kernel⟩,
    ⟨in_service rfl rfl, by decide +kernel⟩, ⟨in_service rfl rfl, by decide +kernel⟩,
    ⟨in_service rfl rfl, by decide +kernel⟩, in_service rfl rfl, by decide +kernel⟩

/-- No leaf waits for its designation. -/
theorem all_designated {p : Plan} (h : ∀ i, (match slot p.pieces i with
    | .leaf _ _ none => false
    | _ => true) = true) (i : Fin 64) (r : Rect) (o : Option Origin) : slot p.pieces i ≠ .leaf r o none :=
  fun e => by have := h i; rw [e] at this; cases this

/-- The one REMNANT leaf of example 2.10 passes its test, with the table full to the last slot it needs. -/
theorem witness_LockPlan :
    let s := (planning laidOut .held).setReserved 510
    s.serving (.lockPlan 7 2) ∧ s.plan 2 = some laidOut ∧ laidOut.state = .opened ∧ laidOut.cuts ≠ []
    ∧ (∀ i r o, slot laidOut.pieces i ≠ .leaf r o none)
    ∧ (s.slabOf 2250).map (·.1) = some 3 ∧ s.material 5 = some stone
    ∧ ((List.finRange 64).all fun i => match slot laidOut.pieces i with
      | .leaf r _ (some .remnant) => decide (stone.minRemLength ≤ r.length ∧ stone.minRemWidth ≤ r.width)
      | _ => true) = true
    ∧ laidOut.pieces.toList.countP (fun
      | .leaf _ _ (some .remnant) => true
      | _ => false) = 1
    ∧ s.liveSlabs + s.stock.reserved + 1 = 512 :=
  ⟨in_service rfl rfl, by decide +kernel, rfl, by decide, all_designated (by decide +kernel), by decide +kernel⟩

/-- The plan of example 2.10 with piece 6, too narrow either way, marked REMNANT. -/
def narrow : Plan :=
  { laidOut with pieces := put pieces210 6 (.leaf ⟨0, 15570, 32000, 2430⟩ (some ⟨2, 2⟩) (some .remnant)) }

/-- No cut; piece 6 the lowest undesignated; piece 6 the lowest REMNANT too small; one slot short. -/
theorem witness_LockPlan_refused :
    ((planning whole .held).serving (.lockPlan 7 2) ∧ whole.cuts = [])
    ∧ (undesignated.cuts ≠ [] ∧ slot undesignated.pieces 6 = .leaf ⟨0, 15570, 32000, 2430⟩ (some ⟨2, 2⟩) none
      ∧ ((List.finRange 6).all fun j => match slot undesignated.pieces (j.castLE (by decide)) with
        | .leaf _ _ none => false
        | _ => true) = true)
    ∧ ((planning narrow .held).serving (.lockPlan 7 2) ∧ (planning narrow .held).plan 2 = some narrow
      ∧ (∀ i r o, slot narrow.pieces i ≠ .leaf r o none)
      ∧ slot narrow.pieces 6 = .leaf ⟨0, 15570, 32000, 2430⟩ (some ⟨2, 2⟩) (some .remnant)
      ∧ ¬(stone.minRemLength ≤ 32000 ∧ stone.minRemWidth ≤ 2430)
      ∧ ¬(stone.veined = false ∧ stone.minRemLength ≤ 2430 ∧ stone.minRemWidth ≤ 32000))
    ∧ 512 < ((planning laidOut .held).setReserved 511).liveSlabs + 511 + 1 :=
  ⟨⟨in_service rfl rfl, rfl⟩, by decide +kernel,
    ⟨in_service rfl rfl, by decide +kernel, all_designated (by decide +kernel), by decide +kernel⟩,
    by decide +kernel⟩

theorem witness_UnlockAndDropPlan :
    ((planning locked .held).serving (.unlockPlan 7 2) ∧ (planning locked .held).serving (.dropPlan 7 2)
      ∧ (planning locked .held).plan 2 = some locked ∧ locked.state = .locked ∧ locked.state ≠ .bound)
    ∧ (planning locked .held).tagNames 2250 3 { slab2250 with state := .held, holder := some 2 } :=
  ⟨⟨in_service rfl rfl, in_service rfl rfl, by decide +kernel⟩,
    slab_named (r := { slab2250 with state := .held, holder := some 2 }) rfl (by decide)⟩

theorem witness_MapLines :
    (idle.serving (.mapLines 7 #v[0, 1, 2, 3, 5])
      ∧ ¬((∀ n ∈ (#v[0, 1, 2, 3, 5]).toList, n ≤ 4) ∧ (#v[0, 1, 2, 3, 5]).toList.Nodup))
    ∧ (idle.serving (.mapLines 7 #v[0, 1, 2, 3, 0]) ∧ ¬ (#v[0, 1, 2, 3, 0]).toList.Nodup)
    ∧ ((cell .paused).serving (.mapLines 7 #v[0, 2, 1, 3, 4])
      ∧ slot (#v[0, 2, 1, 3, 4] : Vector (Fin 5) 5) (1 : Fin 4).castSucc ≠ (cell .paused).stationLine 1
      ∧ ((cell .paused).station 1).state ≠ .detached)
    ∧ (idle.serving (.mapLines 7 #v[4, 3, 2, 1, 0]) ∧ (#v[4, 3, 2, 1, 0] : Vector (Fin 5) 5).toList.Nodup
      ∧ (∀ i, (idle.station i).state = .detached) ∧ idle.water.link = .detached) :=
  ⟨⟨in_service rfl rfl, by decide +kernel⟩, ⟨in_service rfl rfl, by decide +kernel⟩,
    ⟨in_service rfl rfl, by decide +kernel⟩, in_service rfl rfl, by decide +kernel⟩

/-- Station 1's line as given, in the cell that cuts. -/
def wire (x : Line) : State := (cell .cutting).setLine 1 x

def frames : List TxFrame := [⟨true, .feed 900⟩, ⟨true, .query⟩]

/-- A FEED that takes the place of one, an ORDER that joins, a HOLD; a disabled line. -/
theorem witness_TransmitQueue :
    let s := wire { openLine with queue := frames }
    (s.line 1).enabled = true ∧ (s.line 1).queue = [] ++ ⟨true, .feed 900⟩ :: [⟨true, .query⟩]
    ∧ (TxMessage.feed 840 ≠ .hold ∧ (TxMessage.feed 900).kindCode = (TxMessage.feed 840).kindCode)
    ∧ s.transmitLaw
    ∧ (TxMessage.press ≠ .hold ∧ ∀ g ∈ (s.line 1).queue, g.message.kindCode ≠ TxMessage.press.kindCode)
    ∧ (s.line 0).enabled = false :=
  ⟨by decide +kernel, by decide +kernel, by decide, by unfold State.transmitLaw; decide +kernel,
    by decide +kernel, by decide +kernel⟩

/-- The transmitter in both idles with a frame waiting, sending, off; a sent ORDER in CUTTING and a sent HOLD in
HOLDING; a frame on the plant's line. -/
theorem witness_Transmitter :
    ((wire { openLine with queue := frames, transmitter := .openingIdle }).line 1).transmitter = .openingIdle
    ∧ ((wire { openLine with queue := frames }).line 1).queue = ⟨true, .feed 900⟩ :: [⟨true, .query⟩]
    ∧ ((wire openLine).line 1).queue = [] ∧ ((wire openLine).line 0).transmitter = .off
    ∧ (let s := wire { openLine with transmitter := .sending ⟨true, .hold⟩ };
      (s.line 1).transmitter = .sending ⟨true, .hold⟩ ∧ s.userOf 1 = .station 1)
    ∧ (((cell .holding).station 1).state = .holding ∧ ((cell .cutting).station 1).orderOutstanding = true
      ∧ ((cell .cutting).station 1).toggle = true ∧ (cell .cutting).userOf 4 = .plant) := by
  decide +kernel

/-- A frame on the wire of an enabled line, and its idle. -/
theorem witness_TransmitPin :
    let s := wire { openLine with transmitter := .sending ⟨true, .feed 900⟩ }
    (s.line 1).enabled = true ∧ (s.line 1).transmitter = .sending ⟨true, .feed 900⟩
    ∧ ((wire openLine).line 1).enabled = true ∧ ((wire openLine).line 1).transmitter = .separatingIdle
    ∧ ((wire openLine).line 0).enabled = false := by decide +kernel

/-- The search with no sample counted, four at 1 to come; with 159 of either counted; behind a long idle; a disabled
line; the first sample of two. -/
theorem witness_StartCheck :
    (((wire openLine).line 1).receiver = .search 0 0 ∧ ((wire openLine).line 1).enabled = true
      ∧ 4 ≤ 0 + 4 ∧ 0 + 159 < 160)
    ∧ (((wire { openLine with receiver := .search 4 0, onesSeen := 159 }).line 1).receiver = .search 4 0
      ∧ ((wire { openLine with receiver := .search 4 0, onesSeen := 159 }).line 1).onesSeen + 1 = 160)
    ∧ (((wire { openLine with receiver := .search 4 0, onesSeen := 160 }).line 1).receiver = .search 4 0
      ∧ 4 ≤ 4 + 0 ∧ 160 ≤ ((wire { openLine with receiver := .search 4 0, onesSeen := 160 }).line 1).onesSeen)
    ∧ ((next? (exec (.startBitVerified 1 [true]) (wire openLine))).map fun t => (t.line 1).enabled) = some true
    ∧ ((wire { openLine with receiver := .search 0 159 }).line 1).receiver = .search 0 159
    ∧ ((wire { openLine with receiver := .search 3 0 }).line 1).receiver = .search 3 0
    ∧ (((wire openLine).line 0).receiver = .search 0 0 ∧ ((wire openLine).line 0).enabled = false) := by
  decide +kernel

/-- A line whose receiver is in a character, the assembler as given. -/
def inChar (a : Assembler) : State := wire { openLine with receiver := .inCharacter true, assembler := a }

theorem witness_ReceivedCharacters :
    (((inChar .ready).line 1).enabled = true ∧ ((inChar .ready).line 1).receiver = .inCharacter true
      ∧ ((inChar .ready).line 1).inBreak = false ∧ (CharSamples.clean 24).framing = false)
    ∧ ((inChar .settling).line 1).assembler = .settling ∧ ((inChar .ready).line 1).assembler = .ready
    ∧ (((inChar (.assembling [73] false)).line 1).assembler = .assembling [73] false
      ∧ ([73] : List Byte) ≠ [] ∧ ([73] ++ [(CharSamples.clean 24).byte])[1]? = some 24
      ∧ (24 : Byte).toNat ≤ 24 ∧ [(73 : Byte)].length + 1 < 3 + (24 : Byte).toNat)
    ∧ ((Message.pass 0 1 410).fitsWire = true
      ∧ [73, 4, 0, 1, 154, 1] ++ [23] = (Message.pass 0 1 410).frame true
      ∧ ((inChar (.assembling [73, 4, 0, 1, 154, 1] false)).line 1).assembler
        = .assembling [73, 4, 0, 1, 154, 1] false) := by decide +kernel

/-- No character; a break character by its samples; one in BREAK; a framing error in SETTLING and READY; any character
in SEPARATING; a length byte of 25; complete frames with a wrong sum, the direction bit 1 and an unknown kind; each
below the bad-frame limit and at it. -/
theorem witness_BadCharacters :
    (∀ m, ((wire openLine).line 1).receiver ≠ .inCharacter m)
    ∧ (({ CharSamples.clean 0 with stop := 0 }).framing = true ∧ ({ CharSamples.clean 0 with stop := 0 }).byte = 0)
    ∧ (let s := wire { openLine with receiver := .inCharacter false, inBreak := true };
      (s.line 1).inBreak = true ∧ ¬((CharSamples.clean 0).framing = true ∧ (CharSamples.clean 0).byte = 0))
    ∧ (({ CharSamples.clean 24 with stop := 0 }).framing = true
      ∧ ((inChar .settling).line 1).assembler = .settling ∧ ((inChar .ready).line 1).assembler = .ready)
    ∧ (((inChar .separating).line 1).assembler = .separating
      ∧ ((inChar (.assembling [73] true)).line 1).assembler = .assembling [73] true
      ∧ 24 < (CharSamples.clean 25).byte.toNat)
    ∧ (([(73 : Byte), 4, 0, 1, 154, 1] ++ [24]).sum ≠ 0 ∧ 128 ≤ (200 : Byte).toNat
      ∧ ((71 : Byte).toNat % 16, (4 : Byte).toNat) ∉ [(8, 1), (9, 4), (10, 1), (11, 3), (12, 2), (13, 11), (14, 4)])
    ∧ ((inChar .ready).line 1).badCount + 1 < (inChar .ready).settings.badFrameLimit
    ∧ (let s := wire { openLine with receiver := .inCharacter false, badCount := 3 };
      s.settings.badFrameLimit ≤ (s.line 1).badCount + 1) :=
  ⟨fun _ => nofun, by decide +kernel⟩

/-- Every kind of message with its fields at their greatest. -/
theorem witness_LineFrames :
    (Message.accept 255).fitsWire ∧ (Message.pass 255 255 65535).fitsWire ∧ (Message.finish 255).fitsWire
    ∧ (Message.state 255 255 255).fitsWire ∧ (Message.fault 255 255).fitsWire
    ∧ (Message.pressState 255 16777215).fitsWire
    ∧ (Message.levels ⟨65535, 65535, 65535, Vector.replicate 4 255, 255⟩).fitsWire := by decide +kernel

/-- The gap timer running in SETTLING and in ASSEMBLING, below the bad-frame limit and at it. -/
theorem witness_GapRuns :
    (((wire { openLine with gap := .running, assembler := .settling }).line 1).gap = .running
      ∧ ((wire { openLine with gap := .running, assembler := .settling }).line 1).assembler = .settling)
    ∧ (let s := wire { openLine with gap := .running, assembler := .assembling [73] false, badCount := 2 };
      (s.line 1).enabled = true ∧ (s.line 1).assembler = .assembling [73] false
        ∧ (s.line 1).badCount + 1 < s.settings.badFrameLimit)
    ∧ (let s := wire { openLine with gap := .running, assembler := .assembling [73] false, badCount := 3 };
      s.settings.badFrameLimit ≤ (s.line 1).badCount + 1) := by decide +kernel

/-- A first break character below the limit; a character and the idle in BREAK; an idle without it. -/
theorem witness_BreakRuns :
    (wire { openLine with badCount := 2 }).decidesBreak 1 (.breakCharacter 1) 0
    ∧ (inChar .ready).decidesBreak 1 (.character 1 { CharSamples.clean 0 with stop := 256 }) 1
    ∧ (∀ ones zeros, ((inChar .ready).line 1).receiver ≠ .search ones zeros)
    ∧ ((wire { openLine with assembler := .settling }).line 1).assembler = .settling
    ∧ (((wire { openLine with badCount := 2 }).line 1).breakRun = false
      ∧ ((wire { openLine with badCount := 2 }).line 1).assembler = .ready
      ∧ ((wire { openLine with badCount := 2 }).line 1).badCount + 1 < idle.settings.badFrameLimit)
    ∧ ((wire openLine).line 1).inBreak = false
    ∧ (let s := wire { openLine with inBreak := true, breakRun := true };
      (s.line 1).enabled = true ∧ (s.line 1).inBreak = true
        ∧ (∀ g ∈ (s.line 1).queue, g.message ≠ .query)
        ∧ (∀ i, s.userOf 1 = .station i → s.stationLine i = 1 ∧ true = (s.station i).toggle)
        ∧ (s.userOf 1 = .plant → s.plantLine = 1 ∧ true = false)) :=
  ⟨.inl ⟨rfl, ⟨0, 0, by decide +kernel⟩, rfl⟩, .inr ⟨true, _, rfl, by decide +kernel, by decide, by decide, by decide⟩,
    fun _ _ => nofun, by decide +kernel⟩

/-- A stale toggle; a saw's line that hears the plant's kinds and undefined fields; the plant's line. -/
theorem witness_StaleAndForeign :
    let s := wire { openLine with badCount := 2 }
    let limit := wire { openLine with badCount := 3 }
    (limit.settings.badFrameLimit ≤ (limit.line 1).badCount + 1 ∧ (limit.station 1).state = .cutting
      ∧ limit.stationLine 1 = 1 ∧ limit.plantLine ≠ 1)
    ∧
    (s.line 1).enabled = true ∧ (s.line 1).inBreak = false ∧ s.userOf 1 = .station 1
    ∧ false ≠ (s.station 1).toggle ∧ (s.line 1).badCount + 1 < s.settings.badFrameLimit
    ∧ (3 < 4 ∧ 1 < 2)
    ∧ ((s.line 4).enabled = true ∧ (s.line 4).inBreak = false ∧ s.userOf 4 = .plant
      ∧ (s.line 4).badCount + 1 < s.settings.badFrameLimit ∧ 32 ≤ (32 : Byte).toNat) := by decide +kernel

/-- A station attached without a plan, one DETACHED, one with a plan. -/
theorem witness_AttachDetach :
    (idle.serving (.attachStation 7 3) ∧ (idle.station 3).state = .detached)
    ∧ ((cell .paused).serving (.attachStation 7 1) ∧ ((cell .paused).station 1).state ≠ .detached)
    ∧ (let s := idle.setStation 0 { Station.afterReset with state := .listening, replyTimer := some 500 };
      s.serving (.detachStation 7 0) ∧ (s.station 0).state ≠ .detached ∧ (s.station 0).state.wet = false
        ∧ (s.station 0).plan = none)
    ∧ (idle.serving (.detachStation 7 3) ∧ (idle.station 3).state = .detached)
    ∧ ((cell .paused).serving (.detachStation 7 1) ∧ ((cell .paused).station 1).plan ≠ none) :=
  ⟨⟨in_service rfl rfl, by decide +kernel⟩, ⟨in_service rfl rfl, by decide +kernel⟩,
    ⟨in_service rfl rfl, by decide +kernel⟩, ⟨in_service rfl rfl, by decide +kernel⟩, in_service rfl rfl,
    by decide +kernel⟩

/-- Plan 2 LOCKED, station 1 READY with the blade given. -/
def startable (b : Option Blade) : State :=
  ((planning locked .held).setStation 1 { Station.afterReset with state := .ready }).setBlade 1 b

/-- A blade with one unit left, as wide as the plan's kerf and just deep enough. -/
def tight : Blade := { blade with kerf := 35, maxDepth := 300, wearRemaining := 1 }

theorem witness_StartPlan :
    let s := startable (some tight)
    s.serving (.startPlan 7 2 1) ∧ s.plan 2 = some locked ∧ locked.state = .locked
    ∧ (s.station 1).state = .ready ∧ s.blade 1 = some tight ∧ 0 < tight.wearRemaining
    ∧ tight.kerf ≤ locked.kerf ∧ (s.slabOf 2250).map (fun x => (x.1, x.2.thickness)) = some (3, 300)
    ∧ 300 ≤ tight.maxDepth ∧ 0 < tight.maxPassDepth :=
  ⟨in_service rfl rfl, by decide +kernel⟩

/-- Station 4; a station not READY; no blade, a worn one, one a step too wide, one a step too shallow. -/
theorem witness_StartPlan_refused :
    ((startable none).serving (.startPlan 7 2 4) ∧ (startable none).serving (.startPlan 7 2 0)
      ∧ (startable none).serving (.startPlan 7 2 1))
    ∧ ((startable none).station 0).state ≠ .ready ∧ (startable none).blade 1 = none
    ∧ (startable (some { tight with wearRemaining := 0 })).blade 1 = some { tight with wearRemaining := 0 }
    ∧ ((startable (some { tight with kerf := 36 })).blade 1 = some { tight with kerf := 36 }
      ∧ locked.kerf < 36)
    ∧ ((startable (some { tight with maxDepth := 299 })).blade 1 = some { tight with maxDepth := 299 }
      ∧ ((startable (some { tight with maxDepth := 299 })).slabOf 2250).map (·.2.thickness) = some 300) :=
  ⟨⟨in_service rfl rfl, in_service rfl rfl, in_service rfl rfl⟩, by decide +kernel⟩

/-- R103's ranges at their ends. -/
theorem witness_DerivedPasses : passCountFor 600 100 = 6 ∧ passDepthFor 600 6 = 100
    ∧ passCountFor 100 600 = 1 ∧ passDepthFor 100 1 = 100 ∧ passCountFor 601 100 = 7 := by decide

/-- The loaded edge at a STAGED station with the factor exactly at the resume factor. -/
theorem witness_LoadedEdge :
    let s := { cell .staged with water := { goodWater with factor := 400 } }
    (s.line 1).enabled = true ∧ (s.line 1).inBreak = false ∧ s.userOf 1 = .station 1 ∧ s.stationLine 1 = 1
    ∧ s.plantLine ≠ 1 ∧ (s.station 1).state = .staged ∧ (s.station 1).plan = some 2
    ∧ (s.plan 2).map (fun p => (p.cuts[p.cutsDone]?, p.snapshot, p.slabTag))
      = some (cuts210[0]?, some ⟨5, stone⟩, 2250)
    ∧ s.tagNames 2250 3 { slab2250 with state := .held, holder := some 2 }
    ∧ (s.station 1).tableLoaded = false ∧ s.thresholds.resume ≤ s.water.factor :=
  ⟨by decide +kernel, by decide +kernel, by decide +kernel, by decide +kernel, by decide +kernel,
    by decide +kernel, by decide +kernel, by decide +kernel,
    slab_named (r := { slab2250 with state := .held, holder := some 2 }) rfl (by decide), by decide +kernel⟩

/-- In each state of station 1 its line is open and serves it. -/
theorem cell_state (st : StationState) :
    ((cell st).line 1).enabled = true ∧ ((cell st).line 1).inBreak = false ∧ (cell st).userOf 1 = .station 1
      ∧ (cell st).plantLine ≠ 1 ∧ ((cell st).station 1).state = st := by
  cases st <;> decide +kernel

/-- A station of each state the clauses name; of a held one, both ends of the band below the resume factor. -/
theorem witness_StateReports :
    ((cellWith .listening fun x => { x with plan := none }).station 1).state = .listening
    ∧ ((cellWith .faulted fun x => { x with plan := none }).station 1).plan = none
    ∧ ((cell .ready).station 1).state = .ready ∧ ((cell .paused).station 1).state = .paused
    ∧ (((cell .faulted).station 1).state = .faulted ∧ ((cell .faulted).station 1).plan ≠ none)
    ∧ ((cell .cutting).station 1).state = .cutting ∧ ((cell .holding).station 1).state = .holding
    ∧ ((cellWith .staged fun x => { x with tableLoaded := true }).station 1).tableLoaded = true
    ∧ ((cellWith .holding fun x => { x with condition := .hostStop }).station 1).condition = .hostStop
    ∧ ((cellWith .holding fun x => { x with condition := .dryCut }).station 1).condition = .dryCut
    ∧ (let s := { cellWith .holding fun x => { x with condition := .waterHold } with
          water := { goodWater with factor := 399 } };
      (s.station 1).condition = .waterHold ∧ s.water.factor < s.thresholds.resume)
    ∧ (let s := { cell .staged with water := { goodWater with factor := 399 } };
      (s.station 1).state = .staged ∧ (s.station 1).tableLoaded = false ∧ s.water.factor < s.thresholds.resume)
    ∧ (let s := cellWith .holding fun x => { x with condition := .waterHold };
      (s.station 1).condition = .waterHold ∧ s.thresholds.resume ≤ s.water.factor ∧ s.blade 1 = some blade
        ∧ 0 < blade.wearRemaining ∧ (s.setBlade 1 (some { blade with wearRemaining := 0 })).blade 1
          = some { blade with wearRemaining := 0 }) := by decide +kernel

/-- A STATE with mode FAULT at a station that cuts, one FAULTED for another cause, and one FAULTED with SAW_FAULT. -/
theorem witness_StateFault :
    (((cell .cutting).station 1).state ≠ .detached ∧ ((cell .cutting).station 1).state ≠ .faulted)
    ∧ (let s := cellWith .faulted fun x => { x with condition := .silent };
      (s.station 1).state = .faulted ∧ (s.station 1).condition ≠ .sawFault)
    ∧ (let s := cellWith .faulted fun x => { x with condition := .sawFault, faultCode := some 7 };
      (s.station 1).state = .faulted ∧ (s.station 1).condition = .sawFault) := by decide +kernel

/-- The cell with plan 2 changed. -/
def cellPlan (st : StationState) (f : Plan → Plan) : State := (cell st).updatePlan 2 f

theorem witness_AcceptAndFinish :
    (∀ st, ((cell st).station 1).orderOutstanding = decide (st ≠ .staged)
      ∧ ((cell st).station 1).plan = some 2
      ∧ ((cell st).plan 2).map (fun p => (p.cutsDone, p.cuts[0]?)) = some (0, cuts210[0]?))
    ∧ (∀ st, let s := cellPlan st (fun p => { p with cutsDone := 2, passesReported := 2 })
      (s.station 1).state = st ∧ (s.station 1).plan = some 2
        ∧ (s.plan 2).map (fun p => (p.cutsDone, p.cuts[2]?, p.passCount, p.passesReported, p.cuts.length))
          = some (2, cuts210[2]?, some 2, 2, 4))
    ∧ (let s := cellPlan .cutting (fun p => { p with cutsDone := 2, passesReported := 2 });
      s.stationLine 1 = 1 ∧ s.plantLine ≠ 1
        ∧ (s.plan 2).map (fun p => (p.cuts[2]?, p.cuts[3]?, p.snapshot))
          = some (cuts210[2]?, cuts210[3]?, some ⟨5, stone⟩)
        ∧ (s.slabOf 2250).map (fun x => (x.1, x.2.state)) = some (3, .cutting)
        ∧ s.blade 1 = some blade ∧ 0 < blade.wearRemaining
        ∧ (s.setBlade 1 (some { blade with wearRemaining := 0 })).blade 1
          = some { blade with wearRemaining := 0 }) :=
  ⟨fun st => by cases st <;> decide +kernel, fun st => by cases st <;> decide +kernel, by decide +kernel⟩

/-- No order outstanding; a station that takes no reports; another cut. A pass index too high and one of a cut
whose passes are all reported. -/
theorem witness_OffTheOrder :
    ((cellWith .paused fun x => { x with orderOutstanding := false }).station 1).orderOutstanding = false
    ∧ ((cell .staged).station 1).state = .staged
    ∧ (((cell .cutting).station 1).plan = some 2 ∧ ((cell .cutting).plan 2).map (·.cutsDone) = some 0 ∧ 0 ≠ 1)
    ∧ ((cell .cutting).line 1).badCount + 1 < (cell .cutting).settings.badFrameLimit
    ∧ ((wire { openLine with badCount := 3 }).settings.badFrameLimit
      ≤ ((wire { openLine with badCount := 3 }).line 1).badCount + 1)
    ∧ 2 ≠ ((cell .cutting).station 1).passesTaken + 1
    ∧ ((cellPlan .cutting fun p => { p with passesReported := 2 }).plan 2).map
      (fun p => (p.passCount, p.passesReported)) = some (some 2, 2) := by decide +kernel

/-- The first pass of a cut in each state with an order, and the last, no pass behind which is unreported. -/
theorem witness_Pass :
    (∀ st : StationState, ((cell st).station 1).orderOutstanding = decide (st ≠ .staged))
    ∧ (let s := cell .cutting;
      (s.station 1).plan = some 2
      ∧ (s.plan 2).map (fun p => (p.cutsDone, p.cuts[0]?, p.snapshot, p.passCount, p.passDepth))
        = some (0, cuts210[0]?, some ⟨5, stone⟩, some 2, some 150)
      ∧ (s.slabOf 2250).map (·.1) = some 3 ∧ s.blade 1 = some blade
      ∧ 1 = (s.station 1).passesTaken + 1 ∧ s.plantLine ≠ 1
      ∧ (s.plan 2).map (fun p => decide (p.passesReported < 2)) = some true)
    ∧ (let s := (cellPlan .cutting fun p => { p with passesReported := 1 }).setStation 1
          { atStation .cutting with passesTaken := 1 };
      2 = (s.station 1).passesTaken + 1 ∧ (s.plan 2).map (fun p => decide (p.passesReported < 2)) = some true) :=
  ⟨fun st => by cases st <;> decide +kernel, by decide +kernel⟩

/-- What a PASS needs to be booked, whose blade and water take the booking without a report. -/
theorem witness_UnreportedPass :
    (cell .cutting).plan 2 = some { boundPlan with touched := true } ∧ (cell .cutting).blade 1 = some blade
    ∧ boundPlan.snapshot = some ⟨5, stone⟩ := by decide +kernel

/-- The last cut with both passes unreported; and with both reported, the table full to the last slot. -/
theorem witness_LastFinish :
    (let s := cellPlan .faulted (fun p => { p with cutsDone := 3 });
      (s.station 1).state = .faulted ∧ (s.station 1).orderOutstanding = true
        ∧ (s.plan 2).map (fun p => (p.cutsDone, p.cuts[3]?, p.passesReported)) = some (3, cuts210[3]?, 0)
        ∧ s.blade 1 = some blade)
    ∧ (let s := (cellPlan .holding fun p => { p with cutsDone := 3, passesReported := 2 }).setReserved 511;
      (s.station 1).state = .holding ∧ s.stationLine 1 = 1 ∧ s.plantLine ≠ 1
        ∧ (s.plan 2).map (fun p => (p.cutsDone + 1, p.cuts.length, p.passCount, p.passesReported))
          = some (4, 4, some 2, 2)
        ∧ s.liveSlabs + s.stock.reserved ≤ 512 ∧ laidOut.leaves.countP Leaf.isRemnant ≤ s.stock.reserved)
    ∧ (cellPlan .holding fun p => { p with cutsDone := 3, passesReported := 2 }).tagNames 2250 3
      { slab2250 with state := .cutting, holder := some 2, rack := none }
    ∧ ((cell .cutting).factorLaw ∧ (∀ j, j ≠ 1 → ((cell .cutting).station j).plan ≠ some 2)
      ∧ 0 + 1 < cuts210.length) :=
  ⟨by decide +kernel, by decide +kernel,
    slab_named (r := { slab2250 with state := .cutting, holder := some 2, rack := none }) rfl (by decide),
    by unfold State.factorLaw; decide +kernel, by decide +kernel, by decide⟩

/-- The cell behind the bookings of a FINISH of `cut` with both passes unreported, the order over. -/
def booked (st : StationState) (cut wear : Nat) : State :=
  let s := ((cell st).setBlade 1 (some { blade with wearRemaining := wear })).updatePlan 2 fun p =>
    { p with cutsDone := cut + 1, passesReported := 0, touched := true }
  let z := [150, 150].foldl
    (fun y h => y.bookUnreported 1 2 boundPlan ((cuts210[cut]?.map (·.travel)).getD 0) h) s
  z.setStation 1 { z.station 1 with passesTaken := 0, orderOutstanding := false }

/-- The next cut with wear left and with none; a station that does not cut; the last cut. -/
theorem witness_FinishGoesOn :
    (let w := booked .cutting 0 60000;
      (w.station 1).state = .cutting ∧ (w.station 1).plan = some 2
        ∧ (w.plan 2).map (fun q => (q.cuts[q.cutsDone]?, q.snapshot)) = some (cuts210[1]?, some ⟨5, stone⟩)
        ∧ (w.slabOf 2250).map (fun x => x.2.state) = some .cutting
        ∧ (w.blade 1).map (fun b => decide (0 < b.wearRemaining)) = some true)
    ∧ ((booked .cutting 0 1).blade 1).map (·.wearRemaining) = some 0
    ∧ (((booked .holding 0 60000).station 1).state ≠ .cutting ∧ ((booked .holding 0 60000).station 1).plan = some 2)
    ∧ ((booked .paused 3 60000).plan 2).map (fun q => (q.cutsDone, q.cuts.length)) = some (4, 4)
    ∧ (booked .paused 3 60000).tagNames 2250 3 { slab2250 with state := .cutting, holder := some 2, rack := none } :=
  ⟨by decide +kernel, by decide +kernel, by decide +kernel, by decide +kernel,
    slab_named (r := { slab2250 with state := .cutting, holder := some 2, rack := none }) rfl (by decide)⟩

/-- A stock of two remnants, the tags given. -/
def twoRemnants (a b : Nat) : State :=
  let r (tag : Nat) : Slab := { slab2250 with tag := tag, kind := .remnant, rack := none }
  { idle with stock := { idle.stock with
      tagCounter := a, slabs := put (put State.reset.stock.slabs 0 (some (r a))) 1 (some (r b)) } }

/-- The counter at its last tag, which is live; so is the first one behind the wrap; the second is free. -/
theorem witness_Remnants :
    let s := twoRemnants 16777215 8388608
    (s.slab 2 = none ∧ ∀ m, m < 2 → s.slab m ≠ none)
    ∧ (∀ m r, s.slab m = some r → r.tag ≠ 8388609)
    ∧ ((s.slab 0).map (·.tag) = some s.stock.tagCounter ∧ (s.slab 1).map (·.tag) = some 8388608)
    ∧ ((8388609 + 8388608 - s.stock.tagCounter) % 8388608 = 2
      ∧ (8388608 + 8388608 - s.stock.tagCounter) % 8388608 = 1
      ∧ (s.stock.tagCounter + 8388608 - s.stock.tagCounter) % 8388608 = 0)
    ∧ boundPlan.snapshot = some ⟨5, stone⟩ := by
  refine ⟨by decide +kernel, fun m r h => ?_, by decide +kernel⟩
  simp only [State.slab, twoRemnants, slot_put] at h
  split at h
  · cases h; decide
  · split at h
    · cases h; decide
    · simp [State.reset, Stock.blank] at h

/-- A FAULT with the least code in an attached state; a second break character. -/
theorem witness_FaultAndBreak :
    (((cell .listening).station 1).state ≠ .detached ∧ 1 ≤ 1)
    ∧ ((wire { openLine with breakRun := true }).line 1).breakRun = true
    ∧ ((wire { openLine with breakRun := true }).line 1).inBreak = false
    ∧ (wire { openLine with breakRun := true }).decidesBreak 1 (.breakCharacter 1) 0 :=
  ⟨by decide +kernel, by decide +kernel, by decide +kernel, .inl ⟨rfl, ⟨0, 0, by decide +kernel⟩, rfl⟩⟩

theorem witness_StationTimers :
    (cell .cutting).plantLine ≠ (cell .cutting).stationLine 1
    ∧ (((cell .cutting).station 1).state = .cutting ∧ ((cell .cutting).station 1).replyTimer ≠ none
      ∧ ((cell .cutting).station 1).silenceTimer ≠ none ∧ ((cell .cutting).station 1).queryTimer ≠ none)
    ∧ (((cell .holding).station 1).state = .holding ∧ ((cell .holding).station 1).replyTimer ≠ none
      ∧ ((cell .holding).station 1).silenceTimer ≠ none ∧ ((cell .holding).station 1).queryTimer ≠ none)
    ∧ (let s := cellWith .listening (fun x => { x with plan := none, replyTimer := some 500 });
      (s.station 1).state = .listening ∧ (s.station 1).replyTimer ≠ none)
    ∧ (((cell .paused).station 1).replyTimer = none ∧ ((cell .paused).station 1).queryTimer = none
      ∧ ((cell .paused).station 1).silenceTimer = none)
    ∧ (let s := cellWith .cutting fun x => { x with replyTimer := none };
      (s.station 1).replyTimer = none ∧ (s.station 1).state ≠ .listening ∧ (s.station 1).state ≠ .holding) := by
  decide +kernel

theorem witness_StopStation (st : StationState) : (cell st).serving (.stopStation 7 1)
    ∧ ((cell st).station 1).state = st ∧ ((cell st).line ((cell st).stationLine 1)).enabled = true :=
  ⟨in_service rfl rfl, by cases st <;> decide +kernel⟩

/-- A PAUSED station at the resume factor exactly; a worn blade; the factor one below; a CUTTING station. -/
theorem witness_Resume :
    (let s := { cell .paused with water := { goodWater with factor := 400 } };
      s.serving (.resumeStation 7 1) ∧ s.plantLine ≠ s.stationLine 1 ∧ (s.station 1).state = .paused
      ∧ (s.plan 2).map (fun p => (p.cuts[p.cutsDone]?, p.snapshot, p.passCount))
        = some (cuts210[0]?, some ⟨5, stone⟩, some 2)
      ∧ (s.station 1).passesTaken = 0
      ∧ (s.slabOf 2250).map (fun x => (x.1, x.2.state)) = some (3, .cutting)
      ∧ s.blade 1 = some blade ∧ 0 < blade.wearRemaining ∧ s.thresholds.resume ≤ s.water.factor
      ∧ (s.line 1).enabled = true)
    ∧ ((cell .faulted).serving (.resumeStation 7 1) ∧ ((cell .faulted).station 1).state = .faulted
      ∧ ((cell .faulted).station 1).sawMode = some .idle)
    ∧ ((cell .cutting).serving (.resumeStation 7 1) ∧ ((cell .cutting).station 1).state ≠ .paused
      ∧ ((cell .cutting).station 1).state ≠ .faulted)
    ∧ (((cell .faulted).station 1).plan ≠ none
      ∧ (((cell .faulted).setBlade 1 none).blade 1).any (fun b => decide (0 < b.wearRemaining)) = false
      ∧ ({ cell .faulted with water := { goodWater with factor := 399 } } : State).water.factor
        < (cell .faulted).thresholds.resume)
    ∧ (((cell .paused).setBlade 1 none).serving (.resumeStation 7 1)
      ∧ (((cell .paused).setBlade 1 none).blade 1).any (fun b => decide (0 < b.wearRemaining)) = false)
    ∧ ((cell .paused).blade 1).any (fun b => decide (0 < b.wearRemaining)) = true
    ∧ ({ cell .paused with water := { goodWater with factor := 399 } } : State).water.factor
      < (cell .paused).thresholds.resume :=
  ⟨⟨in_service rfl rfl, by decide +kernel⟩, ⟨in_service rfl rfl, by decide +kernel⟩,
    ⟨in_service rfl rfl, by decide +kernel⟩, by decide +kernel, ⟨in_service rfl rfl, by decide +kernel⟩,
    by decide +kernel⟩

/-- A PAUSED station whose slab is HELD, its edge unseen and seen; one with every pass of a cut taken, of the first cut
and of the last. -/
theorem witness_ResumeCourses :
    let held (edge : Bool) : State :=
      { planning boundPlan .held with
        stations := put idle.stations 1 { atStation .paused with loadedSinceStaging := edge }
        lines := put idle.lines 1 openLine, blades := put idle.blades 1 (some blade), water := goodWater }
    let taken (cut : Nat) : State :=
      (cellPlan .paused fun p => { p with cutsDone := cut, passesReported := 2 }).setStation 1
        { atStation .paused with passesTaken := 2 }
    (∀ edge, (held edge).serving (.resumeStation 7 1) ∧ (held edge).tagNames 2250 3 { slab2250 with
        state := .held, holder := some 2 })
    ∧ (∀ edge, ((held edge).station 1).state = .paused ∧ ((held edge).station 1).loadedSinceStaging = edge
      ∧ (held edge).plan 2 = some boundPlan ∧ (held edge).thresholds.resume ≤ (held edge).water.factor
      ∧ ((held edge).line 1).enabled = true ∧ (held edge).plantLine ≠ 1 ∧ (held edge).stationLine 1 = 1
      ∧ (held edge).blade 1 = some blade)
    ∧ (∀ cut, (taken cut).serving (.resumeStation 7 1) ∧ (taken cut).tagNames 2250 3
      { slab2250 with state := .cutting, holder := some 2, rack := none })
    ∧ (((taken 0).plan 2).map (fun p => (p.passCount, p.cuts[p.cutsDone]?, p.cuts[p.cutsDone + 1]?))
        = some (some ((taken 0).station 1).passesTaken, cuts210[0]?, cuts210[1]?)
      ∧ ((taken 3).plan 2).map (fun p => (p.cutsDone + 1, p.cuts.length)) = some (4, 4)
      ∧ ((taken 3).line 1).enabled = true) :=
  ⟨fun _ => ⟨in_service rfl rfl, slab_named (r := { slab2250 with state := .held, holder := some 2 }) rfl (by decide)⟩,
    fun edge => by cases edge <;> decide +kernel,
    fun _ => ⟨in_service rfl rfl,
      slab_named (r := { slab2250 with state := .cutting, holder := some 2, rack := none }) rfl (by decide)⟩,
    by decide +kernel⟩

theorem witness_Abandon :
    ((cell .paused).serving (.abandonPlan 7 2) ∧ (cell .cutting).serving (.abandonPlan 7 2))
    ∧ ((cell .paused).plan 2).map (fun p => (p.state, p.station, p.touched)) = some (.bound, some 1, true)
    ∧ ((cell .staged).plan 2).map (fun p => (p.state, p.station, p.touched)) = some (.bound, some 1, false)
    ∧ (cell .paused).tagNames 2250 3 { slab2250 with state := .cutting, holder := some 2, rack := none } :=
  ⟨⟨in_service rfl rfl, in_service rfl rfl⟩, by decide +kernel, by decide +kernel,
    slab_named (r := { slab2250 with state := .cutting, holder := some 2, rack := none }) rfl (by decide)⟩

/-- The highest number of a line and of a station, and the first beyond it. -/
theorem witness_Reads :
    idle.serving (.readLine 7 4) ∧ idle.serving (.readLine 7 5) ∧ idle.serving (.readStation 7 3)
    ∧ idle.serving (.readStation 7 4) ∧ idle.serving (.readWater 7) :=
  ⟨in_service rfl rfl, in_service rfl rfl, in_service rfl rfl, in_service rfl rfl, in_service rfl rfl⟩

/-- A used blade in a PAUSED station, as wide as its plan's kerf, just deep enough for slab and pass. -/
theorem witness_FitBlade :
    (cell .paused).serving (.fitBlade 7 1 16777215 35 150 300 0 65535 65535 0)
    ∧ (((cell .paused).station 1).state ≠ .staged ∧ ((cell .paused).station 1).plan = some 2
      ∧ ((cell .paused).plan 2).map (fun p => (p.kerf, p.passDepth)) = some (35, some 150)
      ∧ (cell .paused).slabThickness 2250 = 300)
    ∧ ((cell .paused).serving (.fitBlade 7 4 1 20 100 100 0 0 0 0)
      ∧ (cell .paused).serving (.fitBlade 7 1 1 19 100 100 0 0 0 0)
      ∧ (cell .staged).serving (.fitBlade 7 1 1 20 100 600 0 0 0 0)
      ∧ (cell .paused).serving (.fitBlade 7 1 1 36 150 300 0 0 0 0)
      ∧ (cell .paused).serving (.fitBlade 7 1 1 35 150 299 0 0 0 0)
      ∧ (cell .paused).serving (.fitBlade 7 1 1 35 149 300 0 0 0 0)) :=
  ⟨in_service rfl rfl, by decide +kernel, in_service rfl rfl, in_service rfl rfl, in_service rfl rfl,
    in_service rfl rfl, in_service rfl rfl, in_service rfl rfl⟩

/-- A FIT_BLADE of the record its station has. -/
theorem witness_FitBladeOfAnEqualRecord :
    (startable (some blade)).serving (.fitBlade 7 1 40118 30 150 400 60000 210 100 6500)
    ∧ (let s := startable (some blade);
      (s.station 1).state = .ready ∧ (s.station 1).plan = none ∧ s.blade 1 = some blade)
    ∧ fittedBlade 40118 30 150 400 60000 210 100 6500 = blade :=
  ⟨in_service rfl rfl, by decide +kernel, by decide +kernel⟩

theorem witness_RemoveAndReadBlade :
    ((startable (some tight)).serving (.removeBlade 7 1) ∧ ((startable (some tight)).station 1).state = .ready
      ∧ ((startable (some tight)).station 1).plan = none ∧ (startable (some tight)).blade 1 = some tight)
    ∧ ((startable none).blade 1 = none ∧ (startable none).serving (.readBlade 7 1))
    ∧ ((cell .faulted).serving (.removeBlade 7 1) ∧ ((cell .faulted).station 1).plan ≠ none)
    ∧ (startable (some tight)).serving (.readBlade 7 1) :=
  ⟨⟨in_service rfl rfl, by decide +kernel⟩, ⟨by decide +kernel, in_service rfl rfl⟩,
    ⟨in_service rfl rfl, by decide +kernel⟩, in_service rfl rfl⟩

/-- Readings inside each sloping band, and thresholds in order. -/
theorem witness_WaterFactor :
    goodWater.clear = some 500 ∧ goodWater.settling = some 700 ∧ goodWater.link = .live
    ∧ goodWater.kept.thresholds.hold < goodWater.kept.thresholds.low
    ∧ goodWater.kept.thresholds.slow < goodWater.kept.thresholds.stop ∧ Water.afterReset.link ≠ .live := by
  decide +kernel

/-- The cell with the factor given. -/
def cellAt (st : StationState) (factor : Nat) : State :=
  { cell st with water := { (cell st).water with factor := factor } }

/-- Factor 0; a limit that moved by exactly the feed step (base feed 1200: 1200 to 1150) and by one less; a band
below the resume factor; the resume factor at a loaded STAGED station and at one PAUSED for water. -/
theorem witness_FactorReport :
    (((cellAt .cutting 0).station 1).state = .cutting ∧ (cellAt .cutting 0).water.factor = 0
      ∧ ((cellAt .cutting 0).line ((cellAt .cutting 0).stationLine 1)).enabled = true)
    ∧ (0 < (cellAt .cutting 1000).water.factor ∧ ((cellAt .cutting 1000).plan 2).map (·.snapshot)
        = some (some ⟨5, stone⟩)
      ∧ ((cellWith .cutting fun x => { x with lastFeedLimit := some 1150 }).station 1).lastFeedLimit = some 1150
      ∧ 1200 = max stone.minFeed (stone.baseFeed * 1000 / 1000)
      ∧ 1150 + (cell .cutting).settings.feedStep ≤ 1200)
    ∧ 1200 < 1151 + (cell .cutting).settings.feedStep
    ∧ (((cellAt .ready 0).station 1).state = .ready ∧ (cellAt .staged 399).water.factor
        < (cellAt .staged 399).thresholds.resume)
    ∧ (let s := cellAt .staged 400;
      (s.station 1).state = .staged ∧ s.thresholds.resume ≤ s.water.factor
        ∧ (s.station 1).loadedSinceStaging = false)
    ∧ ((cellWith .staged fun x => { x with loadedSinceStaging := true }).station 1).loadedSinceStaging = true
    ∧ (let s := cellWith .paused (fun x => { x with condition := .waterHold });
      (s.station 1).state = .paused ∧ (s.station 1).condition = .waterHold
        ∧ s.thresholds.resume ≤ s.water.factor ∧ s.blade 1 = some blade) := by decide +kernel

theorem witness_PlantAttachDetach :
    (idle.serving (.attachPlant 7) ∧ idle.factorLaw ∧ idle.water.link = .detached)
    ∧ ((cell .cutting).serving (.attachPlant 7) ∧ idle.serving (.detachPlant 7))
    ∧ ((cell .cutting).serving (.detachPlant 7) ∧ (cell .cutting).water.link ≠ .detached
      ∧ 1 ≤ (cell .cutting).thresholds.resume ∧ (∀ i, (cell .cutting).stationLine i ≠ (cell .cutting).plantLine)
      ∧ ((cell .cutting).station 1).state = .cutting ∧ 0 < (cell .cutting).water.factor) :=
  ⟨⟨in_service rfl rfl, by unfold State.factorLaw; decide, rfl⟩, ⟨in_service rfl rfl, in_service rfl rfl⟩,
    in_service rfl rfl, by decide +kernel⟩

/-- The cell with the press in the state given. -/
def pressIn (p : Press) : State :=
  { cell .paused with
    water := { goodWater with press := p, pressTimer := if p = .requested then some 10000 else none } }

/-- Every press state on an open plant line, its timer running in REQUESTED alone. -/
theorem witness_Press (p : Press) :
    ((pressIn p).serving (.pressNow 7) ∧ idle.serving (.pressNow 7) ∧ idle.water.link = .detached)
    ∧ (((pressIn p).line 4).enabled = true ∧ ((pressIn p).line 4).inBreak = false ∧ (pressIn p).userOf 4 = .plant
      ∧ (pressIn p).water.link ≠ .detached ∧ (pressIn p).water.press = p)
    ∧ (p = .idle ∨ p = .running ∨ p = .suspended → (pressIn p).water.pressTimer = none) :=
  ⟨⟨in_service rfl rfl, in_service rfl rfl, rfl⟩, by cases p <;> decide +kernel⟩

/-- No allowance, an allowance of 0 and the greatest; levels in order and out of order. -/
theorem witness_PeriodAndThresholds :
    (idle.serving (.resetPeriod 7 4294967295) ∧ idle.serving (.resetPeriod 7 0)
      ∧ idle.serving (.resetPeriod 7 1000000))
    ∧ (idle.serving (.setWater 7 400 400 300 700 30000 40000 60000 400 1) ∧ ¬ 400 < 400)
    ∧ (idle.serving (.setWater 7 399 400 300 301 40000 40000 40001 200 0)
      ∧ 399 < 400 ∧ 300 < 301 ∧ 40000 ≤ 40000 ∧ 40000 < 40001) :=
  ⟨⟨in_service rfl rfl, in_service rfl rfl, in_service rfl rfl⟩, ⟨in_service rfl rfl, by decide⟩,
    in_service rfl rfl, by decide⟩

/-- A LEVELS with a wrapping meter, on a link that is LIVE and on one that is LISTENING. -/
theorem witness_Levels :
    let s := { idle with lines := put idle.lines 4 openLine, water := goodWater }
    ((s.line 4).enabled = true ∧ (s.line 4).inBreak = false ∧ s.userOf 4 = .plant ∧ s.plantLine = 4
      ∧ s.water.link ≠ .detached ∧ (31 : Byte).toNat < 32 ∧ s.water.kept.periodUsed ≤ 99999999
      ∧ s.overhead.carry < 1000 ∧ s.overhead.processTotal ≤ 999999999)
    ∧ ({ s with water := { goodWater with link := .listening } } : State).water.link = .listening :=
  ⟨by decide +kernel, rfl⟩

/-- No plant attached, no press requested: none of the plant's timers runs. -/
theorem witness_PlantTimersStopped :
    idle.water.link = .detached ∧ idle.water.queryTimer = none ∧ idle.water.staleTimer = none
    ∧ idle.water.press = .idle ∧ idle.water.pressTimer = none ∧ slot idle.water.settle makeUpValve = .stopped := by
  decide +kernel

/-- A settle timer of the make-up valve and one of a cutting station's supply valve that is shut. -/
theorem witness_PlantTimers :
    ((cell .paused).water.link ≠ .detached ∧ (cell .paused).water.queryTimer ≠ none)
    ∧ ((pressIn .requested).water.press = .requested ∧ (pressIn .requested).water.pressTimer ≠ none)
    ∧ (let s := { cell .cutting with water := { (cell .cutting).water with
          settle := Vector.replicate 5 (.running 3000) } };
      slot s.water.settle makeUpValve = .running 3000 ∧ slot s.water.settle (supplyValve 1) = .running 3000
        ∧ s.water.reported = some (Vector.replicate 5 false)
        ∧ slot s.water.commanded (supplyValve 1) = true ∧ (s.station 1).state = .cutting)
    ∧ ((cell .cutting).water.link = .live ∧ 1 ≤ (cell .cutting).thresholds.resume
      ∧ (cell .cutting).water.staleTimer ≠ none)
    ∧ (let s := (cell .cutting).setLine 4 { openLine with breakRun := true };
      s.userOf 4 = .plant ∧ (s.line 4).enabled = true ∧ (s.line 4).inBreak = false
        ∧ (s.line 4).breakRun = true)
    ∧ (∀ link, { (cell .cutting).setLine 4 { openLine with breakRun := true } with
          water := { goodWater with link := link } }.decidesBreak 4 (.breakCharacter 4) 0) :=
  ⟨by decide +kernel, by decide +kernel, by decide +kernel, by decide +kernel, by decide +kernel,
    fun link => .inl ⟨rfl, ⟨0, 0, by cases link <;> decide +kernel⟩, rfl⟩⟩

/-- Jobs 1207 and 1311 with nothing on a plan. -/
def shop : State :=
  { idle with jobs := jobs210 }

/-- Job 1207 closed with nothing designated. -/
def closedShop : State :=
  shop.setJob 0 (some ⟨1207, true, Vector.replicate 8 none, 64266, 2076, false⟩)

theorem named_job {s : State} {number : Nat} {n : Fin 96} {j : Job} (h : 1 ≤ number ∧ number ≤ 65535)
    (hj : s.job n = some j ∧ j.number = number) (hm : ∀ m, ∀ x ∈ s.job m, x.number = number → m = n) :
    s.jobNames number n j := ⟨h.1, h.2, hj.1, hj.2, hm⟩

/-- The greatest job number in slot 2; a line retargeted to what it holds and one below; an absent line removed. -/
theorem witness_JobsOpenedAndLined :
    (shop.serving (.openJob 7 65535) ∧ (∀ m, ∀ j ∈ shop.job m, j.number ≠ 65535) ∧ shop.job 2 = none
      ∧ ∀ m, m < 2 → shop.job m ≠ none)
    ∧ (shop.job 0).map (fun j => (j.number, j.closed, slot j.lines 0, slot j.lines 7))
      = some (1207, false, some (part 1 1), none)
    ∧ (∀ m, ∀ x ∈ shop.job m, x.number = 1207 → m = 0)
    ∧ (shop.serving (.setLine 7 1207 1 1) ∧ shop.serving (.setLine 7 1207 1 0)
      ∧ shop.serving (.setLine 7 1207 8 0) ∧ shop.serving (.setLine 7 1207 8 15))
    ∧ (closedShop.serving (.setLine 7 1207 1 1) ∧ (closedShop.job 0).map (·.closed) = some true) :=
  ⟨⟨in_service rfl rfl, by decide +kernel⟩, by decide +kernel, by decide +kernel,
    ⟨in_service rfl rfl, in_service rfl rfl, in_service rfl rfl, in_service rfl rfl⟩,
    in_service rfl rfl, by decide +kernel⟩

/-- An open job with a designation on line 1, one with none, and a closed one. -/
theorem witness_CloseAndRetireJob :
    let free := shop.setJob 0 (some ⟨1207, false, Vector.replicate 8 none, 0, 0, false⟩)
    (shop.serving (.closeJob 7 1207) ∧ free.serving (.closeJob 7 1207) ∧ closedShop.serving (.closeJob 7 1207))
    ∧ (closedShop.serving (.retireJob 7 1207) ∧ shop.serving (.retireJob 7 1207)
      ∧ shop.serving (.readJob 7 1207) ∧ shop.serving (.readOverhead 7) ∧ shop.serving (.clearOverhead 7))
    ∧ closedShop.jobNames 1207 0 ⟨1207, true, Vector.replicate 8 none, 64266, 2076, false⟩
    ∧ free.jobNames 1207 0 ⟨1207, false, Vector.replicate 8 none, 0, 0, false⟩
    ∧ (shop.job 0).map (fun j => (slot j.lines 0).map fun x => decide (0 < x.designated)) = some (some true) :=
  ⟨⟨in_service rfl rfl, in_service rfl rfl, in_service rfl rfl⟩,
    ⟨in_service rfl rfl, in_service rfl rfl, in_service rfl rfl, in_service rfl rfl, in_service rfl rfl⟩,
    named_job (by decide) (by decide +kernel) (by decide +kernel),
    named_job (by decide) (by decide +kernel) (by decide +kernel), by decide +kernel⟩

/-- R148: of two equal parts the lower piece takes the extra cent. -/
theorem test_extraCent : shares 3 [7, 7] = [2, 1] ∧ [7, 7].sum = 14 ∧ 3 * 7 % 14 = 7 := by decide +kernel

/-- The close of example 7.6: its parts, and a plan of scrap alone. -/
theorem witness_Close :
    0 < [155575000, 47402750, 192150000].sum ∧ boundPlan.snapshot = some ⟨5, stone⟩ ∧ stone.valueFactor ≤ 256
    ∧ 0 < boundPlan.slabArea
    ∧ boundPlan.sumOfLeaves (fun d => decide (d = some .remnant)) ≤ boundPlan.slabArea
    ∧ boundPlan.parts.map (fun x => x.2.2) = [155575000, 47402750, 192150000] ∧ boundPlan.parts ≠ []
    ∧ ((List.finRange 96).all fun n => ((shop.job n).map fun j => j.lines.all fun x =>
        (x.map fun y => decide (y.materialCents ≤ 999999999 ∧ y.processCents ≤ 999999999)).getD true).getD true)
      = true
    ∧ whole.parts = []
    ∧ (shop.overhead.carry < 1000 ∧ shop.overhead.processTotal ≤ 999999999) := by decide +kernel

/-- Jobs 1207 and 1311 named by every part of the close, with totals in range. -/
theorem witness_CloseTotals :
    (boundPlan.parts.all fun x => (shop.jobLine x.1 x.2.1).isSome) = true
    ∧ (shop.jobOf 1207).map (fun x => (x.1, x.2.number, x.2.materialTotal, x.2.processTotal)) = some (0, 1207, 0, 0)
    ∧ ((shop.bookClose boundPlan 5).job 0).isSome = true := by decide +kernel

/-- A queue with a page to take, and a write in each phase, first and second time. -/
def writing (w : PageWrite) : State :=
  { idle with retention := { idle.retention with queue := [slabPage 3], write := some w } }

theorem witness_WriteUnit :
    (let s := { idle with retention := { idle.retention with queue := [slabPage 511, waterPage] } };
      s.retention.queue = slabPage 511 :: [waterPage] ∧ s.retention.write = none ∧ s.supply = .running
        ∧ s.port.status ≠ .starting)
    ∧ idle.retention.queue = [] ∧ idle.retention.write = none
    ∧ (∀ ph retry, (writing ⟨waterPage, none, ph, retry, .blank⟩).retention.write
      = some ⟨waterPage, none, ph, retry, .blank⟩) :=
  ⟨by decide +kernel, rfl, rfl, fun _ _ => rfl⟩

/-- The state after reset; and an array with a valid slab page and a torn one. -/
theorem witness_Restore :
    State.reset.supply = .running ∧ State.reset.port.status = .starting
    ∧ (let s := { State.reset with retention := { State.reset.retention with
        pages := put (put State.reset.retention.pages (slabPage 0) (.valid (.slab slab2250))) waterPage .torn } };
      s.page (slabPage 0) = .valid (.slab slab2250) ∧ s.page waterPage = .torn) := by decide +kernel

/-- R165: a CUTTING slab comes back AVAILABLE, off its rack and interrupted; a flagged one keeps its flag. -/
theorem test_restoredSlab :
    ({ slab2250 with state := .cutting, holder := some 2 } : Slab).restored
      = { slab2250 with rack := none, interrupted := true }
    ∧ ({ slab2250 with interrupted := true } : Slab).restored = { slab2250 with interrupted := true } := by decide

/-- Every supply state; a write in each phase when the reset comes. -/
theorem witness_SupplyAndReset (x : Supply) (ph : WritePhase) (im : Option Image) :
    ({ writing ⟨waterPage, im, ph, false, .blank⟩ with supply := x } : State).supply = x
    ∧ ({ writing ⟨waterPage, im, ph, false, .blank⟩ with supply := x } : State).retention.write
      = some ⟨waterPage, im, ph, false, .blank⟩ := ⟨rfl, rfl⟩

/-- Frames for each check in turn: too short, one byte too many, 65 declared, a bad sum, an unknown kind, a wrong
length for the kind, and a good one. -/
theorem witness_Send :
    (let p := { idle.port with before := some .starting };
      p.before.getD p.status = .starting ∧ p.before.getD p.status ≠ .idle
        ∧ (if 0 = 0 then p.status else .starting) = .idle)
    ∧ idle.supply = .running ∧ idle.port.status = .idle ∧ State.reset.port.status ≠ .idle
    ∧ [(17 : Byte), 65, 0, 0].length < 5 ∧ [(17 : Byte), 65, 0, 0, 174, 0].length ≠ 5 + 0
    ∧ (65 : Byte).toNat + 256 * (0 : Byte).toNat = 65
    ∧ ([(98 : Byte), 65, 0, 0, 94].length = 5 + 0 ∧ [(98 : Byte), 65, 0, 0, 94].sum ≠ 0)
    ∧ ([(0 : Byte), 65, 0, 0, 191].sum = 0 ∧ requestLength (0 : Byte).toNat = none)
    ∧ ([(17 : Byte), 65, 0, 0, 174].sum = 0 ∧ requestLength (17 : Byte).toNat = some 3)
    ∧ ([(98 : Byte), 65, 0, 0, 93].sum = 0 ∧ requestLength (98 : Byte).toNat = some 0) := by decide +kernel

/-- A waiting reply of seven bytes fetched whole and cut short; a part held in reset. -/
theorem witness_Fetch :
    let s := { idle with port := idle.port.replied 65 .ok [37, 0] }
    (s.port.before = some .working ∧ (if 1 = 0 then s.port.status else s.port.before.getD s.port.status) ≠ .reply
      ∧ (0 : Byte) ≠ 161 ∧ (0 : Byte) ≠ 162)
    ∧ s.supply = .running ∧ s.port.status = .reply ∧ s.port.reply = some ⟨.ok, 65, [37, 0]⟩
    ∧ (withCheck ([0, 65] ++ leBytes 2 2 ++ [37, 0])).length = 7 ∧ 7 ≤ 7 ∧ 6 < 7
    ∧ Supply.held true ≠ .running ∧ idle.port.status ≠ .reply := by decide +kernel

theorem witness_Settings :
    idle.serving (.setSettings 7 { Settings.blank with silenceLimit := 65535, badFrameLimit := 0 })
    ∧ idle.serving (.readSettings 7) ∧ idle.serving (.readDevice 7) ∧ idle.serving (.retentionStatus 7) :=
  ⟨in_service rfl rfl, in_service rfl rfl, in_service rfl rfl, in_service rfl rfl⟩

/-- A request served, one the port is WORKING on, and one that finds a reply waiting. -/
theorem witness_EveryRequest :
    (Instr.readWater 7).request? = some ⟨77, 7, []⟩ ∧ idle.serving (.readWater 7)
    ∧ ({ idle with port := { idle.port with status := .working, request := some ⟨77, 7, []⟩ } } : State).serving
      (.readWater 7)
    ∧ ¬ ({ idle with port := idle.port.replied 7 .ok [] } : State).serving (.readWater 7) :=
  ⟨rfl, in_service rfl rfl, ⟨_, rfl, .inr ⟨rfl, rfl⟩⟩, by
    rintro ⟨q, -, h | ⟨h, -⟩⟩ <;> cases h⟩

theorem witness_RequestFrames :
    (Instr.setLine 7 65535 255 255).request? = some ⟨81, 7, [255, 255, 255, 255]⟩
    ∧ (Instr.setLine 7 65535 255 255).wellFormed = true ∧ idle.supply = .running ∧ idle.port.status = .idle
    ∧ idle.port.before = none := by
  decide +kernel

/-- Sources 13 and 5 pending with the floor at HALT's level; at floor 3 nothing qualifies. -/
theorem witness_NextNotice :
    ((notices105 [13, 5] [2]).serving (.nextNotice 7)
      ∧ (∀ src, (slot (notices105 [13, 5] [2]).notices.sources src).level ≤ 3)
      ∧ (slot (notices105 [13, 5] [2]).notices.sources 5).pending = some ⟨.bladeLow 1 7 500, 1⟩
      ∧ (slot (notices105 [13, 5] [2]).notices.sources 5).enabled = true
      ∧ 2 ≤ (slot (notices105 [13, 5] [2]).notices.sources 5).level
      ∧ ∀ other, (slot (notices105 [13, 5] [2]).notices.sources other).pending ≠ none →
        (slot (notices105 [13, 5] [2]).notices.sources other).enabled = true →
        (slot (notices105 [13, 5] [2]).notices.sources other).level
            < (slot (notices105 [13, 5] [2]).notices.sources 5).level
          ∨ ((slot (notices105 [13, 5] [2]).notices.sources other).level
              = (slot (notices105 [13, 5] [2]).notices.sources 5).level ∧ 5 ≤ other))
    ∧ (∀ src, (slot (notices105 [13, 5] [3]).notices.sources src).pending = none
      ∨ (slot (notices105 [13, 5] [3]).notices.sources src).enabled = false
      ∨ (slot (notices105 [13, 5] [3]).notices.sources src).level < 3) :=
  ⟨⟨in_service rfl rfl, by decide +kernel⟩, by decide +kernel⟩

theorem witness_NoticeFloors :
    (notices105 [] []).notices.floors = [] ∧ (notices105 [] [3, 2]).notices.floors = 3 :: [2]
    ∧ (notices105 [] []).serving (.noticeDone 7) ∧ (notices105 [] [3, 2]).serving (.noticeDone 7)
    ∧ idle.serving (.setNotice 7 24 1 3) ∧ idle.serving (.setNotice 7 23 2 3) ∧ idle.serving (.setNotice 7 3 0 255)
    ∧ idle.serving (.setNotice 7 23 0 255) :=
  ⟨rfl, rfl, in_service rfl rfl, in_service rfl rfl, in_service rfl rfl, in_service rfl rfl, in_service rfl rfl,
    in_service rfl rfl⟩

/-- R32: undoing the one cut of a plan gives the plan as OPEN_PLAN made it. -/
theorem test_undoCut :
    (next? (exec (.undoCut 7 2) (planning oneCut .held))).map (fun t => t.plan 2) = some (some whole) := by
  decide +kernel

/-- R59 and R90: the frame at the bad-frame limit makes a CUTTING station FAULTED with LINE_NOISE, and asks it. -/
theorem test_lineNoise :
    (next? (exec (.pressState 1 false false 0 0) (wire { openLine with badCount := 3 }))).map (fun t =>
        ((t.station 1).state, (t.station 1).condition, (t.line 1).badCount, (t.line 1).queue))
      = some (.faulted, .lineNoise, 0, [⟨true, .query⟩]) := by decide +kernel

/-- R100 and R107: a FIT_BLADE of a record equal to the present one enqueues the page as any other does. -/
theorem test_equalBlade :
    (next? (exec (.fitBlade 7 1 40118 30 150 400 60000 210 100 6500) (startable (some blade)))).map
        (fun t => (t.blade 1, t.retention.queue)) = some (some blade, [bladePage 1])
    ∧ (next? (exec (.fitBlade 7 1 40118 30 150 400 60000 211 100 6500) (startable (some blade)))).map
        (fun t => t.retention.queue) = some [bladePage 1] := by decide +kernel

/-- R122 and R175: a period begun anew with nothing changed enqueues nothing; one that only raises ALLOWANCE again
enqueues the page. -/
theorem test_resetPeriodPages :
    (next? (exec (.resetPeriod 7 4294967295) idle)).map (fun t => t.retention.queue) = some []
    ∧ (next? (exec (.resetPeriod 7 0) { idle with water := { idle.water with
          allowanceReached := true, kept := { idle.water.kept with allowance := some 0 } } })).map
        (fun t => t.retention.queue) = some [waterPage] := by decide +kernel

/-! ### Sound states: the premises of the statements that steps keep the laws -/

/-- The cutting cell with a command waiting, a page queued, a floor open and a request in service. -/
def busy : State :=
  { cell .cutting with
    port := { idle.port with status := .working, request := some ⟨77, 7, []⟩ }
    notices := { idle.notices with floors := [3, 1] }
    retention := { idle.retention with queue := [waterPage, slabPage 3] }
    pending := [.readWater 7] }

/-- The premises of the statements that steps keep the laws: a busy state from which a step goes on. -/
theorem witness_StepKeeps_water :
    (∃ t, step busy = .next t) ∧ busy.queueLaw ∧ busy.floorLaw ∧ busy.noticeLaw ∧ busy.portLaw
    ∧ busy.factorLaw ∧ busy.makeUpLaw ∧ busy.supplyValveLaw :=
  ⟨⟨_, rfl⟩, by unfold State.queueLaw; decide +kernel, by unfold State.floorLaw; decide +kernel,
    by unfold State.noticeLaw; decide +kernel, by unfold State.portLaw; decide +kernel,
    by unfold State.factorLaw; decide +kernel, by unfold State.makeUpLaw; decide +kernel,
    by unfold State.supplyValveLaw; decide +kernel⟩

/-- The array of the busy cell is blank and no write is in flight. -/
theorem busy_images (P : Image → Prop) : busy.everyImage P := by
  refine ⟨fun p im h => ?_, fun w h => ?_⟩
  · have e : busy.page p = .blank := by simp [State.page, busy, cell, planning, yardOf, idle, State.reset]
    rw [e] at h; cases h
  · cases h

theorem witness_StepKeeps_lines :
    busy.transmitLaw ∧ busy.lineMapLaw ∧ busy.bindingLaw ∧ busy.closedJobLaw := by
  refine ⟨?_, ⟨by decide +kernel, busy_images _⟩, ?_, ?_⟩
  · unfold State.transmitLaw; decide +kernel
  · unfold State.bindingLaw; decide +kernel
  · intro n j k x hj hc _
    have notClosed : ∀ n, ∀ j ∈ busy.job n, j.closed = false := by decide +kernel
    rw [notClosed n j hj] at hc; cases hc

/-- The slab in the cutting cell. -/
def cutSlab : Slab := { slab2250 with state := .cutting, holder := some 2, rack := none }

theorem witness_StepKeeps_stock :
    busy.tagLaw ∧ busy.rackLaw ∧ busy.slotLaw ∧ busy.holdingLaw := by
  have e : ∀ k x, busy.slab k = some x → k = 3 ∧ x = cutSlab := only_slab rfl
  refine ⟨fun n m r x h1 h2 _ => (e n r h1).1.trans (e m x h2).1.symm,
    ⟨fun q tag => ⟨fun h => ?_, ?_⟩, ?_⟩, ?_, ?_, ?_⟩
  · simp [busy, cell, planning, yardOf, idle, State.reset, Stock.blank] at h
  · rintro ⟨n, r, h, hq, -⟩
    rw [(e n r h).2] at hq; cases hq
  · intro n r h _
    rw [(e n r h).2]; rfl
  · unfold State.slotLaw; decide +kernel
  · intro n r h
    rw [(e n r h).2]
    refine ⟨by decide, fun k hk => ?_⟩
    obtain rfl : (2 : Fin 12) = k := Option.some.inj hk
    exact ⟨{ boundPlan with touched := true }, by decide +kernel, rfl⟩
  · intro k p h
    have hk : ∀ k, ∀ p ∈ busy.plan k, k = 2 ∧ p.slabTag = 2250 := by decide +kernel
    obtain ⟨rfl, hp⟩ := hk k p h
    exact ⟨3, cutSlab, by decide +kernel, hp.symm, rfl⟩

theorem busy_plan (k : Fin 12) (p : Plan) (h : busy.plan k = some p) :
    k = 2 ∧ p = { boundPlan with touched := true } := by
  have e : busy.plans = put idle.plans 2 (some { boundPlan with touched := true }) := rfl
  unfold State.plan at h
  rw [e, slot_put] at h
  split at h
  · next e => exact ⟨e.symm, (Option.some.inj h).symm⟩
  · simp [idle, State.reset] at h

theorem busy_blades : busy.bladeLaw := by
  have h : ∀ i, ∀ b ∈ busy.blade i, b.wearRemaining ≤ b.fittedLife := by decide +kernel
  exact ⟨fun i b e => h i b e, busy_images _, by decide +kernel⟩

theorem busy_jobLines : busy.jobLineLaw := by
  have h : ∀ n, ∀ j ∈ busy.job n, ∀ k, ∀ x ∈ slot j.lines k, x.delivered + x.designated ≤ x.target := by
    decide +kernel
  exact ⟨fun n j e k x f => h n j e k x f, busy_images _⟩

theorem busy_orders : busy.orderLaw := by
  refine ⟨by decide +kernel, by decide +kernel, fun i h => ?_⟩
  have e : ∀ i, (busy.station i).orderOutstanding = true → i = 1 := by decide +kernel
  obtain rfl := e i h
  refine ⟨2, { boundPlan with touched := true }, by decide +kernel, by decide +kernel, by decide +kernel,
    fun f o hf => ?_⟩
  have q : (busy.line (busy.stationLine 1)).queue = [] := by decide +kernel
  rw [q] at hf; cases hf

theorem busy_progress : busy.progressLaw := by
  refine ⟨fun k p h => ?_, fun i k h => ?_⟩
  · obtain ⟨rfl, rfl⟩ := busy_plan k p h
    refine ⟨⟨fun c g hg => ?_, nofun, nofun, nofun,
      fun _ => ⟨2, 159000, _, rfl, rfl, rfl, by decide, by decide +kernel⟩⟩,
      fun _ => ⟨1, rfl, by decide +kernel⟩⟩
    have h : ∀ g ∈ cuts210, g.state = .pending := by decide
    have := h g (List.mem_of_getElem? hg)
    simp [this, boundPlan, locked, laidOut]
  · have e : ∀ i, ∀ k ∈ (busy.station i).plan, i = 1 ∧ k = 2 := by decide +kernel
    obtain ⟨rfl, rfl⟩ := e i k h
    exact ⟨{ boundPlan with touched := true }, by decide +kernel, rfl, rfl, by decide +kernel⟩

/-- Of a job number that no PART leaf names there are no parts. -/
theorem no_parts {p : Plan} {a : Nat} (h : ∀ x ∈ p.pieces.toList, (match x with
    | .leaf _ _ (some (.part n _)) => decide (n ≠ a)
    | _ => true) = true) (b : Fin 8) : p.partsOf a b = 0 := by
  refine List.countP_eq_zero.mpr fun x hx => ?_
  have := h x hx
  split
  · rintro e
    obtain rfl := of_decide_eq_true e
    simp at this
  · simp

theorem busy_designations : busy.designationLaw := by
  have h1 : ∀ n m, ∀ j ∈ busy.job n, ∀ x ∈ busy.job m, j.number = x.number → n = m := by decide +kernel
  have h2 : ∀ b, ((busy.jobLine 1207 b).map (·.designated)).getD 0
      = ((List.finRange 12).map fun k => ((busy.plan k).map (·.partsOf 1207 b)).getD 0).sum := by decide +kernel
  have h3 : ∀ b, ((busy.jobLine 1311 b).map (·.designated)).getD 0
      = ((List.finRange 12).map fun k => ((busy.plan k).map (·.partsOf 1311 b)).getD 0).sum := by decide +kernel
  refine ⟨fun n m j x e f => h1 n m j e x f, fun a b => ?_⟩
  by_cases ha : a = 1207
  · rw [ha]; exact h2 b
  by_cases hc : a = 1311
  · rw [hc]; exact h3 b
  have unnamed : busy.findJob a = none := by
    have hj : ∀ n, ∀ j ∈ busy.job n, j.number = 1207 ∨ j.number = 1311 := by decide +kernel
    refine List.find?_eq_none.mpr fun n _ => ?_
    have := hj n
    revert this
    unfold State.job
    cases slot busy.jobs n with
    | none => simp
    | some j => simp; omega
  have parts : ∀ k, ((busy.plan k).map (·.partsOf a b)).getD 0 = 0 := fun k => by
    cases e : busy.plan k with
    | none => rfl
    | some p =>
      obtain ⟨-, rfl⟩ := busy_plan k p e
      have named : ∀ x ∈ pieces210.toList, (match x with
        | .leaf _ _ (some (.part n _)) => decide (n = 1207 ∨ n = 1311)
        | _ => true) = true := by decide +kernel
      refine no_parts (fun x hx => ?_) b
      have := named x hx
      split
      · simp_all; omega
      · rfl
  simp [State.jobLine, State.jobOf, unnamed, parts]

theorem busy_plans : busy.planLaw := by
  intro k p h
  obtain ⟨rfl, rfl⟩ := busy_plan k p h
  refine ⟨⟨by decide, by decide +kernel, fun j r o e => ?_, by decide, fun c g e => ?_, by decide +kernel⟩,
    3, cutSlab, by decide +kernel, rfl, rfl, by decide +kernel⟩
  · have split : ∀ j, (match slot pieces210 j with
      | .split _ _ => decide (∃ g ∈ cuts210, g.target = j)
      | _ => true) = true := by decide +kernel
    have := split j
    rw [show slot pieces210 j = .split r o from e] at this
    exact of_decide_eq_true this
  · match c, e with
    | 0, e => cases e; exact ⟨by decide, _, _, rfl, by decide +kernel⟩
    | 1, e => cases e; exact ⟨by decide, _, _, rfl, by decide +kernel⟩
    | 2, e => cases e; exact ⟨by decide, _, _, rfl, by decide +kernel⟩
    | 3, e => cases e; exact ⟨by decide, _, _, rfl, by decide +kernel⟩

/-- The premise of the statements about lawful states: the busy cell meets every law. -/
theorem witness_Lawful : Lawful busy := by
  obtain ⟨-, queue, floors, notices, port, factor, makeUp, supplyValves⟩ := witness_StepKeeps_water
  obtain ⟨transmit, lineMap, binding, closedJobs⟩ := witness_StepKeeps_lines
  obtain ⟨tags, rack, slots, holding⟩ := witness_StepKeeps_stock
  have thresholds : busy.thresholdLaw := ⟨by unfold Thresholds.sound; decide +kernel, busy_images _⟩
  exact ⟨queue, floors, notices, port, factor, makeUp, supplyValves, thresholds, busy_blades, transmit, lineMap,
    binding, closedJobs, busy_jobLines, busy_designations, tags, rack, slots, holding, busy_plans, busy_progress,
    busy_orders⟩

end Sys2Proof.Tests
end

/-! The stock and the plans as the steps leave them: reading back one entry, the lookups by tag, and the first four
stock laws (R4, R5, R6, R9) of the operations on the records. -/

namespace Sys2Proof.Machine

/-! ### Reading back one entry -/

theorem station_setStation (s : State) (i j : Fin 4) (x : Station) :
    (s.setStation i x).station j = if i = j then x else s.station j := slot_put ..

theorem plan_setPlan (s : State) (k j : Fin 12) (p : Option Plan) :
    (s.setPlan k p).plan j = if k = j then p else s.plan j := slot_put ..

theorem slab_setSlab (s : State) (n m : Fin 512) (r : Option Slab) :
    (s.setSlab n r).slab m = if n = m then r else s.slab m := slot_put ..

theorem plan_updatePlan (s : State) (k j : Fin 12) (f : Plan → Plan) :
    (s.updatePlan k f).plan j = if k = j then (s.plan k).map f else s.plan j := plan_setPlan ..

@[simp] theorem rackAt_slabs (s : State) (pos : Option (Fin 120)) (x : Option Nat) :
    (s.rackAt pos x).stock.slabs = s.stock.slabs := by
  cases pos <;> rfl

@[simp] theorem rackAt_plans (s : State) (pos : Option (Fin 120)) (x : Option Nat) :
    (s.rackAt pos x).plans = s.plans := by
  cases pos <;> rfl

@[simp] theorem rackAt_stations (s : State) (pos : Option (Fin 120)) (x : Option Nat) :
    (s.rackAt pos x).stations = s.stations := by
  cases pos <;> rfl

@[simp] theorem rackAt_reserved (s : State) (pos : Option (Fin 120)) (x : Option Nat) :
    (s.rackAt pos x).stock.reserved = s.stock.reserved := by
  cases pos <;> rfl

@[simp] theorem rackAt_slab (s : State) (pos : Option (Fin 120)) (x : Option Nat) (n : Fin 512) :
    (s.rackAt pos x).slab n = s.slab n := by
  cases pos <;> rfl

/-- What a position holds once another one, or it, is written. -/
theorem rackAt_rackMap (s : State) (pos : Option (Fin 120)) (x : Option Nat) (q : Fin 120) :
    slot (s.rackAt pos x).stock.rackMap q = if pos = some q then x else slot s.stock.rackMap q := by
  cases pos with
  | none => rfl
  | some p => simp [State.rackAt, slot_put]

theorem slab_rewriteSlab (s : State) (n m : Fin 512) (r : Slab) :
    (s.rewriteSlab n r).slab m = if n = m then some r else s.slab m := slab_setSlab ..

theorem slab_retireSlab (s : State) (n m : Fin 512) (r : Slab) :
    (s.retireSlab n r).slab m = if n = m then none else s.slab m := by
  have h := slab_setSlab (s.rackAt r.rack none) n m none
  rw [rackAt_slab] at h
  exact h

/-! ### Lookup by tag (R4) -/

/-- The slot found carries a record with the tag asked for. -/
theorem slabOf_some {s : State} {tag : Nat} {n : Fin 512} {r : Slab} (h : s.slabOf tag = some (n, r)) :
    s.slab n = some r ∧ r.tag = tag := by
  simp only [State.slabOf, Option.bind_eq_some_iff, Option.map_eq_some_iff, Prod.mk.injEq] at h
  obtain ⟨m, hm, x, hx, rfl, rfl⟩ := h
  have := (lowest_some hm).1
  change (s.slab m).any _ = true at this
  rw [hx] at this
  exact ⟨hx, by simpa using this⟩

/-- No record is found exactly when none carries the tag. -/
theorem slabOf_none {s : State} {tag : Nat} (h : s.slabOf tag = none) (n : Fin 512) (r : Slab)
    (hr : s.slab n = some r) : r.tag ≠ tag := by
  intro e
  have hf := findTag_isSome (s := s) ⟨n, r, hr, e⟩
  rw [Option.isSome_iff_exists] at hf
  obtain ⟨m, hm⟩ := hf
  simp only [State.slabOf, hm, Option.bind_some, Option.map_eq_none_iff] at h
  have := (lowest_some hm).1
  change (s.slab m).any _ = true at this
  simp [h] at this

/-! ### Counting live records (R6) -/

theorem countWhere_eq_card {α : Type} {n : Nat} (v : Vector α n) (p : α → Bool) :
    countWhere v p = (Finset.univ.filter fun i => p (slot v i) = true).card := by
  have h : v.toList = (List.finRange n).map (slot v) := by
    apply List.ext_getElem
    · simp
    · intro i h1 h2
      simp [slot]
  rw [countWhere, h, List.countP_map, List.countP_eq_length_filter, ← List.toFinset_card_of_nodup]
  · congr 1
    ext i
    simp
  · exact (List.nodup_finRange n).filter _

theorem countWhere_le {α : Type} {n : Nat} (v : Vector α n) (p : α → Bool) : countWhere v p ≤ n := by
  rw [countWhere_eq_card]
  exact (Finset.card_le_univ _).trans (by simp)

/-- Taking an entry that passes out of the count, or one that does not into it. -/
theorem countWhere_put {α : Type} {n : Nat} (v : Vector α n) (p : α → Bool) (i : Fin n) (x : α) :
    countWhere (put v i x) p + (if p (slot v i) then 1 else 0)
      = countWhere v p + (if p x then 1 else 0) := by
  have split (w : Vector α n) : countWhere w p
      = ((Finset.univ.erase i).filter fun j => p (slot w j) = true).card + if p (slot w i) then 1 else 0 := by
    rw [countWhere_eq_card, ← Finset.insert_erase (Finset.mem_univ i), Finset.filter_insert]
    split
    · rw [Finset.card_insert_of_notMem (by simp)]; simp
    · simp
  have same : ((Finset.univ.erase i).filter fun j => p (slot (put v i x) j) = true)
      = (Finset.univ.erase i).filter fun j => p (slot v j) = true := by
    apply Finset.filter_congr
    intro j hj
    rw [slot_put_ne v x (Finset.ne_of_mem_erase hj).symm]
  rw [split (put v i x), split v, same, slot_put_same]
  omega

theorem liveSlabs_setSlab_some (s : State) (n : Fin 512) (r : Slab) (h : (s.slab n).isSome) :
    (s.setSlab n (some r)).liveSlabs = s.liveSlabs := by
  have := countWhere_put s.stock.slabs (fun x => x.isSome) n (some r)
  change _ + (if (s.slab n).isSome then 1 else 0) = _ at this
  simp only [h, if_true, Option.isSome_some, Nat.add_right_cancel_iff] at this
  exact this

theorem liveSlabs_setSlab_new (s : State) (n : Fin 512) (r : Slab) (h : s.slab n = none) :
    (s.setSlab n (some r)).liveSlabs = s.liveSlabs + 1 := by
  have := countWhere_put s.stock.slabs (fun x => x.isSome) n (some r)
  change _ + (if (s.slab n).isSome then 1 else 0) = _ at this
  simp only [h, Option.isSome_none, Bool.false_eq_true, if_false, Option.isSome_some, if_true] at this
  exact this

theorem liveSlabs_setSlab_none (s : State) (n : Fin 512) : (s.setSlab n none).liveSlabs ≤ s.liveSlabs := by
  have := countWhere_put s.stock.slabs (fun x => x.isSome) n none
  have e : (s.setSlab n none).liveSlabs = countWhere (put s.stock.slabs n none) (fun x => x.isSome) := rfl
  simp only [Option.isSome_none, Bool.false_eq_true, if_false] at this
  rw [e]; change _ ≤ countWhere s.stock.slabs _; omega

end Sys2Proof.Machine

namespace Sys2Proof.Machine

/-! ### One record replaced: tags and the rack (R4, R9) -/

/-- A record gets new contents under its own tag, or ends. -/
theorem tagLaw_setSlab {s t : State} {n : Fin 512} {r : Slab} {x : Option Slab} (ht : s.tagLaw)
    (hr : s.slab n = some r) (hx : ∀ y, x = some y → y.tag = r.tag)
    (hs : ∀ m, t.slab m = if n = m then x else s.slab m) : t.tagLaw := by
  have back (m : Fin 512) (y : Slab) (hy : t.slab m = some y) : ∃ z, s.slab m = some z ∧ z.tag = y.tag := by
    rw [hs] at hy
    split at hy
    · next e => subst e; exact ⟨r, hr, (hx y hy).symm⟩
    · exact ⟨y, hy, rfl⟩
  intro a b y z hy hz e
  obtain ⟨y', hy', ey⟩ := back a y hy
  obtain ⟨z', hz', ez⟩ := back b z hz
  exact ht a b y' z' hy' hz' (by rw [ey, ez, e])

/-- A record whose tag no other has is new. -/
theorem tagLaw_new {s t : State} {n : Fin 512} {r : Slab} (ht : s.tagLaw)
    (hr : ∀ m y, s.slab m = some y → y.tag ≠ r.tag)
    (hs : ∀ m, t.slab m = if n = m then some r else s.slab m) : t.tagLaw := by
  intro a b y z hy hz e
  rw [hs] at hy hz
  split at hy <;> split at hz
  · next h h' => rw [← h, h']
  · cases hy; exact absurd e.symm (hr b z hz)
  · cases hz; exact absurd e (hr a y hy)
  · exact ht a b y z hy hz e

/-- The record in slot `n` leaves its position for another, or ends (R9, R15, R17, R19). -/
theorem rackLaw_setSlab {s t : State} {n : Fin 512} {r : Slab} {x : Option Slab} (ht : s.tagLaw)
    (hk : s.rackLaw) (hr : s.slab n = some r) (hx : ∀ y, x = some y → y.tag = r.tag)
    (hc : ∀ y, x = some y → y.state = .cutting → y.rack = none)
    (hfree : ∀ y q, x = some y → y.rack = some q → r.rack = some q ∨ slot s.stock.rackMap q = none)
    (hs : ∀ m, t.slab m = if n = m then x else s.slab m)
    (hm : ∀ q, slot t.stock.rackMap q = if (x.bind (·.rack)) = some q then some r.tag
      else if r.rack = some q then none else slot s.stock.rackMap q) : t.rackLaw := by
  obtain ⟨hmap, hcut⟩ := hk
  refine ⟨fun q tag => ?_, fun m y hy hyc => ?_⟩
  · rw [hm]
    constructor
    · intro h
      split at h
      · next hq =>
        cases h
        obtain ⟨y, rfl, hyq⟩ := Option.bind_eq_some_iff.mp hq
        exact ⟨n, y, by rw [hs, if_pos rfl], hyq, hx y rfl⟩
      · split at h
        · cases h
        · next hrq =>
          obtain ⟨m, z, hz, hzq, hzt⟩ := (hmap q tag).mp h
          refine ⟨m, z, ?_, hzq, hzt⟩
          rw [hs, if_neg]
          · exact hz
          · rintro rfl
            rw [hr] at hz; cases hz
            exact hrq hzq
    · rintro ⟨m, z, hz, hzq, hzt⟩
      rw [hs] at hz
      split at hz
      · subst hz
        rw [Option.bind_some, if_pos hzq, ← hzt, hx z rfl]
      · next hnm =>
        have hz' : slot s.stock.rackMap q = some tag := (hmap q tag).mpr ⟨m, z, hz, hzq, hzt⟩
        have hrq : r.rack ≠ some q := by
          intro hrq
          have h2 := (hmap q r.tag).mpr ⟨n, r, hr, hrq, rfl⟩
          rw [hz'] at h2
          cases h2
          exact hnm (ht n m r z hr hz hzt.symm)
        rw [if_neg, if_neg hrq]
        · exact hz'
        · intro hq
          obtain ⟨y, rfl, hyq⟩ := Option.bind_eq_some_iff.mp hq
          rcases hfree y q rfl hyq with h | h
          · exact hrq h
          · rw [hz'] at h; cases h
  · rw [hs] at hy
    split at hy
    · exact hc y hy hyc
    · exact hcut m y hy hyc

/-- A record rewritten where it stands leaves the Rack Map right (R9). -/
theorem rackLaw_rewrite {s t : State} {n : Fin 512} {r y : Slab} (ht : s.tagLaw)
    (hk : s.rackLaw) (hr : s.slab n = some r) (htag : y.tag = r.tag) (hrack : y.rack = r.rack)
    (hc : y.state = .cutting → y.rack = none)
    (hs : ∀ m, t.slab m = if n = m then some y else s.slab m)
    (hm : t.stock.rackMap = s.stock.rackMap) : t.rackLaw := by
  refine rackLaw_setSlab ht hk hr (x := some y) (by simpa using htag) (by simpa using hc) ?_ hs ?_
  · rintro _ q ⟨⟩ hq
    exact .inl (hrack ▸ hq)
  · intro q
    rw [hm, Option.bind_some, hrack]
    split
    · next hq => exact (hk.1 q r.tag).mpr ⟨n, r, hr, hq, rfl⟩
    · rfl

/-- A new record comes to a position that was free, or to none (R9, R12, R21). -/
theorem rackLaw_new {s t : State} {n : Fin 512} {r : Slab} (hk : s.rackLaw) (hn : s.slab n = none)
    (hc : r.state = .cutting → r.rack = none)
    (hfree : ∀ q, r.rack = some q → slot s.stock.rackMap q = none)
    (hs : ∀ m, t.slab m = if n = m then some r else s.slab m)
    (hm : ∀ q, slot t.stock.rackMap q = if r.rack = some q then some r.tag else slot s.stock.rackMap q) :
    t.rackLaw := by
  obtain ⟨hmap, hcut⟩ := hk
  refine ⟨fun q tag => ?_, fun m y hy hyc => ?_⟩
  · rw [hm]
    constructor
    · intro h
      split at h
      · next hq => cases h; exact ⟨n, r, by rw [hs, if_pos rfl], hq, rfl⟩
      · obtain ⟨m, z, hz, hzq, hzt⟩ := (hmap q tag).mp h
        refine ⟨m, z, ?_, hzq, hzt⟩
        rw [hs, if_neg]
        · exact hz
        · rintro rfl; rw [hn] at hz; cases hz
    · rintro ⟨m, z, hz, hzq, hzt⟩
      rw [hs] at hz
      split at hz
      · cases hz; rw [if_pos hzq, hzt]
      · have hz' : slot s.stock.rackMap q = some tag := (hmap q tag).mpr ⟨m, z, hz, hzq, hzt⟩
        rw [if_neg]
        · exact hz'
        · intro hq; rw [hfree q hq] at hz'; cases hz'
  · rw [hs] at hy
    split at hy
    · cases hy; exact hc hyc
    · exact hcut m y hy hyc

/-! ### The remnant tag counter (R8) -/

/-- Where the counter stands after `j` advances, at most 512. -/
theorem nextTag_iterate (c j : Nat) (hj : j ≤ 512) :
    nextTag^[j] c = if c ≤ 16777215 ∧ 16777215 < c + j then c + j - 8388608 else c + j := by
  induction j with
  | zero => simp
  | succ j ih =>
    rw [Function.iterate_succ_apply', ih (by omega), nextTag]
    split <;> split <;> split <;> omega

/-- A tag that is taken after `fuel` tests was reached past taken tags alone. -/
theorem freeTag_taken {s : State} {fuel c : Nat} (h : (s.findTag (s.freeTag fuel c)).isSome) (j : Nat)
    (hj : j ≤ fuel) : (s.findTag (nextTag^[j] c)).isSome := by
  induction fuel generalizing c j with
  | zero => simpa [State.freeTag, Nat.le_zero.mp hj] using h
  | succ fuel ih =>
    rw [State.freeTag] at h
    split at h
    · next hc =>
      cases j with
      | zero => exact hc
      | succ j => exact ih h j (by omega)
    · next hc => exact absurd h hc

/-- The 512 records cannot hold all of the 513 tags that can be met: the tag found is free (R8). -/
theorem freeTag_free (s : State) (c : Nat) (n : Fin 512) (r : Slab) (h : s.slab n = some r) :
    r.tag ≠ s.freeTag 512 c := by
  intro e
  have taken := freeTag_taken (s := s) (fuel := 512) (c := c) (findTag_isSome ⟨n, r, h, e⟩)
  have found (j : Fin 513) : ∃ m x, s.slab m = some x ∧ x.tag = nextTag^[j.val] c := by
    obtain ⟨m, hm⟩ := Option.isSome_iff_exists.mp (taken j.val (by omega))
    have hp := (lowest_some hm).1
    change (s.slab m).any _ = true at hp
    cases hx : s.slab m with
    | none => rw [hx] at hp; cases hp
    | some x => rw [hx] at hp; exact ⟨m, x, hx, by simpa using hp⟩
  choose f x hf hx using found
  have hinj : Function.Injective f := by
    intro i j hij
    have hxx : x i = x j := by
      have := hf i
      rw [hij, hf j] at this
      exact (Option.some.inj this).symm
    have hk : nextTag^[i.val] c = nextTag^[j.val] c := by rw [← hx i, hxx, hx j]
    rw [nextTag_iterate c i (by omega), nextTag_iterate c j (by omega)] at hk
    apply Fin.ext
    split at hk <;> split at hk <;> omega
  have := Fintype.card_le_of_injective f hinj
  simp at this

end Sys2Proof.Machine

namespace Sys2Proof.Machine

/-! ### What a plan's course leaves alone -/

/-- What plans rest on in the record of their slab (R5, R27): its tag, its size, its holder, and whether it is free. -/
def Slab.footing (r : Slab) : Nat × Nat × Nat × Option (Fin 12) × Bool :=
  (r.tag, r.length, r.width, r.holder, decide (r.state = .available))

/-- A plan but for its pool, of which neither its geometry nor its progress speaks (R29, R41, R46). -/
def Plan.course (p : Plan) : Plan := { p with pool := 0, poolSaturated := false }

/-- From `s` to `t` no plan is begun, moved on or let go, and no record comes, goes or changes hands; pools grow, a HELD
slab may be CUTTING, and the Rack Map goes with the positions. -/
structure Undisturbed (s t : State) : Prop where
  plans : ∀ k, (t.plan k).map Plan.course = (s.plan k).map Plan.course
  stations : ∀ i, (t.station i).plan = (s.station i).plan
    ∧ ((s.station i).plan.isSome → (t.station i).passesTaken = (s.station i).passesTaken)
  slabs : ∀ n, (t.slab n).map Slab.footing = (s.slab n).map Slab.footing
  reserved : t.stock.reserved = s.stock.reserved
  rack : s.tagLaw → s.rackLaw → t.rackLaw

section Undisturbed

variable {s t u : State}

/-- A table of records, up to what `f` reads of them, holds at each index what the other does. -/
theorem map_eq_back {α β : Type} {f : α → β} {x y : Option α} (h : x.map f = y.map f) {a : α}
    (ha : x = some a) : ∃ b, y = some b ∧ f b = f a := by
  subst ha
  rw [Option.map_some, eq_comm, Option.map_eq_some_iff] at h
  exact h

theorem Undisturbed.slab_back (h : Undisturbed s t) {n : Fin 512} {r : Slab} (hr : t.slab n = some r) :
    ∃ x, s.slab n = some x ∧ x.footing = r.footing := map_eq_back (h.slabs n) hr

theorem Undisturbed.slab_on (h : Undisturbed s t) {n : Fin 512} {r : Slab} (hr : s.slab n = some r) :
    ∃ x, t.slab n = some x ∧ x.footing = r.footing := map_eq_back (h.slabs n).symm hr

theorem Undisturbed.plan_back (h : Undisturbed s t) {k : Fin 12} {p : Plan} (hp : t.plan k = some p) :
    ∃ q, s.plan k = some q ∧ q.course = p.course := map_eq_back (h.plans k) hp

theorem Undisturbed.plan_on (h : Undisturbed s t) {k : Fin 12} {p : Plan} (hp : s.plan k = some p) :
    ∃ q, t.plan k = some q ∧ q.course = p.course := map_eq_back (h.plans k).symm hp

theorem Undisturbed.tagLaw (h : Undisturbed s t) (ht : s.tagLaw) : t.tagLaw := by
  intro n m r x hr hx e
  obtain ⟨r', hr', er⟩ := h.slab_back hr
  obtain ⟨x', hx', ex⟩ := h.slab_back hx
  exact ht n m r' x' hr' hx' ((congrArg (·.1) er).trans (e.trans (congrArg (·.1) ex).symm))

theorem Undisturbed.refl (s : State) : Undisturbed s s :=
  ⟨fun _ => rfl, fun _ => ⟨rfl, fun _ => rfl⟩, fun _ => rfl, rfl, fun _ h => h⟩

theorem Undisturbed.trans (h : Undisturbed s t) (g : Undisturbed t u) : Undisturbed s u where
  plans k := (g.plans k).trans (h.plans k)
  stations i := ⟨(g.stations i).1.trans (h.stations i).1,
    fun hp => ((g.stations i).2 ((h.stations i).1 ▸ hp)).trans ((h.stations i).2 hp)⟩
  slabs n := (g.slabs n).trans (h.slabs n)
  reserved := g.reserved.trans h.reserved
  rack ht hr := g.rack (h.tagLaw ht) (h.rack ht hr)

/-- A state with the same stock, plans and stations. -/
theorem Undisturbed.of_fields (h1 : t.stock = s.stock) (h2 : t.plans = s.plans)
    (h3 : t.stations = s.stations) : Undisturbed s t where
  plans k := by simp [State.plan, h2]
  stations i := by simp [State.station, h3]
  slabs n := by simp [State.slab, h1]
  reserved := by rw [h1]
  rack _ hr := by unfold State.rackLaw State.slab at hr ⊢; rw [h1]; exact hr

theorem Undisturbed.foldl {α : Type} {f : State → α → State} (h : ∀ s a, Undisturbed s (f s a)) (xs : List α)
    (s : State) : Undisturbed s (xs.foldl f s) := by
  induction xs generalizing s with
  | nil => exact .refl s
  | cons a as ih => exact (h s a).trans (ih (f s a))

theorem Undisturbed.ite {c : Prop} [Decidable c] (h : Undisturbed s t) (g : Undisturbed s u) :
    Undisturbed s (if c then t else u) := by
  split
  · exact h
  · exact g

/-! The four laws of the records and plans, and those of the plans' courses, are carried over. -/

theorem course_footing {r x : Slab} (e : x.footing = r.footing) : x.tag = r.tag ∧ x.length = r.length
    ∧ x.width = r.width ∧ x.holder = r.holder ∧ (x.state = .available ↔ r.state = .available) := by
  simpa [Slab.footing] using e

theorem course_fields {p q : Plan} (e : q.course = p.course) : q.slabTag = p.slabTag ∧ q.pieces = p.pieces
    ∧ q.state = p.state ∧ q.station = p.station ∧ q.passesReported = p.passesReported := by
  simp only [Plan.course, Plan.mk.injEq] at e
  tauto

theorem liveSlabs_congr (h : ∀ n, (t.slab n).isSome = (s.slab n).isSome) : t.liveSlabs = s.liveSlabs := by
  have e : (Finset.univ.filter fun n => (slot t.stock.slabs n).isSome = true)
      = Finset.univ.filter fun n => (slot s.stock.slabs n).isSome = true :=
    Finset.filter_congr fun n _ => iff_of_eq (congrArg (· = true) (h n))
  rw [State.liveSlabs, State.liveSlabs, countWhere_eq_card, countWhere_eq_card, e]

theorem Undisturbed.slotLaw (h : Undisturbed s t) (hl : s.slotLaw) : t.slotLaw := by
  have e : t.liveSlabs = s.liveSlabs := liveSlabs_congr fun n => by
    simpa using congrArg Option.isSome (h.slabs n)
  unfold State.slotLaw at hl ⊢
  rw [e, h.reserved]
  exact hl

theorem Undisturbed.holdingLaw (h : Undisturbed s t) (hl : s.holdingLaw) : t.holdingLaw := by
  obtain ⟨hrec, hplan⟩ := hl
  refine ⟨fun n r hr => ?_, fun k p hp => ?_⟩
  · obtain ⟨x, hx, ex⟩ := h.slab_back hr
    obtain ⟨htag, -, -, hhold, hav⟩ := course_footing ex
    refine ⟨by rw [← hav, ← hhold]; exact (hrec n x hx).1, fun k hk => ?_⟩
    obtain ⟨p, hp, hpt⟩ := (hrec n x hx).2 k (hhold.trans hk)
    obtain ⟨q, hq, eq⟩ := h.plan_on hp
    exact ⟨q, hq, (course_fields eq).1.trans (hpt.trans htag)⟩
  · obtain ⟨q, hq, eq⟩ := h.plan_back hp
    obtain ⟨n, r, hr, hrt, hrh⟩ := hplan k q hq
    obtain ⟨x, hx, ex⟩ := h.slab_on hr
    obtain ⟨htag, -, -, hhold, -⟩ := course_footing ex
    exact ⟨n, x, hx, htag.trans (hrt.trans (course_fields eq).1), hhold.trans hrh⟩

theorem wellCut_congr {p q : Plan} (e : q.course = p.course) : q.wellCut ↔ p.wellCut := by
  have h : q.course.wellCut ↔ p.course.wellCut := by rw [e]
  exact h

theorem onCourse_congr {p q : Plan} (e : q.course = p.course) : q.onCourse ↔ p.onCourse := by
  have h : q.course.onCourse ↔ p.course.onCourse := by rw [e]
  exact h

theorem Undisturbed.planLaw (h : Undisturbed s t) (hl : s.planLaw) : t.planLaw := by
  intro k p hp
  obtain ⟨q, hq, eq⟩ := h.plan_back hp
  obtain ⟨hcut, n, r, hr, hrt, hrh, hrect⟩ := hl k q hq
  obtain ⟨x, hx, ex⟩ := h.slab_on hr
  obtain ⟨htag, hlen, hwid, hhold, -⟩ := course_footing ex
  refine ⟨(wellCut_congr eq).mp hcut, n, x, hx, htag.trans (hrt.trans (course_fields eq).1),
    hhold.trans hrh, ?_⟩
  rw [← (course_fields eq).2.1, hrect, hlen, hwid]

/-- The progress law of every plan but the one in slot `k` (R41, R46, R74). -/
def State.progressBut (s : State) (k : Fin 12) : Prop :=
  (∀ k' p, k' ≠ k → s.plan k' = some p → p.onCourse
      ∧ (p.state = .bound → ∃ i', p.station = some i' ∧ (s.station i').plan = some k'))
    ∧ ∀ i' k', k' ≠ k → (s.station i').plan = some k' → ∃ p, s.plan k' = some p ∧ p.state = .bound
      ∧ p.station = some i' ∧ p.passesReported = (s.station i').passesTaken

theorem State.progressLaw.but {s : State} (h : s.progressLaw) (k : Fin 12) : s.progressBut k :=
  ⟨fun k' p _ => h.1 k' p, fun i' k' _ => h.2 i' k'⟩

theorem Undisturbed.progressPlan (h : Undisturbed s t) {k : Fin 12} {p q : Plan} (e : q.course = p.course)
    (hl : q.onCourse ∧ (q.state = .bound → ∃ i, q.station = some i ∧ (s.station i).plan = some k)) :
    p.onCourse ∧ (p.state = .bound → ∃ i, p.station = some i ∧ (t.station i).plan = some k) := by
  refine ⟨(onCourse_congr e).mp hl.1, fun hb => ?_⟩
  obtain ⟨-, -, hstate, hstation, -⟩ := course_fields e
  obtain ⟨i, hi, hik⟩ := hl.2 (hstate.trans hb)
  exact ⟨i, hstation.symm.trans hi, (h.stations i).1.trans hik⟩

theorem Undisturbed.progressStation (h : Undisturbed s t) {i : Fin 4} {k : Fin 12}
    (hi : (t.station i).plan = some k)
    (hl : ∃ p, s.plan k = some p ∧ p.state = .bound ∧ p.station = some i
      ∧ p.passesReported = (s.station i).passesTaken) :
    ∃ p, t.plan k = some p ∧ p.state = .bound ∧ p.station = some i
      ∧ p.passesReported = (t.station i).passesTaken := by
  obtain ⟨p, hp, hb, hpi, hn⟩ := hl
  obtain ⟨q, hq, e⟩ := h.plan_on hp
  obtain ⟨-, -, hstate, hstation, hpasses⟩ := course_fields e
  exact ⟨q, hq, hstate.trans hb, hstation.trans hpi, hpasses.trans (hn.trans ((h.stations i).2
    (by rw [← (h.stations i).1, hi]; rfl)).symm)⟩

theorem Undisturbed.progressLaw (h : Undisturbed s t) (hl : s.progressLaw) : t.progressLaw := by
  refine ⟨fun k p hp => ?_, fun i k hk => ?_⟩
  · obtain ⟨q, hq, e⟩ := h.plan_back hp
    exact h.progressPlan e (hl.1 k q hq)
  · exact h.progressStation hk (hl.2 i k ((h.stations i).1.symm.trans hk))

theorem Undisturbed.progressBut (h : Undisturbed s t) {k : Fin 12} (hl : s.progressBut k) :
    t.progressBut k := by
  refine ⟨fun k' p hk hpk => ?_, fun i' k' hk hik => ?_⟩
  · obtain ⟨q, hq, e⟩ := h.plan_back hpk
    exact h.progressPlan e (hl.1 k' q hk hq)
  · exact h.progressStation hik (hl.2 i' k' hk ((h.stations i').1.symm.trans hik))

end Undisturbed

/-! ### What every step keeps of the stock and the plans -/

/-- The laws a plan's course rests on, together (R4, R5, R27, R29, R41, R46). -/
structure State.Sound (s : State) : Prop where
  tags : s.tagLaw
  holding : s.holdingLaw
  plans : s.planLaw
  progress : s.progressLaw

/-- From `s` to `t` the laws of the records alone are kept (R4, R6, R9). -/
structure RecordsKept (s t : State) : Prop where
  tag : s.tagLaw → t.tagLaw
  rack : s.tagLaw → s.rackLaw → t.rackLaw
  slots : s.slotLaw → t.slotLaw

/-- From `s` to `t` the laws of the records and plans are kept, and, where `c` holds, those of the plans' courses. -/
structure StockKept (c : Prop) (s t : State) : Prop where
  records : RecordsKept s t
  holding : s.tagLaw → s.holdingLaw → t.holdingLaw
  sound : c → s.Sound → t.Sound

section StockKept

variable {c : Prop} {s t u : State}

theorem RecordsKept.refl (s : State) : RecordsKept s s := ⟨id, fun _ => id, id⟩

theorem RecordsKept.trans (h : RecordsKept s t) (g : RecordsKept t u) : RecordsKept s u where
  tag ht := g.tag (h.tag ht)
  rack ht hr := g.rack (h.tag ht) (h.rack ht hr)
  slots hl := g.slots (h.slots hl)

theorem RecordsKept.foldl {α : Type} {f : State → α → State} (h : ∀ s a, RecordsKept s (f s a)) (xs : List α)
    (s : State) : RecordsKept s (xs.foldl f s) := by
  induction xs generalizing s with
  | nil => exact .refl s
  | cons a as ih => exact (h s a).trans (ih (f s a))

theorem Undisturbed.records (h : Undisturbed s t) : RecordsKept s t := ⟨h.tagLaw, h.rack, h.slotLaw⟩

/-- A state with the same stock. -/
theorem RecordsKept.of_stock (h : t.stock = s.stock) : RecordsKept s t where
  tag ht := by unfold State.tagLaw State.slab at ht ⊢; rw [h]; exact ht
  rack _ hr := by unfold State.rackLaw State.slab at hr ⊢; rw [h]; exact hr
  slots hl := by unfold State.slotLaw State.liveSlabs at hl ⊢; rw [h]; exact hl

theorem StockKept.refl (s : State) : StockKept c s s := ⟨.refl s, fun _ => id, fun _ => id⟩

theorem StockKept.trans (h : StockKept c s t) (g : StockKept c t u) : StockKept c s u where
  records := h.records.trans g.records
  holding ht hl := g.holding (h.records.tag ht) (h.holding ht hl)
  sound hc hs := g.sound hc (h.sound hc hs)

theorem Undisturbed.kept (h : Undisturbed s t) : StockKept c s t where
  records := h.records
  holding _ := h.holdingLaw
  sound _ hs := ⟨h.tagLaw hs.tags, h.holdingLaw hs.holding, h.planLaw hs.plans, h.progressLaw hs.progress⟩

theorem StockKept.ite {p : Prop} [Decidable p] (h : StockKept c s t) (g : StockKept c s u) :
    StockKept c s (if p then t else u) := by
  split
  · exact h
  · exact g

theorem StockKept.foldl {α : Type} {f : State → α → State} (h : ∀ s a, StockKept c s (f s a)) (xs : List α)
    (s : State) : StockKept c s (xs.foldl f s) := by
  induction xs generalizing s with
  | nil => exact .refl s
  | cons a as ih => exact (h s a).trans (ih (f s a))

end StockKept

end Sys2Proof.Machine

namespace Sys2Proof.Machine

/-! ### The operations that disturb no plan -/

section Operations

variable {s t : State}

theorem undisturbed_setLine (s : State) (l : Fin 5) (x : Line) : Undisturbed s (s.setLine l x) :=
  .of_fields rfl rfl rfl
theorem undisturbed_setBlade (s : State) (i : Fin 4) (b : Option Blade) : Undisturbed s (s.setBlade i b) :=
  .of_fields rfl rfl rfl
theorem undisturbed_setJob (s : State) (n : Fin 96) (j : Option Job) : Undisturbed s (s.setJob n j) :=
  .of_fields rfl rfl rfl
theorem undisturbed_onWater (s : State) (f : Water → Water) : Undisturbed s (s.onWater f) :=
  .of_fields rfl rfl rfl
theorem undisturbed_setKept (s : State) (k : WaterRetained) : Undisturbed s (s.setKept k) :=
  .of_fields rfl rfl rfl
theorem undisturbed_enqueue (s : State) (p : Fin 648) : Undisturbed s (s.enqueue p) := .of_fields rfl rfl rfl
theorem undisturbed_raise (s : State) (src : Fin 24) (d : Detail) : Undisturbed s (s.raise src d) :=
  .of_fields rfl rfl rfl
theorem undisturbed_answer (s : State) (echo : Byte) (code : ReplyCode) (fs : List Byte) :
    Undisturbed s (s.answer echo code fs) := .of_fields rfl rfl rfl

/-- A station record that names the same plan and as many passes. -/
theorem undisturbed_setStation {i : Fin 4} {x : Station} (h1 : x.plan = (s.station i).plan)
    (h2 : (s.station i).plan.isSome → x.passesTaken = (s.station i).passesTaken) :
    Undisturbed s (s.setStation i x) where
  plans _ := rfl
  stations j := by
    rw [station_setStation]
    split
    · next e => subst e; exact ⟨h1, h2⟩
    · exact ⟨rfl, fun _ => rfl⟩
  slabs _ := rfl
  reserved := rfl
  rack _ h := h

/-- A plan of which only the pool changes. -/
theorem undisturbed_updatePlan {k : Fin 12} {f : Plan → Plan} (h : ∀ p, (f p).course = p.course) :
    Undisturbed s (s.updatePlan k f) where
  plans j := by
    rw [plan_updatePlan]
    split
    · next e => subst e; rw [Option.map_map]; exact congrFun (congrArg _ (funext h)) _
    · rfl
  stations _ := ⟨rfl, fun _ => rfl⟩
  slabs _ := rfl
  reserved := rfl
  rack _ h := h

theorem undisturbed_addPool (s : State) (k : Fin 12) (mc : Nat) :
    Undisturbed s (s.updatePlan k fun p => p.addPool mc) := undisturbed_updatePlan fun _ => rfl

/-- The record in slot `n` keeps what plans rest on and its tag, and the Rack Map goes with its position. -/
theorem undisturbed_firstOrder (s : State) (tag : Nat) : Undisturbed s (s.firstOrder tag) := by
  unfold State.firstOrder
  split
  · exact .refl s
  · next n r h =>
    obtain ⟨hr, -⟩ := slabOf_some h
    split
    · next hheld =>
      have hs (m : Fin 512) : ((s.rackAt r.rack none).rewriteSlab n
          { r with state := .cutting, rack := none }).slab m
            = if n = m then some { r with state := .cutting, rack := none } else s.slab m := by
        rw [slab_rewriteSlab, rackAt_slab]
      refine ⟨fun k => ?_, fun i => ?_, fun m => ?_, rackAt_reserved .., fun ht hk => ?_⟩
      · exact congrArg (Option.map Plan.course) (congrArg (slot · k) (rackAt_plans ..))
      · have hst : ((s.rackAt r.rack none).rewriteSlab n { r with state := .cutting, rack := none }).stations
            = s.stations := rackAt_stations s r.rack none
        rw [State.station, hst]
        exact ⟨rfl, fun _ => rfl⟩
      · rw [hs]
        split
        · next e => subst e; rw [hr]; simp [Slab.footing, hheld]
        · rfl
      · refine rackLaw_setSlab ht hk hr (x := some _) ?_ ?_ ?_ hs fun q => ?_
        · rintro _ ⟨⟩; rfl
        · rintro _ ⟨⟩ _; rfl
        · rintro _ q ⟨⟩ hq; cases hq
        · exact rackAt_rackMap s r.rack none q
    · exact .refl s

theorem undisturbed_bookOverhead (s : State) (f : Overhead → Overhead) : Undisturbed s (s.bookOverhead f) :=
  .ite (.refl s) (.of_fields rfl rfl rfl)

theorem undisturbed_updateJobLine (s : State) (n : Nat) (k : Fin 8) (f : JobLine → JobLine) :
    Undisturbed s (s.updateJobLine n k f) := by
  unfold State.updateJobLine
  split
  · exact .refl s
  · split
    · exact .refl s
    · exact .of_fields rfl rfl rfl

/-! Lines and valves -/

theorem undisturbed_handFrame (s : State) (l : Fin 5) (f : TxFrame) : Undisturbed s (s.handFrame l f) :=
  .ite (undisturbed_setLine ..) (.refl s)

theorem undisturbed_handSaw (s : State) (i : Fin 4) (m : TxMessage) : Undisturbed s (s.handSaw i m) :=
  undisturbed_handFrame ..

theorem undisturbed_handPlant (s : State) (m : TxMessage) : Undisturbed s (s.handPlant m) :=
  undisturbed_handFrame ..

theorem undisturbed_handHold (s : State) (i : Fin 4) : Undisturbed s (s.handHold i) :=
  .ite ((undisturbed_handSaw ..).trans (undisturbed_setStation (by rfl) (fun _ => by rfl))) (undisturbed_handSaw ..)

theorem undisturbed_settleTest (s : State) (v : Fin 5) : Undisturbed s (s.settleTest v) := by
  unfold State.settleTest
  split
  · exact undisturbed_onWater ..
  · exact .refl s

theorem undisturbed_commandValve (s : State) (v : Fin 5) (b : Bool) : Undisturbed s (s.commandValve v b) :=
  .ite (.refl s) (((undisturbed_onWater ..).trans (undisturbed_handPlant ..)).trans (undisturbed_settleTest ..))

/-! Stations -/

theorem undisturbed_enterState (s : State) (i : Fin 4) (x : StationState) : Undisturbed s (s.enterState i x) :=
  .ite (undisturbed_setStation (by rfl) (fun _ => by rfl))
    ((undisturbed_setStation (by rfl) (fun _ => by rfl)).trans
      (undisturbed_commandValve ..))

theorem undisturbed_setCondition (s : State) (i : Fin 4) (c : Condition) :
    Undisturbed s (s.setCondition i c) := undisturbed_setStation (by rfl) (fun _ => by rfl)

theorem undisturbed_forgetMode (s : State) (i : Fin 4) : Undisturbed s (s.forgetMode i) :=
  undisturbed_setStation (by rfl) (fun _ => by rfl)

theorem undisturbed_raiseHalt (s : State) (i : Fin 4) (c : Condition) : Undisturbed s (s.raiseHalt i c) :=
  undisturbed_raise ..

theorem undisturbed_raiseStop (s : State) (i : Fin 4) : Undisturbed s (s.raiseStop i) := by
  unfold State.raiseStop
  dsimp only
  split
  · exact undisturbed_raise ..
  · exact .refl s
  · exact undisturbed_raiseHalt ..

theorem undisturbed_faultStation (s : State) (i : Fin 4) (c : Condition) :
    Undisturbed s (s.faultStation i c) :=
  ((undisturbed_setStation (by rfl) (fun _ => by rfl)).trans (undisturbed_enterState ..)).trans
    (undisturbed_raiseStop ..)

theorem undisturbed_linkFault (s : State) (i : Fin 4) (c : Condition) : Undisturbed s (s.linkFault i c) :=
  ((undisturbed_forgetMode ..).trans (undisturbed_faultStation ..)).trans (undisturbed_handSaw ..)

theorem undisturbed_dispatch (s : State) (i : Fin 4) : Undisturbed s (s.dispatch i) := by
  unfold State.dispatch
  split
  · exact .refl s
  · split
    · exact .refl s
    · refine (((undisturbed_setStation (by rfl) (fun _ => by rfl)).trans (undisturbed_handSaw ..)).trans
        (undisturbed_setStation (by rfl) (fun _ => by rfl))).trans (undisturbed_firstOrder ..)

theorem undisturbed_dispatchAndCut (s : State) (i : Fin 4) : Undisturbed s (s.dispatchAndCut i) :=
  ((undisturbed_dispatch ..).trans (undisturbed_setCondition ..)).trans (undisturbed_enterState ..)

theorem undisturbed_tryStaged (s : State) (i : Fin 4) : Undisturbed s (s.tryStaged i) :=
  .ite (undisturbed_dispatchAndCut ..) (.refl s)

theorem undisturbed_holdStation (s : State) (i : Fin 4) (c : Condition) : Undisturbed s (s.holdStation i c) := by
  unfold State.holdStation
  split
  · exact ((undisturbed_handHold ..).trans (undisturbed_setStation (by rfl) (fun _ => by rfl))).trans
      (undisturbed_enterState ..)
  · exact .ite (undisturbed_setCondition ..) (.refl s)
  · exact .refl s

theorem undisturbed_updateFeed (s : State) (i : Fin 4) : Undisturbed s (s.updateFeed i) := by
  unfold State.updateFeed
  split
  · exact .refl s
  · exact .ite ((undisturbed_handSaw ..).trans (undisturbed_setStation (by rfl) (fun _ => by rfl))) (.refl s)

theorem undisturbed_stopAcceptWait (s : State) (i : Fin 4) : Undisturbed s (s.stopAcceptWait i) :=
  .ite (undisturbed_setStation (by rfl) (fun _ => by rfl)) (.refl s)

theorem undisturbed_superviseAgain (s : State) (i : Fin 4) : Undisturbed s (s.superviseAgain i) := by
  unfold State.superviseAgain
  dsimp only
  split
  · exact undisturbed_setStation (by rfl) (fun _ => by rfl)
  · exact undisturbed_setStation (by rfl) (fun _ => by rfl)
  · exact .refl s

theorem undisturbed_countProgress (s : State) (i : Fin 4) (k : Fin 12) (a b : Nat) :
    Undisturbed s (s.countProgress i k a b) :=
  .ite (.refl s) (.ite ((undisturbed_setStation (by rfl) (fun _ => by rfl)).trans (undisturbed_raise ..))
    (undisturbed_setStation (by rfl) (fun _ => by rfl)))

theorem undisturbed_passWear (s : State) (i : Fin 4) (a b c : Nat) : Undisturbed s (s.passWear i a b c).1 := by
  unfold State.passWear
  split
  · exact .refl s
  · exact .trans (.ite ((undisturbed_setBlade ..).trans (undisturbed_raise ..)) (undisturbed_setBlade ..))
      (undisturbed_enqueue ..)

theorem undisturbed_pauseWorn (s : State) (i : Fin 4) : Undisturbed s (s.pauseWorn i) :=
  ((undisturbed_setStation (by rfl) (fun _ => by rfl)).trans (undisturbed_enterState ..)).trans
    (undisturbed_raiseStop ..)

theorem undisturbed_takeFault (s : State) (i : Fin 4) (a b : Nat) : Undisturbed s (s.takeFault i a b) :=
  (undisturbed_setStation (by rfl) (fun _ => by rfl)).trans
    (undisturbed_faultStation ..)

theorem undisturbed_becomeReady (s : State) (i : Fin 4) : Undisturbed s (s.becomeReady i) :=
  (undisturbed_setStation (by rfl) (fun _ => by rfl)).trans (undisturbed_enterState ..)

theorem undisturbed_restartHoldWait (s : State) (i : Fin 4) : Undisturbed s (s.restartHoldWait i) :=
  .ite (undisturbed_setStation (by rfl) (fun _ => by rfl)) (.refl s)

/-! Water -/

theorem undisturbed_decideMakeUp (s : State) : Undisturbed s s.decideMakeUp := undisturbed_commandValve ..

theorem undisturbed_testAllowance (s : State) : Undisturbed s s.testAllowance :=
  .ite ((undisturbed_onWater ..).trans (undisturbed_raise ..)) (.refl s)

theorem undisturbed_requestPress (s : State) : Undisturbed s s.requestPress :=
  (undisturbed_onWater ..).trans (undisturbed_handPlant ..)

theorem undisturbed_autoPress (s : State) : Undisturbed s s.autoPress :=
  .ite (undisturbed_requestPress ..) (.refl s)

theorem undisturbed_raisePlant (s : State) (e : PlantEvent) (c : Option StaleCause) :
    Undisturbed s (s.raisePlant e c) := undisturbed_raise ..

theorem undisturbed_bookFresh (s : State) (n : Nat) : Undisturbed s (s.bookFresh n) :=
  .ite (((undisturbed_setKept ..).trans (undisturbed_bookOverhead ..)).trans (undisturbed_onWater ..))
    (((((undisturbed_setKept ..).trans (undisturbed_bookOverhead ..)).trans (undisturbed_onWater ..)).trans
      (undisturbed_enqueue ..)).trans (undisturbed_testAllowance ..))

theorem undisturbed_bookDraw (s : State) (d : Vector Nat 4) (i : Fin 4) : Undisturbed s (s.bookDraw d i) := by
  unfold State.bookDraw
  split
  · exact undisturbed_addPool ..
  · exact undisturbed_bookOverhead ..

theorem undisturbed_meterAndDraw (s : State) (r : LevelsReport) : Undisturbed s (s.meterAndDraw r) :=
  .ite (undisturbed_onWater ..) ((undisturbed_bookFresh ..).trans (.foldl (fun _ _ => undisturbed_bookDraw ..) _ _))

theorem undisturbed_enterLive (s : State) (b : Byte) : Undisturbed s (s.enterLive b) :=
  .ite ((undisturbed_onWater ..).trans (undisturbed_raisePlant ..)) (undisturbed_onWater ..)

theorem undisturbed_testValves (s : State) : Undisturbed s s.testValves :=
  .foldl (fun _ _ => undisturbed_settleTest ..) _ _

theorem undisturbed_raisePress (s : State) (e : PressEvent) (c : Option Nat) :
    Undisturbed s (s.raisePress e c) := undisturbed_raise ..

theorem undisturbed_newPeriod (s : State) (a : Option Nat) : Undisturbed s (s.newPeriod a) :=
  (((undisturbed_setKept ..).trans (undisturbed_onWater ..)).trans (undisturbed_decideMakeUp ..)).trans
    (undisturbed_testAllowance ..)

/-! What a line tells its user, and the bad-frame count -/

theorem undisturbed_stationNoise (s : State) (i : Fin 4) : Undisturbed s (s.stationNoise i) := by
  unfold State.stationNoise
  split
  · exact .refl s
  · exact undisturbed_linkFault ..
  · exact undisturbed_linkFault ..
  · exact undisturbed_raiseHalt ..

theorem undisturbed_tellNoise (s : State) (l : Fin 5) : Undisturbed s (s.tellNoise l) := by
  unfold State.tellNoise
  split
  · exact undisturbed_stationNoise ..
  · exact .ite (.refl s) (undisturbed_raisePlant ..)

theorem undisturbed_tellBreakEnd (s : State) (l : Fin 5) : Undisturbed s (s.tellBreakEnd l) := by
  unfold State.tellBreakEnd
  split
  · exact undisturbed_handSaw ..
  · exact undisturbed_handPlant ..

theorem undisturbed_badFrame (s : State) (l : Fin 5) : Undisturbed s (s.badFrame l) :=
  .ite ((undisturbed_setLine ..).trans (undisturbed_tellNoise ..)) (undisturbed_setLine ..)

theorem undisturbed_discardFrame (s : State) (l : Fin 5) : Undisturbed s (s.discardFrame l) :=
  (undisturbed_setLine ..).trans (undisturbed_badFrame ..)

theorem undisturbed_assemblerGap (s : State) (l : Fin 5) : Undisturbed s (s.assemblerGap l) := by
  unfold State.assemblerGap
  split
  · exact undisturbed_setLine ..
  · exact undisturbed_setLine ..
  · exact undisturbed_setLine ..
  · exact .refl s
  · exact (undisturbed_setLine ..).trans (undisturbed_badFrame ..)

theorem undisturbed_idleRun (s : State) (l : Fin 5) : Undisturbed s (s.idleRun l) :=
  .ite ((undisturbed_setLine ..).trans (undisturbed_tellBreakEnd ..)) (undisturbed_setLine ..)

end Operations

end Sys2Proof.Machine

namespace Sys2Proof.Machine

/-! ### Records that come, go and are let go (R8, R17, R20, R21) -/

section Records

variable {s t : State}

/-- A record rewritten under its tag and at its position. -/
theorem records_rewriteSlab {n : Fin 512} {r y : Slab} (hr : s.slab n = some r) (htag : y.tag = r.tag)
    (hrack : y.rack = r.rack) (hc : y.state = .cutting → y.rack = none) : RecordsKept s (s.rewriteSlab n y) where
  tag ht := tagLaw_setSlab ht hr (x := some y) (by rintro _ ⟨⟩; exact htag) (slab_rewriteSlab s n · y)
  rack ht hk := rackLaw_rewrite ht hk hr htag hrack hc (slab_rewriteSlab s n · y) rfl
  slots hl := by
    have e : (s.rewriteSlab n y).liveSlabs = s.liveSlabs := liveSlabs_setSlab_some s n y (by rw [hr]; rfl)
    unfold State.slotLaw at hl ⊢
    rw [e]; exact hl

theorem records_retireSlab {n : Fin 512} {r : Slab} (hr : s.slab n = some r) :
    RecordsKept s (s.retireSlab n r) where
  tag ht := tagLaw_setSlab ht hr (x := none) (by rintro _ ⟨⟩) (slab_retireSlab s n · r)
  rack ht hk := rackLaw_setSlab ht hk hr (x := none) (by rintro _ ⟨⟩) (by rintro _ ⟨⟩) (by rintro _ _ ⟨⟩)
    (slab_retireSlab s n · r) (rackAt_rackMap s r.rack none)
  slots hl := by
    have e : (s.retireSlab n r).liveSlabs ≤ s.liveSlabs := by
      refine le_of_eq_of_le ?_ (liveSlabs_setSlab_none s n)
      exact congrArg (fun v => countWhere (put v n none) fun r => r.isSome) (rackAt_slabs s r.rack none)
    have e' : (s.retireSlab n r).stock.reserved = s.stock.reserved := rackAt_reserved ..
    unfold State.slotLaw at hl ⊢
    rw [e']; omega

theorem records_retireTag (s : State) (tag : Nat) : RecordsKept s (s.retireTag tag) := by
  unfold State.retireTag
  split
  · exact .refl s
  · next h => exact records_retireSlab (slabOf_some h).1

theorem records_releaseSlab (s : State) (tag : Nat) : RecordsKept s (s.releaseSlab tag) := by
  unfold State.releaseSlab
  split
  · exact .refl s
  · next h => exact records_rewriteSlab (slabOf_some h).1 rfl rfl (by rintro ⟨⟩)

theorem records_setReserved {r : Nat} (h : r ≤ s.stock.reserved) : RecordsKept s (s.setReserved r) where
  tag := id
  rack _ := id
  slots hl := by
    have e : (s.setReserved r).liveSlabs = s.liveSlabs := rfl
    unfold State.slotLaw at hl ⊢
    rw [e]; exact le_trans (Nat.add_le_add_left h _) hl

theorem records_giveBack (s : State) (p : Plan) : RecordsKept s (s.giveBack p) :=
  records_setReserved (Nat.sub_le ..)

/-- The records behind a retirement by tag. -/
theorem slab_retireTag (ht : s.tagLaw) (tag : Nat) (m : Fin 512) :
    (s.retireTag tag).slab m = (s.slab m).filter fun r => r.tag != tag := by
  unfold State.retireTag
  split
  · next h =>
    cases hm : s.slab m with
    | none => rfl
    | some r => rw [Option.filter_some, if_pos (by simpa using slabOf_none h m r hm)]
  · next n r h =>
    obtain ⟨hr, hrt⟩ := slabOf_some h
    rw [slab_retireSlab]
    split
    · next e => subst e; rw [hr, Option.filter_some, if_neg (by simpa using hrt)]
    · next e =>
      cases hm : s.slab m with
      | none => rfl
      | some x =>
        have hx : x.tag ≠ tag := fun hx => e (ht n m r x hr hm (hrt.trans hx.symm))
        rw [Option.filter_some, if_pos (by simpa using hx)]

/-- The records behind a release by tag. -/
theorem slab_releaseSlab (ht : s.tagLaw) (tag : Nat) (m : Fin 512) :
    (s.releaseSlab tag).slab m
      = (s.slab m).map fun r => if r.tag = tag then { r with state := .available, holder := none } else r := by
  unfold State.releaseSlab
  split
  · next h =>
    cases hm : s.slab m with
    | none => rfl
    | some r => simp [slabOf_none h m r hm]
  · next n r h =>
    obtain ⟨hr, hrt⟩ := slabOf_some h
    rw [slab_rewriteSlab]
    split
    · next e => subst e; simp [hr, hrt]
    · next e =>
      cases hm : s.slab m with
      | none => rfl
      | some x =>
        have hx : x.tag ≠ tag := fun hx => e (ht n m r x hr hm (hrt.trans hx.symm))
        simp [hx]

/-! Remnant records -/

/-- The record a remnant gets (R8, R150). -/
def State.remnantRecord (s : State) (parent : Slab) (rect : Rect) (basis : Nat) : Slab :=
  { tag := s.freeTag 512 s.stock.tagCounter, kind := .remnant, material := parent.material,
    length := rect.length, width := rect.width, thickness := parent.thickness, cost := basis,
    parent := some parent.tag, rack := none, state := .available, holder := none, interrupted := false }

/-- Without a free slot no remnant is filed; else the lowest takes its record. -/
theorem createRemnant_cases (s : State) (parent : Slab) (rect : Rect) (basis : Nat) :
    (lowest s.stock.slabs (fun r => r.isNone) = none ∧ s.createRemnant parent rect basis = s)
    ∨ ∃ n y, lowest s.stock.slabs (fun r => r.isNone) = some n ∧ s.slab n = none
      ∧ y = s.remnantRecord parent rect basis
      ∧ s.createRemnant parent rect basis =
        ({ ((s.setReserved (s.stock.reserved - 1)).rewriteSlab n y) with
            stock := { ((s.setReserved (s.stock.reserved - 1)).rewriteSlab n y).stock with
              tagCounter := nextTag y.tag } }).enqueue countersPage := by
  unfold State.createRemnant
  cases h : lowest s.stock.slabs (fun r => r.isNone) with
  | none => exact .inl ⟨rfl, rfl⟩
  | some n =>
    refine .inr ⟨n, _, rfl, Option.isNone_iff_eq_none.mp (lowest_some h).1, rfl, ?_⟩
    simp only [State.remnantRecord]

/-- Remnants are filed beside the records that stand, which stay. -/
structure Filed (s t : State) : Prop where
  plans : t.plans = s.plans
  stations : t.stations = s.stations
  on : ∀ n r, s.slab n = some r → t.slab n = some r
  back : ∀ n r, t.slab n = some r → s.slab n = some r ∨ (r.state = .available ∧ r.holder = none)

theorem Filed.refl (s : State) : Filed s s := ⟨rfl, rfl, fun _ _ => id, fun _ _ => .inl⟩

theorem Filed.trans {u : State} (h : Filed s t) (g : Filed t u) : Filed s u where
  plans := g.plans.trans h.plans
  stations := g.stations.trans h.stations
  on n r hr := g.on n r (h.on n r hr)
  back n r hr := (g.back n r hr).elim (h.back n r) .inr

theorem filed_createRemnant (s : State) (parent : Slab) (rect : Rect) (basis : Nat) :
    Filed s (s.createRemnant parent rect basis) := by
  obtain ⟨-, e⟩ | ⟨n, y, -, hn, hy, e⟩ := createRemnant_cases s parent rect basis
  · rw [e]; exact .refl s
  · rw [e]
    have hs (m : Fin 512) := slab_setSlab s n m (some y)
    refine ⟨rfl, rfl, fun m r hr => (hs m).trans ?_, fun m r hr => ?_⟩
    · rw [if_neg, hr]
      rintro rfl
      rw [hn] at hr; cases hr
    · replace hr := (hs m).symm.trans hr
      split at hr
      · cases hr
        exact .inr ⟨congrArg Slab.state hy, congrArg Slab.holder hy⟩
      · exact .inl hr

theorem Filed.foldl {α : Type} {f : State → α → State} (h : ∀ s a, Filed s (f s a)) (xs : List α)
    (s : State) : Filed s (xs.foldl f s) := by
  induction xs generalizing s with
  | nil => exact .refl s
  | cons a as ih => exact (h s a).trans (ih (f s a))

theorem records_createRemnant (s : State) (parent : Slab) (rect : Rect) (basis : Nat) :
    RecordsKept s (s.createRemnant parent rect basis) := by
  obtain ⟨-, e⟩ | ⟨n, y, -, hn, hy, e⟩ := createRemnant_cases s parent rect basis
  · rw [e]; exact .refl s
  · rw [e]
    have hs (m : Fin 512) := slab_setSlab s n m (some y)
    have htag : y.tag = s.freeTag 512 s.stock.tagCounter := by simp only [hy, State.remnantRecord]
    have hrack : y.rack = none := congrArg Slab.rack hy
    refine ⟨fun ht => ?_, fun _ hk => ?_, fun hl => ?_⟩
    · refine tagLaw_new ht (fun m x hx => ?_) hs
      rw [htag]
      exact freeTag_free s _ m x hx
    · refine rackLaw_new hk hn (fun _ => hrack) (fun q hq => ?_) hs fun q => ?_
      · rw [hrack] at hq; cases hq
      · rw [hrack]; rfl
    · have hlive := liveSlabs_setSlab_new s n y hn
      have hmax : (s.setSlab n (some y)).liveSlabs ≤ 512 := countWhere_le ..
      unfold State.slotLaw at hl ⊢
      change (s.setSlab n (some y)).liveSlabs + (s.stock.reserved - 1) ≤ 512
      omega

end Records

/-! ### A plan and its slab let go (R43, R44, R48) -/

/-- From `s` to `t` the plan in slot `k` is gone; the record of its slab is gone or free; records may come, free; and
the others stand. -/
structure PlanGone (s t : State) (k : Fin 12) (p : Plan) : Prop where
  plan : s.plan k = some p
  plans : ∀ j, t.plan j = if k = j then none else s.plan j
  on : ∀ n r, s.slab n = some r → r.tag ≠ p.slabTag → t.slab n = some r
  back : ∀ n r, t.slab n = some r → (r.state = .available ∧ r.holder = none)
    ∨ (s.slab n = some r ∧ r.tag ≠ p.slabTag)

section PlanGone

variable {s t : State} {k : Fin 12} {p : Plan}

theorem PlanGone.plan_back (h : PlanGone s t k p) {j : Fin 12} {q : Plan} (hq : t.plan j = some q) :
    j ≠ k ∧ s.plan j = some q := by
  rw [h.plans] at hq
  split at hq
  · cases hq
  · next e => exact ⟨fun e' => e e'.symm, hq⟩

/-- The slab of another plan is not the one that went. -/
theorem PlanGone.other_tag (h : PlanGone s t k p) (ht : s.tagLaw) (hl : s.holdingLaw) {n : Fin 512} {r : Slab}
    {j : Fin 12} (hr : s.slab n = some r) (hj : r.holder = some j) (hjk : j ≠ k) : r.tag ≠ p.slabTag := by
  intro e
  obtain ⟨m, x, hx, hxt, hxh⟩ := hl.2 k p h.plan
  have := ht n m r x hr hx (e.trans hxt.symm)
  subst this
  rw [hr] at hx; cases hx
  rw [hj] at hxh; cases hxh
  exact hjk rfl

theorem PlanGone.holdingLaw (h : PlanGone s t k p) (ht : s.tagLaw) (hl : s.holdingLaw) : t.holdingLaw := by
  refine ⟨fun n r hr => ?_, fun j q hq => ?_⟩
  · rcases h.back n r hr with ⟨hav, hho⟩ | ⟨hs, hne⟩
    · exact ⟨by simp [hav, hho], fun j hj => by rw [hho] at hj; cases hj⟩
    · refine ⟨(hl.1 n r hs).1, fun j hj => ?_⟩
      obtain ⟨q, hq, hqt⟩ := (hl.1 n r hs).2 j hj
      refine ⟨q, ?_, hqt⟩
      rw [h.plans, if_neg]
      · exact hq
      · rintro rfl
        rw [h.plan] at hq; cases hq
        exact hne hqt.symm
  · obtain ⟨hjk, hq'⟩ := h.plan_back hq
    obtain ⟨n, r, hr, hrt, hrh⟩ := hl.2 j q hq'
    exact ⟨n, r, h.on n r hr (h.other_tag ht hl hr hrh hjk), hrt, hrh⟩

theorem PlanGone.planLaw (h : PlanGone s t k p) (ht : s.tagLaw) (hl : s.holdingLaw) (hp : s.planLaw) :
    t.planLaw := by
  intro j q hq
  obtain ⟨hjk, hq'⟩ := h.plan_back hq
  obtain ⟨hcut, n, r, hr, hrt, hrh, hrect⟩ := hp j q hq'
  exact ⟨hcut, n, r, h.on n r hr (h.other_tag ht hl hr hrh hjk), hrt, hrh, hrect⟩

/-- With no station left that names the plan, the others' progress stands (R46). -/
theorem PlanGone.progressLaw (h : PlanGone s t k p) (hl : s.progressBut k)
    (hon : ∀ i j, j ≠ k → (s.station i).plan = some j → (t.station i).plan = some j)
    (hback : ∀ i j, (t.station i).plan = some j → j ≠ k ∧ (s.station i).plan = some j
      ∧ (t.station i).passesTaken = (s.station i).passesTaken) : t.progressLaw := by
  refine ⟨fun j q hq => ?_, fun i j hj => ?_⟩
  · obtain ⟨hjk, hq'⟩ := h.plan_back hq
    obtain ⟨hc, hb⟩ := hl.1 j q hjk hq'
    refine ⟨hc, fun hbound => ?_⟩
    obtain ⟨i, hi, hij⟩ := hb hbound
    exact ⟨i, hi, hon i j hjk hij⟩
  · obtain ⟨hjk, hj', hpass⟩ := hback i j hj
    obtain ⟨q, hq, hb, hi, hn⟩ := hl.2 i j hjk hj'
    refine ⟨q, ?_, hb, hi, hn.trans hpass.symm⟩
    rw [h.plans, if_neg hjk.symm]
    exact hq

end PlanGone

end Sys2Proof.Machine

namespace Sys2Proof.Machine

/-! ### Bookings: the jobs, the overhead account and the pages they enqueue (R132 to R134, R149) -/

/-- From `s` to `t` job records and the overhead account are booked, and pages enqueued; all else stands. -/
structure Booked (s t : State) : Prop where
  eq : t = { s with
    jobs := t.jobs, overhead := t.overhead, retention := { s.retention with queue := t.retention.queue } }
  queue : s.retention.queue <+: t.retention.queue

section Booked

variable {s t u : State}

theorem Booked.stock (h : Booked s t) : t.stock = s.stock := by rw [h.eq]
theorem Booked.plans (h : Booked s t) : t.plans = s.plans := by rw [h.eq]
theorem Booked.stations (h : Booked s t) : t.stations = s.stations := by rw [h.eq]

theorem queueWith_prefix (q : List (Fin 648)) (p : Fin 648) : q <+: queueWith q p := by
  unfold queueWith
  split
  · exact List.prefix_refl q
  · exact List.prefix_append ..

theorem Booked.refl (s : State) : Booked s s := ⟨rfl, List.prefix_refl _⟩

theorem Booked.trans (h : Booked s t) (g : Booked t u) : Booked s u where
  eq := by rw [g.eq, h.eq]
  queue := h.queue.trans g.queue

theorem Booked.foldl {α : Type} {f : State → α → State} (h : ∀ s a, Booked s (f s a)) (xs : List α)
    (s : State) : Booked s (xs.foldl f s) := by
  induction xs generalizing s with
  | nil => exact .refl s
  | cons a as ih => exact (h s a).trans (ih (f s a))

theorem booked_setJob (s : State) (n : Fin 96) (j : Option Job) (p : Fin 648) :
    Booked s ((s.setJob n j).enqueue p) := ⟨rfl, queueWith_prefix ..⟩

theorem booked_bookOverhead (s : State) (f : Overhead → Overhead) : Booked s (s.bookOverhead f) := by
  unfold State.bookOverhead
  split
  · exact .refl s
  · exact ⟨rfl, queueWith_prefix ..⟩

theorem booked_updateJobLine (s : State) (n : Nat) (k : Fin 8) (f : JobLine → JobLine) :
    Booked s (s.updateJobLine n k f) := by
  unfold State.updateJobLine
  split
  · exact .refl s
  · split
    · exact .refl s
    · exact booked_setJob ..

theorem booked_bookPart (s : State) (n : Nat) (k : Fin 8) (a b : Nat) (m : Bool) :
    Booked s (s.bookPart n k a b m) := by
  unfold State.bookPart
  split
  · exact .refl s
  · split
    · exact .refl s
    · exact booked_setJob ..

theorem booked_releaseDesignation (s : State) (d : Option Designation) : Booked s (s.releaseDesignation d) := by
  unfold State.releaseDesignation
  split
  · exact booked_updateJobLine ..
  · exact .refl s

theorem booked_releaseParts (s : State) (p : Plan) : Booked s (s.releaseParts p) :=
  .foldl (fun _ _ => booked_releaseDesignation ..) _ _

theorem booked_bookPool (s : State) (p : Plan) : Booked s (s.bookPool p) := booked_bookOverhead ..

theorem booked_bookClose (s : State) (p : Plan) (net : Nat) : Booked s (s.bookClose p net) := by
  unfold State.bookClose
  split
  · exact (booked_bookOverhead ..).trans (booked_bookPool ..)
  · exact .foldl (fun _ _ => booked_bookPart ..) _ _

end Booked

/-! ### The plan leaves its station (R48, R96, R97) -/

section Leaving

variable {s t : State} {i : Fin 4} {k : Fin 12} {p : Plan}

theorem handFrame_stock (s : State) (l : Fin 5) (f : TxFrame) : (s.handFrame l f).stock = s.stock := by
  unfold State.handFrame; split <;> rfl

theorem handFrame_plans (s : State) (l : Fin 5) (f : TxFrame) : (s.handFrame l f).plans = s.plans := by
  unfold State.handFrame; split <;> rfl

theorem settleTest_stock (s : State) (v : Fin 5) : (s.settleTest v).stock = s.stock := by
  unfold State.settleTest; split <;> rfl

theorem settleTest_plans (s : State) (v : Fin 5) : (s.settleTest v).plans = s.plans := by
  unfold State.settleTest; split <;> rfl

theorem commandValve_stock (s : State) (v : Fin 5) (b : Bool) : (s.commandValve v b).stock = s.stock := by
  unfold State.commandValve
  split
  · rfl
  · rw [settleTest_stock]; exact handFrame_stock ..

theorem commandValve_plans (s : State) (v : Fin 5) (b : Bool) : (s.commandValve v b).plans = s.plans := by
  unfold State.commandValve
  split
  · rfl
  · rw [settleTest_plans]; exact handFrame_plans ..

theorem enterState_stock (s : State) (i : Fin 4) (x : StationState) : (s.enterState i x).stock = s.stock := by
  unfold State.enterState
  dsimp only
  split
  · rfl
  · exact commandValve_stock ..

theorem enterState_plans (s : State) (i : Fin 4) (x : StationState) : (s.enterState i x).plans = s.plans := by
  unfold State.enterState
  dsimp only
  split
  · rfl
  · exact commandValve_plans ..

theorem unbind_stock (s : State) (i : Fin 4) : (s.unbind i).stock = s.stock := enterState_stock ..
theorem unbind_plans (s : State) (i : Fin 4) : (s.unbind i).plans = s.plans := enterState_plans ..

/-- The station record behind an entry into a state. -/
theorem enterState_station (s : State) (i j : Fin 4) (x : StationState) :
    (s.enterState i x).station j = if i = j then { s.station i with state := x } else s.station j := by
  rw [State.station, enterState_stations, slot_put]; rfl

/-- The station's record as its plan leaves (R96, R97). -/
def Station.unbound (st : Station) : Station :=
  { st.stopTimers with
    state := .ready, plan := none, orderOutstanding := false, toggle := !st.toggle
    loadedSinceStaging := false, passesTaken := 0, progressCount := 0, condition := .none }

theorem unbind_station (s : State) (i j : Fin 4) :
    (s.unbind i).station j = if i = j then (s.station i).unbound else s.station j := by
  have hs (x : Station) (j : Fin 4) : ((s.setStation i x).withdrawFrames i).station j
      = if i = j then x else s.station j := station_setStation s i j x
  unfold State.unbind
  rw [enterState_station, hs, hs, if_pos rfl]
  split <;> rfl

/-! The records of a close -/

theorem slab_setPlan (s : State) (k : Fin 12) (p : Option Plan) (n : Fin 512) :
    (s.setPlan k p).slab n = s.slab n := rfl

theorem records_setPlan (s : State) (k : Fin 12) (p : Option Plan) : RecordsKept s (s.setPlan k p) :=
  .of_stock rfl

theorem records_closeRecords (s : State) (k : Fin 12) (p : Plan) : RecordsKept s (s.closeRecords k p) := by
  unfold State.closeRecords
  split
  · exact .of_stock rfl
  · exact (((RecordsKept.of_stock (booked_bookClose ..).stock).trans
      (.foldl (fun _ _ => records_createRemnant ..) _ _)).trans (records_retireTag ..)).trans (records_setPlan ..)

theorem retireTag_plans (s : State) (tag : Nat) : (s.retireTag tag).plans = s.plans := by
  unfold State.retireTag
  split
  · rfl
  · next r _ => exact rackAt_plans s r.rack none

theorem retireTag_stations (s : State) (tag : Nat) : (s.retireTag tag).stations = s.stations := by
  unfold State.retireTag
  split
  · rfl
  · next r _ => exact rackAt_stations s r.rack none

theorem releaseSlab_plans (s : State) (tag : Nat) : (s.releaseSlab tag).plans = s.plans := by
  unfold State.releaseSlab; split <;> rfl

theorem releaseSlab_stations (s : State) (tag : Nat) : (s.releaseSlab tag).stations = s.stations := by
  unfold State.releaseSlab; split <;> rfl

theorem closeRecords_stations (s : State) (k : Fin 12) (p : Plan) : (s.closeRecords k p).stations = s.stations := by
  unfold State.closeRecords
  split
  · rfl
  · rw [State.setPlan_stations, retireTag_stations,
      (Filed.foldl (fun _ _ => filed_createRemnant ..) _ _).stations, (booked_bookClose ..).stations]

/-- A record retired by its tag, the plan's slot freed: the plan is gone. -/
theorem planGone_retireTag (ht : t.tagLaw) (hk : s.plan k = some p) (hf : Filed s t) :
    PlanGone s ((t.retireTag p.slabTag).setPlan k none) k p := by
  have hs (n : Fin 512) : ((t.retireTag p.slabTag).setPlan k none).slab n
      = (t.slab n).filter fun r => r.tag != p.slabTag := by rw [slab_setPlan, slab_retireTag ht]
  refine ⟨hk, fun j => ?_, fun n r hr hne => ?_, fun n r hr => ?_⟩
  · rw [plan_setPlan, State.plan, retireTag_plans, hf.plans]; rfl
  · rw [hs, hf.on n r hr, Option.filter_some, if_pos (by simpa using hne)]
  · rw [hs, Option.filter_eq_some_iff] at hr
    exact (hf.back n r hr.1).elim (fun h => .inr ⟨h, by simpa using hr.2⟩) .inl

/-- A record released by its tag, the plan's slot freed: the plan is gone. -/
theorem planGone_releaseSlab (ht : t.tagLaw) (hk : s.plan k = some p) (hf : Filed s t) :
    PlanGone s ((t.releaseSlab p.slabTag).setPlan k none) k p := by
  have hs (n : Fin 512) : ((t.releaseSlab p.slabTag).setPlan k none).slab n = (t.slab n).map fun r =>
      if r.tag = p.slabTag then { r with state := .available, holder := none } else r := by
    rw [slab_setPlan, slab_releaseSlab ht]
  refine ⟨hk, fun j => ?_, fun n r hr hne => ?_, fun n r hr => ?_⟩
  · rw [plan_setPlan, State.plan, releaseSlab_plans, hf.plans]; rfl
  · rw [hs, hf.on n r hr, Option.map_some, if_neg hne]
  · rw [hs, Option.map_eq_some_iff] at hr
    obtain ⟨x, hx, rfl⟩ := hr
    split
    · exact .inl ⟨rfl, rfl⟩
    · next hne => exact (hf.back n x hx).elim (fun h => .inr ⟨h, hne⟩) .inl

theorem Booked.filed (h : Booked s t) : Filed s t where
  plans := h.plans
  stations := h.stations
  on n r hr := by rw [State.slab, h.stock]; exact hr
  back n r hr := .inl (by rw [State.slab, h.stock] at hr; exact hr)

theorem planGone_closeRecords (ht : s.tagLaw) (hk : s.plan k = some p) :
    PlanGone s (s.closeRecords k p) k p := by
  unfold State.closeRecords
  split
  · next h =>
    exact ⟨hk, (plan_setPlan s k · none), fun _ _ hr _ => hr, fun n r hr => .inr ⟨hr, slabOf_none h n r hr⟩⟩
  · have hb := booked_bookClose s p
    refine planGone_retireTag ?_ hk ((hb _).filed.trans (.foldl (fun _ _ => filed_createRemnant ..) _ _))
    exact ((RecordsKept.of_stock (hb _).stock).trans
      (.foldl (fun _ _ => records_createRemnant ..) _ _)).tag ht

/-- Stock and plans read alike, the plan is gone alike. -/
theorem PlanGone.of_fields {u : State} (h : PlanGone s t k p) (hstock : u.stock = t.stock)
    (hplans : u.plans = t.plans) : PlanGone s u k p where
  plan := h.plan
  plans j := by rw [State.plan, hplans]; exact h.plans j
  on n r hr hne := by rw [State.slab, hstock]; exact h.on n r hr hne
  back n r hr := by rw [State.slab, hstock] at hr; exact h.back n r hr

/-- A plan gone with the station that named it: the laws stand. -/
theorem PlanGone.sound (h : PlanGone s t k p) (htag : t.tagLaw) (ht : s.tagLaw) (hl : s.holdingLaw)
    (hp : s.planLaw) (hb : s.progressBut k) (hi : (s.station i).plan = some k)
    (ho : ∀ j, (s.station j).plan = some k → j = i)
    (hst : ∀ j, t.station j = if i = j then (s.station i).unbound else s.station j) : t.Sound where
  tags := htag
  holding := h.holdingLaw ht hl
  plans := h.planLaw ht hl hp
  progress := by
    refine h.progressLaw hb (fun j m hm hj => ?_) fun j m hj => ?_
    · rw [hst, if_neg]
      · exact hj
      · rintro rfl
        rw [hi] at hj; cases hj
        exact hm rfl
    · rw [hst] at hj ⊢
      split at hj
      · cases hj
      · next hne =>
        refine ⟨?_, hj, by rw [if_neg hne]⟩
        rintro rfl
        exact hne (ho j hj).symm

/-- A close is its records, then its station and PLAN_DONE. -/
theorem closePlan_eq (hk : s.plan k = some p) (i : Fin 4) : s.closePlan i k
    = ((s.closeRecords k p).unbind i).raise (planDoneSource i) (.planDone k p.slabTag) := by
  rw [State.closePlan, hk]

theorem planGone_closePlan (ht : s.tagLaw) (hk : s.plan k = some p) (i : Fin 4) :
    PlanGone s (s.closePlan i k) k p := by
  rw [closePlan_eq hk]
  refine (planGone_closeRecords ht hk).of_fields ?_ ?_
  · rw [State.raise_stock, unbind_stock]
  · rw [State.raise_plans, unbind_plans]

theorem records_closePlan (s : State) (i : Fin 4) (k : Fin 12) : RecordsKept s (s.closePlan i k) := by
  cases hk : s.plan k with
  | none => rw [State.closePlan, hk]; exact .refl s
  | some p =>
    rw [closePlan_eq hk]
    refine (records_closeRecords s k p).trans (.of_stock ?_)
    rw [State.raise_stock, unbind_stock]

theorem holding_closePlan (ht : s.tagLaw) (hl : s.holdingLaw) (i : Fin 4) (k : Fin 12) :
    (s.closePlan i k).holdingLaw := by
  cases hk : s.plan k with
  | none => rw [State.closePlan, hk]; exact hl
  | some p => exact (planGone_closePlan ht hk i).holdingLaw ht hl

theorem closePlan_station (hk : s.plan k = some p) (i j : Fin 4) :
    (s.closePlan i k).station j = if i = j then (s.station i).unbound else s.station j := by
  have h (j : Fin 4) : (s.closeRecords k p).station j = s.station j := by
    rw [State.station, closeRecords_stations, State.station]
  have hr : (s.closePlan i k).station j = ((s.closeRecords k p).unbind i).station j := by
    rw [closePlan_eq hk, State.station, State.raise_stations, State.station]
  rw [hr, unbind_station, h, h]

/-- The close of the plan its station names (R48, R96). -/
theorem sound_closePlan (ht : s.tagLaw) (hl : s.holdingLaw) (hp : s.planLaw) (hb : s.progressBut k)
    (hk : s.plan k = some p) (hi : (s.station i).plan = some k)
    (ho : ∀ j, (s.station j).plan = some k → j = i) : (s.closePlan i k).Sound :=
  (planGone_closePlan ht hk i).sound ((records_closePlan s i k).tag ht) ht hl hp hb hi ho
    (closePlan_station hk i)

end Leaving

end Sys2Proof.Machine

namespace Sys2Proof.Machine

/-! ### A cut DONE and a pass taken, at the plan (R46, R47) -/

section Progress

variable {p q : Plan} {g : Cut} {u count : Nat}

/-- A cut but for its state, of which the geometry does not speak (R28). -/
def Cut.shape (g : Cut) : Cut := { g with state := .pending }

/-- The geometry of a plan speaks of the shapes of its cuts (R29). -/
theorem wellCut_of_shapes (hk : q.kerf = p.kerf) (hp : q.pieces = p.pieces)
    (hc : q.cuts.map Cut.shape = p.cuts.map Cut.shape) (h : p.wellCut) : q.wellCut := by
  have len : q.cuts.length = p.cuts.length := by simpa using congrArg List.length hc
  have at_ (c : Nat) (g : Cut) (hg : q.cuts[c]? = some g) :
      ∃ g', p.cuts[c]? = some g' ∧ g'.shape = g.shape := by
    have := congrArg (·[c]?) hc
    simp only [List.getElem?_map, hg] at this
    exact map_eq_back this rfl
  have shape {a b : Cut} (e : a.shape = b.shape) : a.target = b.target ∧ a.axis = b.axis ∧ a.offset = b.offset
      ∧ a.travel = b.travel ∧ a.startX = b.startX ∧ a.startY = b.startY := by
    simpa [Cut.shape] using e
  have targets : q.cuts.map Cut.target = p.cuts.map Cut.target := by
    simpa [Function.comp_def, Cut.shape] using congrArg (List.map Cut.target) hc
  have strips : q.cuts.map (fun g => q.kerf * g.travel) = p.cuts.map fun g => p.kerf * g.travel := by
    rw [hk]
    simpa [Function.comp_def, Cut.shape] using congrArg (List.map fun g => p.kerf * g.travel) hc
  have slab : q.slabArea = p.slabArea := by unfold Plan.slabArea; rw [hp]
  have leaves : q.sumOfLeaves (fun _ => true) = p.sumOfLeaves fun _ => true := by
    unfold Plan.sumOfLeaves; rw [hp]
  obtain ⟨h31, hunused, hsplit, hnodup, hcuts, harea⟩ := h
  refine ⟨len ▸ h31, by rw [hp, len]; exact hunused, ?_, targets ▸ hnodup, ?_, ?_⟩
  · intro j r o hj
    rw [hp] at hj
    obtain ⟨g, hg, rfl⟩ := hsplit j r o hj
    have : g.target ∈ q.cuts.map Cut.target := targets ▸ List.mem_map_of_mem hg
    exact List.mem_map.mp this
  · intro c g hg
    obtain ⟨g', hg', e⟩ := at_ c g hg
    obtain ⟨e1, e2, e3, e4, e5, e6⟩ := shape e
    have := hcuts c g' hg'
    rw [e1, e2, e3, e4, e5, e6, ← hk, ← hp] at this
    exact this
  · rw [strips, leaves, slab]; exact harea

/-- The cuts behind a FINISH: the current one is DONE (R47). -/
theorem finishCut_getElem? (p : Plan) (travel u c : Nat) : (p.finishCut travel u).cuts[c]?
    = p.cuts[c]?.map fun g => if p.cutsDone = c then { g with state := .done } else g :=
  List.getElem?_modify ..

theorem shapes_finishCut (p : Plan) (travel u : Nat) :
    (p.finishCut travel u).cuts.map Cut.shape = p.cuts.map Cut.shape := by
  apply List.ext_getElem?
  intro c
  rw [List.getElem?_map, List.getElem?_map, finishCut_getElem?, Option.map_map]
  congr 1
  funext g
  simp only [Function.comp]
  split <;> rfl

theorem wellCut_finishCut (h : p.wellCut) (travel u : Nat) : (p.finishCut travel u).wellCut :=
  wellCut_of_shapes (p := p) rfl rfl (shapes_finishCut p travel u) h

/-- A BOUND plan's current cut, its passes and the travel that remains (R46). -/
theorem onCourse_bound (h : p.onCourse) (hb : p.state = .bound) : ∃ count left g, p.passCount = some count
    ∧ p.remainingTravel = some left ∧ p.cuts[p.cutsDone]? = some g ∧ p.passesReported ≤ count
    ∧ left + g.travel * p.passesReported = ((p.cuts.drop p.cutsDone).map Cut.travel).sum * count :=
  h.2.2.2.2 hb

/-- The sum of the travels from cuts done on begins with the current cut's (R46). -/
theorem sum_drop_eq (hg : p.cuts[p.cutsDone]? = some g) : ((p.cuts.drop p.cutsDone).map Cut.travel).sum
    = g.travel + ((p.cuts.drop (p.cutsDone + 1)).map Cut.travel).sum := by
  obtain ⟨hlt, rfl⟩ := List.getElem?_eq_some_iff.mp hg
  rw [List.drop_eq_getElem_cons hlt, List.map_cons, List.sum_cons]

theorem onCourse_takePass (h : p.onCourse) (hb : p.state = .bound) (hg : p.cuts[p.cutsDone]? = some g)
    (hn : p.passesReported < p.passCount.getD 0) : (p.takePass g.travel).onCourse := by
  obtain ⟨count, left, g', hcount, hleft, hg', -, hsum⟩ := onCourse_bound h hb
  rw [hg] at hg'; cases hg'
  rw [hcount, Option.getD_some] at hn
  have hfit : g.travel * (p.passesReported + 1) ≤ left + g.travel * p.passesReported := by
    rw [hsum, sum_drop_eq hg]
    exact Nat.mul_le_mul (Nat.le_add_right ..) hn
  refine ⟨h.1, fun hne => absurd hb hne, fun ho => ?_, fun hl => ?_, fun _ => ?_⟩
  · exact absurd (hb.symm.trans ho) (by decide)
  · exact absurd (hb.symm.trans hl) (by decide)
  · refine ⟨count, left - g.travel, g, hcount, by simp [Plan.takePass, hleft], hg, hn, ?_⟩
    simp only [Plan.takePass]
    rw [← hsum]
    rw [Nat.mul_add_one] at hfit ⊢
    omega

theorem onCourse_finishCut (h : p.onCourse) (hb : p.state = .bound) (hg : p.cuts[p.cutsDone]? = some g)
    (hcount : p.passCount = some count) (hu : p.passesReported + u = count)
    (hnext : p.cutsDone + 1 < p.cuts.length) : (p.finishCut g.travel u).onCourse := by
  obtain ⟨count', left, g', hcount', hleft, hg', -, hsum⟩ := onCourse_bound h hb
  rw [hg] at hg'; cases hg'
  rw [hcount] at hcount'; cases hcount'
  refine ⟨fun c x hx => ?_, fun hne => absurd hb hne, fun ho => ?_, fun hl => ?_, fun _ => ?_⟩
  · rw [finishCut_getElem?, Option.map_eq_some_iff] at hx
    obtain ⟨y, hy, rfl⟩ := hx
    change _ ↔ c < p.cutsDone + 1
    by_cases e : p.cutsDone = c
    · simp [e]
    · rw [if_neg e, h.1 c y hy]
      omega
  · exact absurd (hb.symm.trans ho) (by decide)
  · exact absurd (hb.symm.trans hl) (by decide)
  · have hrest : ((p.finishCut g.travel u).cuts.drop (p.cutsDone + 1)).map Cut.travel
        = (p.cuts.drop (p.cutsDone + 1)).map Cut.travel := by
      have := congrArg (fun l => (l.drop (p.cutsDone + 1)).map Cut.travel) (shapes_finishCut p g.travel u)
      simpa [← List.map_drop, Function.comp_def, Cut.shape] using this
    refine ⟨count, left - g.travel * u, (p.cuts[p.cutsDone + 1]), hcount, by simp [Plan.finishCut, hleft], ?_,
      Nat.zero_le _, ?_⟩
    · change (p.finishCut g.travel u).cuts[p.cutsDone + 1]? = _
      rw [finishCut_getElem?, List.getElem?_eq_getElem hnext]
      simp
    · change left - g.travel * u + _ * 0
        = (((p.finishCut g.travel u).cuts.drop (p.cutsDone + 1)).map Cut.travel).sum * count
      rw [hrest]
      rw [sum_drop_eq hg, Nat.add_mul, ← hu, Nat.mul_add] at hsum
      rw [← hu]
      omega

end Progress

/-! ### Plan and station move together (R41, R46, R80) -/

section Moved

variable {s t : State} {i : Fin 4} {k : Fin 12} {p q : Plan} {c : Prop}

/-- The plan a station names, with what the progress law says of the two. -/
theorem boundPlan_some (h : s.boundPlan i = some (k, p)) : (s.station i).plan = some k ∧ s.plan k = some p := by
  simp only [State.boundPlan, Option.bind_eq_some_iff, Option.map_eq_some_iff, Prod.mk.injEq] at h
  obtain ⟨k', hk', p', hp', rfl, rfl⟩ := h
  exact ⟨hk', hp'⟩

theorem progressLaw_bound (h : s.progressLaw) (hi : (s.station i).plan = some k) (hk : s.plan k = some p) :
    p.onCourse ∧ p.state = .bound ∧ p.station = some i ∧ p.passesReported = (s.station i).passesTaken
      ∧ ∀ j, (s.station j).plan = some k → j = i := by
  obtain ⟨p', hp', hb, hpi, hn⟩ := h.2 i k hi
  rw [hk] at hp'; cases hp'
  refine ⟨(h.1 k p hk).1, hb, hpi, hn, fun j hj => ?_⟩
  obtain ⟨p', hp', -, hpj, -⟩ := h.2 j k hj
  rw [hk] at hp'; cases hp'
  rw [hpi] at hpj; cases hpj; rfl

/-- Plan `k` and its station `i` move on and the others stand (R41, R46). -/
structure MovedAt (s t : State) (i : Fin 4) (k : Fin 12) (q : Plan) : Prop where
  plans : ∀ j, t.plan j = if k = j then some q else s.plan j
  named : (t.station i).plan = some k
  others : ∀ j, j ≠ i → (t.station j).plan = (s.station j).plan
    ∧ (t.station j).passesTaken = (s.station j).passesTaken

theorem MovedAt.progressBut (h : MovedAt s t i k q) (hl : s.progressLaw) (hi : (s.station i).plan = some k) :
    t.progressBut k := by
  refine ⟨fun j x hjk hx => ?_, fun j m hmk hm => ?_⟩
  · rw [h.plans, if_neg hjk.symm] at hx
    obtain ⟨hc, hb⟩ := hl.1 j x hx
    refine ⟨hc, fun hbound => ?_⟩
    obtain ⟨a, ha, haj⟩ := hb hbound
    refine ⟨a, ha, ?_⟩
    rw [(h.others a _).1]
    · exact haj
    · rintro rfl
      rw [hi] at haj; cases haj
      exact hjk rfl
  · have hji : j ≠ i := by
      rintro rfl
      rw [h.named] at hm; cases hm
      exact hmk rfl
    rw [(h.others j hji).1] at hm
    obtain ⟨x, hx, hb, hs, hn⟩ := hl.2 j m hm
    exact ⟨x, by rw [h.plans, if_neg hmk.symm]; exact hx, hb, hs, hn.trans (h.others j hji).2.symm⟩

theorem MovedAt.alone (h : MovedAt s t i k q) (hl : s.progressLaw) (hi : (s.station i).plan = some k)
    (hk : s.plan k = some p) : ∀ j, (t.station j).plan = some k → j = i := by
  intro j hj
  by_contra hne
  rw [(h.others j hne).1] at hj
  exact hne ((progressLaw_bound hl hi hk).2.2.2.2 j hj)

theorem MovedAt.progressLaw (h : MovedAt s t i k q) (hl : s.progressLaw) (hi : (s.station i).plan = some k)
    (hk : s.plan k = some p) (hq : q.onCourse) (hqs : q.station = some i) (hqb : q.state = .bound)
    (hqn : q.passesReported = (t.station i).passesTaken) : t.progressLaw := by
  have hplan : t.plan k = some q := by rw [h.plans, if_pos rfl]
  obtain ⟨hb1, hb2⟩ := h.progressBut hl hi
  refine ⟨fun j x hx => ?_, fun j m hm => ?_⟩
  · by_cases hjk : j = k
    · subst hjk
      rw [hplan] at hx; cases hx
      exact ⟨hq, fun _ => ⟨i, hqs, h.named⟩⟩
    · exact hb1 j x hjk hx
  · by_cases hmk : m = k
    · subst hmk
      have := h.alone hl hi hk j hm
      subst this
      exact ⟨q, hplan, hqb, hqs, hqn⟩
    · exact hb2 j m hmk hm

/-- A plan changed but for its slab: the holding law stands (R5). -/
theorem holdingLaw_of_plans (hl : s.holdingLaw) (hstock : t.stock = s.stock)
    (hplans : ∀ j, (t.plan j).map Plan.slabTag = (s.plan j).map Plan.slabTag) : t.holdingLaw := by
  have hslab (n : Fin 512) : t.slab n = s.slab n := by rw [State.slab, hstock]; rfl
  refine ⟨fun n r hr => ?_, fun k p hp => ?_⟩
  · rw [hslab] at hr
    refine ⟨(hl.1 n r hr).1, fun k hk => ?_⟩
    obtain ⟨p, hp, hpt⟩ := (hl.1 n r hr).2 k hk
    obtain ⟨q, hq, hqt⟩ := map_eq_back (hplans k).symm hp
    exact ⟨q, hq, hqt.trans hpt⟩
  · obtain ⟨q, hq, hqt⟩ := map_eq_back (hplans k) hp
    obtain ⟨n, r, hr, hrt, hrh⟩ := hl.2 k q hq
    exact ⟨n, r, (hslab n).trans hr, hrt.trans hqt, hrh⟩

/-- A plan changed but for its slab and its pieces, its cuts still making them: the plan law stands (R29). -/
theorem planLaw_of_plan (hl : s.planLaw) (hk : s.plan k = some p) (hstock : t.stock = s.stock)
    (hplans : ∀ j, t.plan j = if k = j then some q else s.plan j) (hq : p.wellCut → q.wellCut)
    (htag : q.slabTag = p.slabTag) (hrect : (slot q.pieces 0).rect? = (slot p.pieces 0).rect?) : t.planLaw := by
  have hslab (n : Fin 512) : t.slab n = s.slab n := by rw [State.slab, hstock]; rfl
  intro j x hx
  simp only [hslab]
  rw [hplans] at hx
  split at hx
  · next e =>
    subst e; cases hx
    obtain ⟨hcut, n, r, hr, hrt, hrh, hrr⟩ := hl k p hk
    exact ⟨hq hcut, n, r, hr, hrt.trans htag.symm, hrh, hrect.trans hrr⟩
  · exact hl j x hx

theorem holding_updatePlan (hl : s.holdingLaw) (k : Fin 12) {f : Plan → Plan}
    (hf : ∀ p, (f p).slabTag = p.slabTag) : (s.updatePlan k f).holdingLaw := by
  refine holdingLaw_of_plans hl rfl fun j => ?_
  rw [plan_updatePlan]
  split
  · next e => subst e; cases s.plan k <;> simp [hf]
  · rfl

theorem movedAt_update {f : Plan → Plan} {x : Station} (hk : s.plan k = some p) (hx : x.plan = some k) :
    MovedAt s ((s.updatePlan k f).setStation i x) i k (f p) where
  plans j := by
    refine (plan_updatePlan s k j f).trans ?_
    rw [hk]; rfl
  named := by rw [station_setStation, if_pos rfl, hx]
  others j hj := by
    rw [station_setStation, if_neg hj.symm]
    exact ⟨rfl, rfl⟩

/-- The plan and its station a PASS further (R46, R80). -/
theorem sound_takePass {g : Cut} {x : Station} (h : s.Sound) (hi : (s.station i).plan = some k)
    (hk : s.plan k = some p) (hg : p.currentCut = some g) (hn : p.passesReported < p.passCount.getD 0)
    (hx : x.plan = some k) (hxn : x.passesTaken = (s.station i).passesTaken + 1) :
    ((s.updatePlan k fun q => q.takePass g.travel).setStation i x).Sound := by
  obtain ⟨hc, hb, hpi, hpn, -⟩ := progressLaw_bound h.progress hi hk
  have hm : MovedAt s _ i k _ := movedAt_update (f := fun q => q.takePass g.travel) (x := x) hk hx
  refine ⟨h.tags, holding_updatePlan h.holding k fun _ => rfl, ?_, ?_⟩
  · exact planLaw_of_plan h.plans hk rfl hm.plans id rfl rfl
  · refine hm.progressLaw h.progress hi hk (onCourse_takePass hc hb hg hn) hpi hb ?_
    rw [station_setStation, if_pos rfl, hxn, ← hpn]
    rfl

/-- The current cut DONE at plan and station: all laws stand but, behind the last cut, the progress of the plan itself,
which is to close (R47, R48, R81). -/
theorem markCutDone_lawful {g : Cut} {u : Nat} (h : s.Sound) (hi : (s.station i).plan = some k)
    (hk : s.plan k = some p) (hg : p.currentCut = some g) (hu : p.passesReported + u = p.passCount.getD 0) :
    let t := s.markCutDone i k g.travel u
    t.tagLaw ∧ t.holdingLaw ∧ t.planLaw ∧ t.progressBut k ∧ t.plan k = some (p.finishCut g.travel u)
      ∧ (t.station i).plan = some k ∧ (∀ j, (t.station j).plan = some k → j = i)
      ∧ (t.allCutsDone k = false → t.progressLaw) := by
  obtain ⟨hc, hb, hpi, hpn, -⟩ := progressLaw_bound h.progress hi hk
  have hm : MovedAt s (s.markCutDone i k g.travel u) i k _ :=
    movedAt_update (f := fun q => q.finishCut g.travel u) hk hi
  have hplan : (s.markCutDone i k g.travel u).plan k = some (p.finishCut g.travel u) := by
    rw [hm.plans, if_pos rfl]
  refine ⟨h.tags, holding_updatePlan h.holding k fun _ => rfl, ?_, hm.progressBut h.progress hi, hplan, hm.named,
    hm.alone h.progress hi hk, fun hall => ?_⟩
  · exact planLaw_of_plan h.plans hk rfl hm.plans (fun hw => wellCut_finishCut hw _ _) rfl rfl
  · obtain ⟨count, -, -, hcount, -⟩ := onCourse_bound hc hb
    obtain ⟨hlt, -⟩ := List.getElem?_eq_some_iff.mp hg
    have hnext : p.cutsDone + 1 < p.cuts.length := by
      rw [State.allCutsDone, hplan] at hall
      simp [Plan.finishCut] at hall
      omega
    refine hm.progressLaw h.progress hi hk
      (onCourse_finishCut hc hb hg hcount (by rw [hu, hcount]; rfl) hnext) hpi hb ?_
    rw [State.markCutDone, station_setStation, if_pos rfl]
    rfl

/-- The current cut DONE and, behind the last, the plan closed (R47, R48, R81, R92). -/
theorem sound_markCutDone {g : Cut} {u : Nat} (h : s.Sound) (hi : (s.station i).plan = some k)
    (hk : s.plan k = some p) (hg : p.currentCut = some g) (hu : p.passesReported + u = p.passCount.getD 0)
    (ht : Undisturbed (s.markCutDone i k g.travel u) t) :
    (t.allCutsDone k = true → (t.closePlan i k).Sound) ∧ (t.allCutsDone k = false → t.Sound) := by
  obtain ⟨htag, hhold, hplan, hbut, hpk, hnamed, halone, hprog⟩ := markCutDone_lawful h hi hk hg hu
  obtain ⟨q, hq, -⟩ := ht.plan_on hpk
  constructor
  · intro _
    exact sound_closePlan (ht.tagLaw htag) (ht.holdingLaw hhold) (ht.planLaw hplan) (ht.progressBut hbut) hq
      ((ht.stations i).1.trans hnamed) fun j hj => halone j ((ht.stations j).1.symm.trans hj)
  · intro hall
    have hsame : t.allCutsDone k = (s.markCutDone i k g.travel u).allCutsDone k := by
      have hc : Option.map (fun p => decide (p.cutsDone = p.cuts.length)) ((t.plan k).map Plan.course)
          = Option.map (fun p => decide (p.cutsDone = p.cuts.length))
            (((s.markCutDone i k g.travel u).plan k).map Plan.course) := by rw [ht.plans k]
      rw [hq, hpk] at hc
      rw [State.allCutsDone, State.allCutsDone, hq, hpk]
      simpa [Plan.course] using hc
    exact ⟨ht.tagLaw htag, ht.holdingLaw hhold, ht.planLaw hplan,
      ht.progressLaw (hprog (hsame ▸ hall))⟩

end Moved

end Sys2Proof.Machine

namespace Sys2Proof.Machine

/-! ### Resuming and the report of the factor (R92, R93, R126) -/

section Reports

variable {c : Prop} {s t : State}

theorem records_markCutDone (s : State) (i : Fin 4) (k : Fin 12) (a u : Nat) :
    RecordsKept s (s.markCutDone i k a u) := .of_stock rfl

theorem holding_markCutDone (hl : s.holdingLaw) (i : Fin 4) (k : Fin 12) (a u : Nat) :
    (s.markCutDone i k a u).holdingLaw :=
  holding_updatePlan hl k fun _ => rfl

theorem kept_resume (s : State) (i : Fin 4) : StockKept c s (s.resumeStation i) := by
  unfold State.resumeStation
  split
  · exact .refl s
  · next k p h =>
    obtain ⟨hi, hk⟩ := boundPlan_some h
    refine .ite ?_ ?_
    · exact (((undisturbed_setCondition ..).trans (undisturbed_enterState ..)).trans
        (undisturbed_tryStaged ..)).kept
    · split
      · next hpass =>
        have hm := records_markCutDone s i k ((p.currentCut.map (·.travel)).getD 0) 0
        have sound (hs : s.Sound) :
            ((s.markCutDone i k ((p.currentCut.map (·.travel)).getD 0) 0).allCutsDone k = true →
              ((s.markCutDone i k ((p.currentCut.map (·.travel)).getD 0) 0).closePlan i k).Sound)
            ∧ ((s.markCutDone i k ((p.currentCut.map (·.travel)).getD 0) 0).allCutsDone k = false →
              (s.markCutDone i k ((p.currentCut.map (·.travel)).getD 0) 0).Sound) := by
          obtain ⟨hc, hb, -, hpn, -⟩ := progressLaw_bound hs.progress hi hk
          obtain ⟨-, -, g, -, -, hg, -⟩ := onCourse_bound hc hb
          have hg : p.currentCut = some g := hg
          have := sound_markCutDone (u := 0) hs hi hk hg (by rw [hpass, hpn]; rfl) (.refl _)
          rw [hg]
          exact this
        refine ⟨?_, fun ht hl => ?_, fun _ hs => ?_⟩
        · dsimp only
          split
          · exact hm.trans (records_closePlan ..)
          · exact hm.trans (undisturbed_dispatchAndCut ..).records
        · have hl := holding_markCutDone hl i k ((p.currentCut.map (·.travel)).getD 0) 0
          dsimp only
          split
          · exact holding_closePlan (hm.tag ht) hl i k
          · exact (undisturbed_dispatchAndCut ..).holdingLaw hl
        · dsimp only
          split
          · next hall => exact (sound hs).1 hall
          · next hall =>
            exact (undisturbed_dispatchAndCut ..).kept.sound trivial ((sound hs).2 (by simpa using hall))
      · exact (undisturbed_dispatchAndCut ..).kept

theorem kept_tryHeld (s : State) (i : Fin 4) : StockKept c s (s.tryWaterHeld i) :=
  .ite (.ite (kept_resume ..) ((undisturbed_setCondition ..).trans (undisturbed_raiseStop ..)).kept) (.refl s)

theorem kept_report (s : State) (b : Bool) (i : Fin 4) : StockKept c s (s.reportFactor b i) := by
  unfold State.reportFactor
  split
  · exact .ite (.ite (undisturbed_holdStation ..).kept (undisturbed_updateFeed ..).kept) (.refl s)
  · exact (undisturbed_tryStaged ..).kept
  · exact .ite (kept_tryHeld ..) (.refl s)
  · exact .refl s

theorem kept_pause (s : State) (i : Fin 4) : StockKept c s (s.pauseHeld i) := by
  have h : Undisturbed s (((s.setStation i (s.station i).stopTimers).enterState i .paused).raiseStop i) :=
    ((undisturbed_setStation (by rfl) (fun _ => by rfl)).trans (undisturbed_enterState ..)).trans
      (undisturbed_raiseStop ..)
  unfold State.pauseHeld
  dsimp only
  split
  · exact h.kept.trans (kept_tryHeld ..)
  · exact h.kept

theorem stock_reportToStations (s : State) (b : Bool) : StockKept c s (s.reportToStations b) :=
  .foldl (fun _ _ => kept_report ..) _ _

theorem undisturbed_raiseWater (s : State) (x : Crossing) : Undisturbed s (s.raiseWater x) :=
  undisturbed_raise ..

/-- A recomputation keeps what its report to the stations does (R125, R126). -/
theorem stock_recomputeFrom (s : State) (old : Nat) (b : Bool) : StockKept c s (s.recomputeFrom old b) := by
  have told (x : Bool) : StockKept c s (if (x || b) = true then (s.onWater Water.withFactors).reportToStations x
      else s.onWater Water.withFactors) :=
    .ite ((undisturbed_onWater s Water.withFactors).kept.trans (stock_reportToStations _ x))
      (undisturbed_onWater s Water.withFactors).kept
  unfold State.recomputeFrom
  dsimp only
  split
  · refine .trans ?_ (undisturbed_raiseWater _ _).kept
    split
    · exact .trans (told _) (undisturbed_raiseWater _ _).kept
    · exact told _
  · split
    · exact .trans (told _) (undisturbed_raiseWater _ _).kept
    · exact told _

theorem stock_recompute (s : State) : StockKept c s s.recompute := stock_recomputeFrom ..

theorem stock_addSolids (s : State) (a b d e : Nat) : StockKept c s (s.addSolids a b d e) :=
  (((undisturbed_setKept ..).trans (undisturbed_enqueue ..)).trans (undisturbed_autoPress ..)).kept.trans
    (stock_recompute ..)

theorem stock_lowerSolids (s : State) (n : Nat) : StockKept c s (s.lowerSolids n) :=
  ((undisturbed_setKept ..).trans (undisturbed_enqueue ..)).kept.trans (stock_recompute ..)

theorem stock_enterStale (s : State) (x : StaleCause) : StockKept c s (s.enterStale x) :=
  ((((undisturbed_onWater ..).trans (undisturbed_decideMakeUp ..)).trans (undisturbed_onWater ..)).kept.trans
    (stock_recompute ..)).trans (undisturbed_raisePlant ..).kept

/-! ### A factor that only falls lets no plan go (R86, R93, R117) -/

/-- The factors are computed of thresholds in order, and no station PAUSED with WATER_HOLD finds F at the resume
factor (R93, R109, R125). -/
structure State.HeldBack (s : State) : Prop where
  factors : s.water.withFactors = s.water
  thresholds : s.thresholds.sound
  held : ∀ i, (s.station i).state = .paused → (s.station i).condition = .waterHold →
    s.water.factor < s.thresholds.resume

/-- Valve commands and stations that leave PAUSED do not lift a hold. -/
theorem heldBack_of {w : Vector Bool 5} {st : Vector SettleTimer 5} (h : s.HeldBack)
    (hw : t.water = { s.water with commanded := w, settle := st })
    (hs : ∀ j, (t.station j).state = .paused → (t.station j).condition = .waterHold →
      (s.station j).state = .paused ∧ (s.station j).condition = .waterHold) : t.HeldBack := by
  have ht : t.thresholds = s.thresholds := by rw [State.thresholds, hw]; rfl
  refine ⟨?_, ht ▸ h.thresholds, fun j h1 h2 => ?_⟩
  · have e := h.factors
    rw [hw]
    change { s.water.withFactors with commanded := w, settle := st } = _
    rw [e]
  · have := h.held j (hs j h1 h2).1 (hs j h1 h2).2
    rw [ht, hw]
    exact this

theorem enterState_water (s : State) (i : Fin 4) (x : StationState) :
    ∃ w st, (s.enterState i x).water = { s.water with commanded := w, settle := st } := by
  unfold State.enterState
  dsimp only
  split
  · exact ⟨_, _, rfl⟩
  · obtain ⟨st, h⟩ := commandValve_water (s.setStation i { s.station i with state := x }) (supplyValve i) x.wet
    exact ⟨_, st, h⟩

theorem handSaw_water (s : State) (i : Fin 4) (m : TxMessage) : (s.handSaw i m).water = s.water :=
  handFrame_water ..

theorem handSaw_stations (s : State) (i : Fin 4) (m : TxMessage) : (s.handSaw i m).stations = s.stations :=
  handFrame_stations ..

theorem handSaw_station (s : State) (i j : Fin 4) (m : TxMessage) : (s.handSaw i m).station j = s.station j := by
  rw [State.station, handSaw_stations, State.station]

theorem firstOrder_water (s : State) (tag : Nat) : (s.firstOrder tag).water = s.water := by
  have rack (t : State) (p : Option (Fin 120)) : (t.rackAt p none).water = t.water := by cases p <;> rfl
  unfold State.firstOrder
  split
  · rfl
  · split
    · exact rack ..
    · rfl

theorem firstOrder_stations (s : State) (tag : Nat) : (s.firstOrder tag).stations = s.stations := by
  unfold State.firstOrder
  split
  · rfl
  · next r _ =>
    split
    · exact rackAt_stations s r.rack none
    · rfl

/-- A hold handed changes that station alone, and only what it has outstanding (R63, R85). -/
theorem handHold_station (s : State) (i : Fin 4) : (s.handHold i).water = s.water
    ∧ ∀ j, j ≠ i → (s.handHold i).station j = s.station j := by
  unfold State.handHold
  dsimp only
  split
  · exact ⟨handSaw_water .., fun j hj => by rw [station_setStation, if_neg hj.symm, handSaw_station]⟩
  · exact ⟨handSaw_water .., fun j _ => handSaw_station ..⟩

theorem dispatch_water (s : State) (i : Fin 4) : (s.dispatch i).water = s.water := by
  unfold State.dispatch
  split
  · rfl
  · split
    · rfl
    · rw [firstOrder_water, State.setStation_water, handSaw_water, State.setStation_water]

theorem dispatch_station (s : State) (i : Fin 4) {j : Fin 4} (h : j ≠ i) :
    (s.dispatch i).station j = s.station j := by
  unfold State.dispatch
  split
  · rfl
  · split
    · rfl
    · rw [State.station, firstOrder_stations]
      exact (station_setStation ..).trans ((if_neg h.symm).trans
        ((handSaw_station ..).trans ((station_setStation ..).trans (if_neg h.symm))))

/-- A station that enters a state other than PAUSED, the others as they were, lifts no hold. -/
theorem heldBack_enterState {i : Fin 4} {x : StationState} (h : s.HeldBack) (hw : t.water = s.water)
    (ht : ∀ j, j ≠ i → t.station j = s.station j) (hx : x ≠ .paused) : (t.enterState i x).HeldBack := by
  obtain ⟨w, st, e⟩ := enterState_water t i x
  refine heldBack_of h (e.trans (by rw [hw])) fun j h1 h2 => ?_
  rw [enterState_station] at h1 h2
  split at h1
  · exact absurd h1 hx
  · next hne =>
    rw [if_neg hne, ht j fun e => hne e.symm] at h2
    rw [ht j fun e => hne e.symm] at h1
    exact ⟨h1, h2⟩

theorem heldBack_dispatchAndCut (h : s.HeldBack) (i : Fin 4) : (s.dispatchAndCut i).HeldBack := by
  refine heldBack_enterState h ?_ (fun j hj => ?_) (by decide)
  · exact dispatch_water ..
  · exact (station_setStation ..).trans ((if_neg hj.symm).trans (dispatch_station s i hj))

theorem heldBack_holdStation (h : s.HeldBack) (i : Fin 4) (hs : (s.station i).state = .cutting) :
    (s.holdStation i .waterHold).HeldBack := by
  unfold State.holdStation
  rw [hs]
  obtain ⟨hw, hst⟩ := handHold_station s i
  refine heldBack_enterState h ?_ (fun j hj => ?_) (by decide)
  · exact hw
  · exact (station_setStation ..).trans ((if_neg hj.symm).trans (hst j hj))

theorem heldBack_updateFeed (h : s.HeldBack) (i : Fin 4) : (s.updateFeed i).HeldBack := by
  unfold State.updateFeed
  split
  · exact h
  · dsimp only
    split
    · refine heldBack_of h (handSaw_water ..) fun j h1 h2 => ?_
      rw [station_setStation] at h1 h2
      split at h1
      · next e =>
        subst e
        rw [if_pos rfl] at h2
        rw [handSaw_station] at h1 h2
        exact ⟨h1, h2⟩
      · next e =>
        rw [if_neg e, handSaw_station] at h2
        rw [handSaw_station] at h1
        exact ⟨h1, h2⟩
    · exact h

/-- A changed factor reported where no hold can be lifted (R86, R93, R94). -/
theorem heldBack_report (h : s.HeldBack) (i : Fin 4) :
    Undisturbed s (s.reportFactor true i) ∧ (s.reportFactor true i).HeldBack := by
  unfold State.reportFactor
  split
  · next hs =>
    rw [if_pos rfl]
    split
    · exact ⟨undisturbed_holdStation .., heldBack_holdStation h i hs⟩
    · exact ⟨undisturbed_updateFeed .., heldBack_updateFeed h i⟩
  · unfold State.tryStaged
    split
    · exact ⟨undisturbed_dispatchAndCut .., heldBack_dispatchAndCut h i⟩
    · exact ⟨.refl s, h⟩
  · next hs =>
    split
    · next hw =>
      rw [State.tryWaterHeld, if_neg (Nat.not_le.mpr (h.held i hs hw))]
      exact ⟨.refl s, h⟩
    · exact ⟨.refl s, h⟩
  · exact ⟨.refl s, h⟩

theorem heldBack_reports (h : s.HeldBack) (xs : List (Fin 4)) :
    Undisturbed s (xs.foldl (fun t i => t.reportFactor true i) s)
      ∧ (xs.foldl (fun t i => t.reportFactor true i) s).HeldBack := by
  induction xs generalizing s with
  | nil => exact ⟨.refl s, h⟩
  | cons i xs ih =>
    obtain ⟨h1, h2⟩ := heldBack_report h i
    exact ⟨h1.trans (ih h2).1, (ih h2).2⟩

/-- A recomputation that finds F no higher. -/
theorem heldBack_recompute (h : t.water.withFactors.factor ≤ t.water.factor) (hx : t.thresholds.sound)
    (hs : ∀ i, (t.station i).state = .paused → (t.station i).condition = .waterHold →
      t.water.factor < t.thresholds.resume) : Undisturbed t t.recompute ∧ t.recompute.HeldBack := by
  have h0 : (t.onWater Water.withFactors).HeldBack :=
    ⟨rfl, hx, fun i h1 h2 => lt_of_le_of_lt h (hs i h1 h2)⟩
  have hu : Undisturbed t (t.onWater Water.withFactors) := undisturbed_onWater ..
  have told : ∀ b, Undisturbed t (if (b || false) = true then (t.onWater Water.withFactors).reportToStations b
      else t.onWater Water.withFactors)
      ∧ (if (b || false) = true then (t.onWater Water.withFactors).reportToStations b
      else t.onWater Water.withFactors).HeldBack := by
    intro b
    cases b with
    | false => exact ⟨hu, h0⟩
    | true =>
      obtain ⟨h1, h2⟩ := heldBack_reports h0 (List.finRange 4)
      exact ⟨hu.trans h1, h2⟩
  have raised (x : State) (b : Crossing) (hx : Undisturbed t x ∧ x.HeldBack) :
      Undisturbed t (x.raiseWater b) ∧ (x.raiseWater b).HeldBack :=
    ⟨hx.1.trans (undisturbed_raise ..), hx.2.factors, hx.2.thresholds, hx.2.held⟩
  unfold State.recompute State.recomputeFrom
  dsimp only
  split
  · refine raised _ _ ?_
    split
    · exact raised _ _ (told _)
    · exact told _
  · split
    · exact raised _ _ (told _)
    · exact told _

/-- More solids never raise the solids factor (R125). -/
theorem factorSolids_anti (x : Thresholds) {a b : Nat} (h : a ≤ b) : factorSolids x b ≤ factorSolids x a := by
  have part (n : Nat) (hn : x.slow ≤ n) : 1000 * (x.stop - n) / (x.stop - x.slow) ≤ 1000 := by
    apply Nat.div_le_of_le_mul
    rw [Nat.mul_comm]
    exact Nat.mul_le_mul_right 1000 (by omega)
  have less : 1000 * (x.stop - b) / (x.stop - x.slow) ≤ 1000 * (x.stop - a) / (x.stop - x.slow) :=
    Nat.div_le_div_right (Nat.mul_le_mul_left _ (by omega))
  unfold factorSolids
  split
  · rw [if_pos (by omega)]
  · next hb =>
    have := part b (by omega)
    split
    · omega
    · split
      · omega
      · rw [if_neg (by omega)]; omega

/-- Nor does the end of their range lower a sum that lies beyond the stop level (R109, R117). -/
theorem factorSolids_satAdd {x : Thresholds} (h : x.sound) (a b : Nat) :
    factorSolids x (satAdd 999999 a b) ≤ factorSolids x a := by
  obtain ⟨-, -, ⟨-, hslow, hstop⟩, -⟩ := h
  by_cases ha : a ≤ 999999
  · exact factorSolids_anti x (by unfold satAdd; omega)
  · have e : satAdd 999999 a b = 999999 := by unfold satAdd; omega
    rw [e, factorSolids, if_neg (by omega), if_pos (by omega)]
    exact Nat.zero_le _

theorem autoPress_water (s : State) : ∃ p pt, s.autoPress.water = { s.water with press := p, pressTimer := pt } := by
  unfold State.autoPress
  split
  · exact ⟨_, _, handFrame_water ..⟩
  · exact ⟨_, _, rfl⟩

theorem autoPress_stations (s : State) : s.autoPress.stations = s.stations := by
  unfold State.autoPress
  split
  · exact handFrame_stations ..
  · rfl

/-- Solids booked where no hold can be lifted (R117). -/
theorem heldBack_addSolids (h : s.HeldBack) (a b d e : Nat) :
    Undisturbed s (s.addSolids a b d e) ∧ (s.addSolids a b d e).HeldBack := by
  obtain ⟨more, carry, heq⟩ : ∃ more carry, s.addSolids a b d e = (((s.setKept { s.water.kept with
      solids := satAdd 999999 s.water.kept.solids more, solidsCarry := carry }
      ).enqueue waterPage).autoPress).recompute :=
    ⟨_, _, rfl⟩
  rw [heq]
  generalize hk : ({ s.water.kept with
      solids := satAdd 999999 s.water.kept.solids more, solidsCarry := carry } : WaterRetained) = kept
  generalize ht : ((s.setKept kept).enqueue waterPage).autoPress = t
  obtain ⟨p, pt, hw⟩ := autoPress_water ((s.setKept kept).enqueue waterPage)
  rw [ht] at hw
  replace hw : t.water = { s.water with kept := kept, press := p, pressTimer := pt } := hw
  have hst (i : Fin 4) : t.station i = s.station i := by
    rw [State.station, ← ht, autoPress_stations]; rfl
  have hx : t.thresholds = s.thresholds := by rw [State.thresholds, hw, ← hk]; rfl
  have hu : Undisturbed s t :=
    ht ▸ ((undisturbed_setKept ..).trans (undisturbed_enqueue ..)).trans (undisturbed_autoPress ..)
  have hle : t.water.withFactors.factor ≤ t.water.factor := by
    have old : s.water.withFactors.factor = s.water.factor := by rw [h.factors]
    have := factorSolids_satAdd h.thresholds s.water.kept.solids more
    rw [hw, ← old, ← hk]
    change (if s.water.link = .live then min _ (min _ (factorSolids s.thresholds _)) else 0)
      ≤ if s.water.link = .live then min _ (min _ (factorSolids s.thresholds _)) else 0
    split
    · exact min_le_min le_rfl (min_le_min le_rfl this)
    · exact le_rfl
  have hheld (i : Fin 4) (h1 : (t.station i).state = .paused) (h2 : (t.station i).condition = .waterHold) :
      t.water.factor < t.thresholds.resume := by
    rw [hst] at h1 h2
    rw [hx, hw]
    exact h.held i h1 h2
  obtain ⟨h1, h2⟩ := heldBack_recompute hle (hx ▸ h.thresholds) hheld
  exact ⟨hu.trans h1, h2⟩

end Reports

end Sys2Proof.Machine

namespace Sys2Proof.Machine

/-! ### Reports of a saw and of the plant (R78 to R83, R114 to R119) -/

/-- What the stock laws of a FINISH and of a START_PLAN rest on beside the plans: bound plans as the station states
demand them, and holds that only a risen factor lifts (R69, R93). -/
structure State.Steady (s : State) : Prop where
  binding : s.bindingLaw
  held : s.HeldBack

section SawReports

variable {c d : Prop} {s t u : State} {i : Fin 4} {k : Fin 12} {p : Plan} {g : Cut} {cut : Nat}

theorem StockKept.mono (h : StockKept c s t) (hd : d → c) : StockKept d s t :=
  ⟨h.records, h.holding, fun x => h.sound (hd x)⟩

theorem Steady.setLine (h : s.Steady) (l : Fin 5) (x : Line) : (s.setLine l x).Steady :=
  ⟨h.binding, h.held.factors, h.held.thresholds, h.held.held⟩

/-- The order in hand is for the current cut of the plan the station names (R78). -/
theorem orderInHand_some (h : s.orderInHand i cut = some (k, p, g)) :
    s.boundPlan i = some (k, p) ∧ p.cutsDone = cut ∧ p.currentCut = some g := by
  have taken (h : (s.boundPlan i).bind (fun x =>
      if x.2.cutsDone = cut then x.2.currentCut.map fun c => (x.1, x.2, c) else none) = some (k, p, g)) :
      s.boundPlan i = some (k, p) ∧ p.cutsDone = cut ∧ p.currentCut = some g := by
    obtain ⟨⟨k', p'⟩, hb, hx⟩ := Option.bind_eq_some_iff.mp h
    split at hx
    · next hcut =>
      obtain ⟨g', hg', e⟩ := Option.map_eq_some_iff.mp hx
      simp only [Prod.mk.injEq] at e
      obtain ⟨rfl, rfl, rfl⟩ := e
      exact ⟨hb, hcut, hg'⟩
    · cases hx
  have outstanding (h : (if (s.station i).orderOutstanding then (s.boundPlan i).bind fun x =>
      if x.2.cutsDone = cut then x.2.currentCut.map fun c => (x.1, x.2, c) else none else none) = some (k, p, g)) :
      s.boundPlan i = some (k, p) ∧ p.cutsDone = cut ∧ p.currentCut = some g := by
    split at h
    · exact taken h
    · cases h
  unfold State.orderInHand at h
  dsimp only at h
  split at h
  · exact outstanding h
  · exact outstanding h
  · exact outstanding h
  · exact outstanding h
  · cases h

theorem stopAcceptWait_plans (s : State) (i : Fin 4) : (s.stopAcceptWait i).plans = s.plans := by
  unfold State.stopAcceptWait; dsimp only; split <;> rfl

theorem stopAcceptWait_water (s : State) (i : Fin 4) : (s.stopAcceptWait i).water = s.water := by
  unfold State.stopAcceptWait; dsimp only; split <;> rfl

theorem stopAcceptWait_station (s : State) (i j : Fin 4) : (s.stopAcceptWait i).station j
    = if i = j ∧ (s.station i).state = .cutting then { s.station i with replyTimer := none } else s.station j := by
  unfold State.stopAcceptWait
  dsimp only
  split
  · next h => rw [station_setStation]; simp [h]
  · next h => simp [h]

/-- A plan changed but for its slab keeps the record laws and the holding law; the rest is asked of it. -/
theorem kept_setPlanStation {f : Plan → Plan} {x : Station} (hf : ∀ p, (f p).slabTag = p.slabTag)
    (hs : s.Sound → ((s.updatePlan k f).setStation i x).Sound) :
    StockKept c s ((s.updatePlan k f).setStation i x) :=
  ⟨.of_stock rfl, fun _ hl => holding_updatePlan hl k hf, fun _ => hs⟩

/-- What a PASS books behind plan and station: wear, solids, pool and progress (R80). -/
theorem stock_passBooked (s : State) (i : Fin 4) (k : Fin 12) (travel depth hard kerf dens x y a b : Nat) :
    StockKept c s ((((s.passWear i travel depth hard).1.addSolids travel kerf depth dens).updatePlan k
      fun q => (q.addPool x).addPool y).countProgress i k a b) := by
  have pool (t : State) : StockKept c t (t.updatePlan k fun q => (q.addPool x).addPool y) :=
    (undisturbed_updatePlan (f := fun q => (q.addPool x).addPool y) fun _ => rfl).kept
  exact (((undisturbed_passWear ..).kept.trans (stock_addSolids ..)).trans (pool _)).trans
    (undisturbed_countProgress ..).kept

theorem stock_takePass {pi sec : Nat} (h : s.takePass i cut pi sec = some t) : StockKept c s t := by
  unfold State.takePass at h
  split at h
  · cases h
  · next k p g horder =>
    split at h
    · next hpass =>
      cases h
      obtain ⟨hb, -, hg⟩ := orderInHand_some horder
      obtain ⟨hi, hk⟩ := boundPlan_some hb
      have h0 : Undisturbed s (s.stopAcceptWait i) := undisturbed_stopAcceptWait ..
      refine .trans (h0.kept.trans ?_) (stock_passBooked ..)
      refine kept_setPlanStation (fun _ => rfl) fun hs => ?_
      have hi' := (h0.stations i).1.trans hi
      refine sound_takePass hs hi' ?_ hg hpass.2 hi' rfl
      rw [State.plan, stopAcceptWait_plans]; exact hk
    · cases h

theorem heldBack_passWear (h : s.HeldBack) (i : Fin 4) (a b e : Nat) : (s.passWear i a b e).1.HeldBack := by
  have hw : (s.passWear i a b e).1.water = s.water ∧ (s.passWear i a b e).1.stations = s.stations := by
    unfold State.passWear
    split
    · exact ⟨rfl, rfl⟩
    · dsimp only
      split <;> exact ⟨rfl, rfl⟩
  refine heldBack_of (w := s.water.commanded) (st := s.water.settle) h hw.1 fun j h1 h2 => ?_
  rw [State.station, hw.2] at h1 h2
  exact ⟨h1, h2⟩

/-- A pass booked by geometry where no hold can be lifted (R47, R104, R117). -/
theorem heldBack_bookUnreported (h : s.HeldBack) (i : Fin 4) (k : Fin 12) (p : Plan) (a b : Nat) :
    Undisturbed s (s.bookUnreported i k p a b) ∧ (s.bookUnreported i k p a b).HeldBack := by
  have hw := heldBack_passWear h i a b p.hardness
  have hp : ((s.passWear i a b p.hardness).1.updatePlan k
      fun q => q.addPool (s.passWear i a b p.hardness).2).HeldBack := ⟨hw.factors, hw.thresholds, hw.held⟩
  obtain ⟨h1, h2⟩ := heldBack_addSolids hp a p.kerf b p.density
  exact ⟨((undisturbed_passWear ..).trans (undisturbed_addPool ..)).trans h1, h2⟩

theorem heldBack_bookings (h : s.HeldBack) (i : Fin 4) (k : Fin 12) (p : Plan) (a : Nat) (xs : List Nat) :
    Undisturbed s (xs.foldl (fun t b => t.bookUnreported i k p a b) s) := by
  induction xs generalizing s with
  | nil => exact .refl s
  | cons b xs ih =>
    obtain ⟨h1, h2⟩ := heldBack_bookUnreported h i k p a b
    exact h1.trans (ih h2)

theorem stock_bookUnreported (s : State) (i : Fin 4) (k : Fin 12) (p : Plan) (a b : Nat) :
    StockKept c s (s.bookUnreported i k p a b) :=
  ((undisturbed_passWear ..).trans (undisturbed_addPool ..)).kept.trans (stock_addSolids ..)

/-- What follows a FINISH keeps the records and the holding law, whatever stands of the plan's progress (R81). -/
theorem afterFinish_laws (s : State) (i : Fin 4) (k : Fin 12) : RecordsKept s (s.afterFinish i k)
    ∧ (s.tagLaw → s.holdingLaw → (s.afterFinish i k).holdingLaw) := by
  unfold State.afterFinish
  split
  · exact ⟨records_closePlan .., fun ht hl => holding_closePlan ht hl i k⟩
  · split
    · split
      · exact ⟨(undisturbed_dispatch ..).records, fun _ => (undisturbed_dispatch ..).holdingLaw⟩
      · exact ⟨(undisturbed_pauseWorn ..).records, fun _ => (undisturbed_pauseWorn ..).holdingLaw⟩
    · exact ⟨.refl s, fun _ => id⟩

theorem sound_afterFinish (h1 : s.allCutsDone k = true → (s.closePlan i k).Sound)
    (h2 : s.allCutsDone k = false → s.Sound) : (s.afterFinish i k).Sound := by
  unfold State.afterFinish
  split
  · next h => exact h1 h
  · next h =>
    replace h2 := h2 (by simpa using h)
    split
    · split
      · exact (undisturbed_dispatch ..).kept.sound trivial h2
      · exact (undisturbed_pauseWorn ..).kept.sound trivial h2
    · exact h2

/-- The same change at station `i` of two states of which one disturbs nothing of the other. -/
theorem Undisturbed.setStation {x y : Station} (h : Undisturbed s t) (hp : y.plan = x.plan)
    (hn : y.passesTaken = x.passesTaken) : Undisturbed (s.setStation i x) (t.setStation i y) where
  plans := h.plans
  stations j := by
    rw [station_setStation, station_setStation]
    split
    · exact ⟨hp, fun _ => hn⟩
    · exact h.stations j
  slabs := h.slabs
  reserved := h.reserved
  rack := h.rack

theorem stock_takeFinish (h : s.takeFinish i cut = some t) : StockKept s.Steady s t := by
  unfold State.takeFinish at h
  split at h
  · cases h
  · next k p g horder =>
    cases h
    obtain ⟨hb, -, hg⟩ := orderInHand_some horder
    obtain ⟨hi, hk⟩ := boundPlan_some hb
    generalize hu : p.passCount.getD 0 - p.passesReported = u
    generalize (List.range u).map (fun j => s.planPassDepth p (p.passesReported + j + 1)) = depths
    have h0 : Undisturbed s (s.stopAcceptWait i) := undisturbed_stopAcceptWait ..
    have hk0 : (s.stopAcceptWait i).plan k = some p := by rw [State.plan, stopAcceptWait_plans]; exact hk
    generalize hb : (s.stopAcceptWait i).updatePlan k (fun q => q.finishCut g.travel u) = b
    have book : StockKept True b (depths.foldl (fun t d => t.bookUnreported i k p g.travel d) b) :=
      .foldl (fun _ _ => stock_bookUnreported ..) _ _
    have hrec : RecordsKept s (depths.foldl (fun t d => t.bookUnreported i k p g.travel d) b) :=
      (h0.records.trans (hb ▸ .of_stock rfl)).trans book.records
    have hhold (ht : s.tagLaw) (hl : s.holdingLaw) :
        (depths.foldl (fun t d => t.bookUnreported i k p g.travel d) b).holdingLaw := by
      refine book.holding ?_ ?_ <;> rw [← hb]
      · exact h0.tagLaw ht
      · exact holding_updatePlan (h0.holdingLaw hl) k fun _ => rfl
    have hbooks (hs : s.Steady) : Undisturbed b (depths.foldl (fun t d => t.bookUnreported i k p g.travel d) b) := by
      refine heldBack_bookings ?_ ..
      have hheld : (s.stopAcceptWait i).HeldBack := by
        refine heldBack_of (w := s.water.commanded) (st := s.water.settle) hs.held (stopAcceptWait_water ..)
          fun j h1 h2 => ?_
        rw [stopAcceptWait_station] at h1 h2
        split at h1
        · next e => rw [e.2] at h1; cases h1
        · next e => rw [if_neg e] at h2; exact ⟨h1, h2⟩
      rw [← hb]
      exact ⟨hheld.factors, hheld.thresholds, hheld.held⟩
    generalize depths.foldl (fun t d => t.bookUnreported i k p g.travel d) b = v at hrec hhold hbooks ⊢
    refine ⟨?_, fun ht hl => ?_, fun hs hsound => ?_⟩
    · have hv : RecordsKept v (v.setStation i { v.station i with passesTaken := 0, orderOutstanding := false }) :=
        .of_stock rfl
      exact (hrec.trans hv).trans (afterFinish_laws ..).1
    · exact (afterFinish_laws ..).2 (hrec.tag ht) (hhold ht hl)
    · have hs0 : (s.stopAcceptWait i).Sound := h0.kept.sound trivial hsound
      obtain ⟨hc, hbound, -, -, -⟩ := progressLaw_bound hsound.progress hi hk
      obtain ⟨count, -, -, hcount, -, -, hle, -⟩ := onCourse_bound hc hbound
      have hmark : Undisturbed ((s.stopAcceptWait i).markCutDone i k g.travel u)
          (v.setStation i { v.station i with passesTaken := 0, orderOutstanding := false }) := by
        have := hbooks hs
        rw [State.markCutDone, hb]
        exact this.setStation (this.stations i).1 rfl
      obtain ⟨h1, h2⟩ := sound_markCutDone hs0 ((h0.stations i).1.trans hi) hk0 hg
        (by rw [← hu, hcount, Option.getD_some]; omega) hmark
      exact sound_afterFinish h1 h2

theorem stock_actOnMode (s : State) (i : Fin 4) (m : SawMode) (e : Bool) : StockKept c s (s.actOnMode i m e) := by
  unfold State.actOnMode
  dsimp only
  split
  · exact .ite (.ite (.refl s) ((undisturbed_setCondition ..).trans (undisturbed_raiseStop ..)).kept)
      (undisturbed_faultStation ..).kept
  · exact .ite (undisturbed_restartHoldWait ..).kept (.refl s)
  all_goals
    split
    · exact (undisturbed_becomeReady ..).kept
    · exact .ite (undisturbed_tryStaged ..).kept (.refl s)
    · exact kept_pause ..
    · exact .ite (undisturbed_becomeReady ..).kept (.refl s)
    · exact .refl s

theorem stock_takeState (s : State) (i : Fin 4) (m : SawMode) (b : Bool) (n : Nat) :
    StockKept c s (s.takeState i m b n) :=
  (undisturbed_setStation (by rfl) (fun _ => by rfl)).kept.trans (stock_actOnMode ..)

theorem stock_sawReport {m : Message} (h : s.sawReport i m = some t) : StockKept s.Steady s t := by
  unfold State.sawReport at h
  split at h
  · cases h
  · split at h
    · unfold State.takeAccept at h
      obtain ⟨_, _, rfl⟩ := Option.map_eq_some_iff.mp h
      exact (undisturbed_stopAcceptWait ..).kept
    · exact stock_takePass h
    · exact stock_takeFinish h
    · obtain ⟨_, _, rfl⟩ := Option.map_eq_some_iff.mp h
      exact stock_takeState ..
    · cases h; exact (undisturbed_takeFault ..).kept
    · cases h
    · cases h

theorem stock_takeLevels (s : State) (r : LevelsReport) : StockKept c s (s.takeLevels r) :=
  (((((undisturbed_onWater ..).trans (undisturbed_meterAndDraw ..)).trans (undisturbed_enterLive ..)).trans
    (undisturbed_decideMakeUp ..)).trans (undisturbed_testValves ..)).kept.trans (stock_recompute ..)

theorem stock_takePressState (s : State) (a b : Nat) : StockKept c s (s.takePressState a b) := by
  have press (t : State) (p : Press) : StockKept c t (t.setPress p) := (undisturbed_onWater ..).kept
  have told (t : State) (e : PressEvent) (x : Option Nat) : StockKept c t (t.raisePress e x) :=
    (undisturbed_raisePress ..).kept
  unfold State.takePressState
  split
  · exact (press ..).trans (told ..)
  · exact .refl s
  · exact press ..
  · exact press ..
  · exact .refl s
  · exact (stock_lowerSolids ..).trans (told ..)
  · exact ((press ..).trans (stock_lowerSolids ..)).trans (told ..)
  · exact .refl s
  · exact (press ..).trans (told ..)

theorem stock_plantReport (s : State) (m : Message) : StockKept c s (s.plantReport m) := by
  unfold State.plantReport
  split
  · exact .refl s
  · exact stock_takeLevels ..
  · exact stock_takePressState ..
  · exact .refl s

theorem stock_receive (s : State) (l : Fin 5) (n b : Bool) (m : Message) :
    StockKept s.Steady s (s.receive l n b m) := by
  have taken (t : State) : Undisturbed t (t.takenFrame l n) := undisturbed_setLine ..
  unfold State.receive
  split
  · exact .refl s
  · split
    · split
      · exact (undisturbed_badFrame ..).kept
      · split
        · exact (undisturbed_setLine ..).kept
        · split
          · exact (undisturbed_badFrame ..).kept
          · next h => exact ((stock_sawReport h).trans (undisturbed_superviseAgain ..).kept).trans (taken _).kept
    · split
      · exact (undisturbed_badFrame ..).kept
      · exact (stock_plantReport ..).trans (taken _).kept

end SawReports

/-! ### Characters, breaks and samples of a line (R52 to R56) -/

section LineEvents

variable {c : Prop}

theorem stock_tellBreak (s : State) (l : Fin 5) : StockKept c s (s.tellBreak l) := by
  unfold State.tellBreak
  split
  · exact .ite (.refl s) ((undisturbed_forgetMode ..).trans (undisturbed_faultStation ..)).kept
  · split
    · exact .refl s
    · exact stock_enterStale ..
    · exact (undisturbed_raisePlant ..).kept
    · exact (undisturbed_raisePlant ..).kept

theorem stock_judge (s : State) (l : Fin 5) (bs : List Byte) (b : Bool) :
    StockKept s.Steady s (s.judge l bs b) := by
  unfold State.judge
  split
  · exact (undisturbed_badFrame ..).kept
  · exact stock_receive ..

theorem stock_extendFrame (s : State) (l : Fin 5) (bs : List Byte) (b : Bool) :
    StockKept s.Steady s (s.extendFrame l bs b) :=
  .ite (undisturbed_discardFrame ..).kept (.ite
    ((undisturbed_setLine ..).kept.trans ((stock_judge ..).mono fun h => Steady.setLine h ..))
    (undisturbed_setLine ..).kept)

theorem stock_assemble (s : State) (l : Fin 5) (x : Byte) (f b : Bool) :
    StockKept s.Steady s (s.assemble l x f b) := by
  unfold State.assemble
  split
  · exact .refl s
  · exact .ite (undisturbed_discardFrame ..).kept (undisturbed_setLine ..).kept
  · exact .ite (undisturbed_discardFrame ..).kept (stock_extendFrame ..)
  · exact (undisturbed_discardFrame ..).kept
  · exact .refl s

/-- A character with a framing error never completes a frame (R56). -/
theorem undisturbed_assemble_framing (s : State) (l : Fin 5) (x : Byte) (b : Bool) :
    Undisturbed s (s.assemble l x true b) := by
  unfold State.assemble
  split
  · exact .refl s
  · exact undisturbed_discardFrame ..
  · exact undisturbed_discardFrame ..
  · exact undisturbed_discardFrame ..
  · exact .refl s

theorem stock_ordinaryCharacter (s : State) (l : Fin 5) (x : Byte) (f b : Bool) :
    StockKept s.Steady s (s.ordinaryCharacter l x f b) :=
  .ite (undisturbed_setLine ..).kept
    ((undisturbed_setLine ..).kept.trans ((stock_assemble ..).mono fun h => Steady.setLine h ..))

theorem stock_breakCharacter (s : State) (l : Fin 5) (b : Bool) : StockKept c s (s.breakCharacter l b) :=
  .ite (undisturbed_setLine ..).kept (.ite
    (((undisturbed_setLine ..).trans (undisturbed_setLine ..)).kept.trans (stock_tellBreak ..))
    ((undisturbed_setLine ..).trans (undisturbed_assemble_framing ..)).kept)

theorem stock_zeroRun (s : State) (l : Fin 5) : StockKept c s (s.zeroRun l) :=
  (undisturbed_setLine ..).kept.trans (stock_breakCharacter ..)

theorem stock_decideCharacter (s : State) (l : Fin 5) (x : CharSamples) :
    StockKept s.Steady s (s.decideCharacter l x) := by
  unfold State.decideCharacter
  split
  · exact .ite ((undisturbed_setLine ..).kept.trans (stock_breakCharacter ..))
      ((undisturbed_setLine ..).kept.trans ((stock_ordinaryCharacter ..).mono fun h => Steady.setLine h ..))
  · exact .refl s
  · exact .refl s

theorem stock_takeSample (s : State) (l : Fin 5) (x : Bool) : StockKept c s (s.takeSample l x) := by
  have receiver (r : Receiver) (n : Nat) : StockKept c s (s.setReceiver l r n) := (undisturbed_setLine ..).kept
  unfold State.takeSample
  split
  · exact .ite (.ite (undisturbed_idleRun ..).kept (receiver ..))
      (.ite (receiver ..) (.ite (receiver ..) (stock_zeroRun ..)))
  · exact .ite (receiver ..) (.ite (undisturbed_setLine ..).kept (receiver ..))
  · exact .refl s

theorem stock_takeSamples (s : State) (l : Fin 5) (xs : List Bool) : StockKept c s (s.takeSamples l xs) :=
  .foldl (fun _ _ => stock_takeSample ..) _ _

end LineEvents

end Sys2Proof.Machine

namespace Sys2Proof.Machine

/-! ### The geometry of a plan (R27 to R32) -/

/-- The area a piece adds to the sum of the leaves (R29). -/
def Piece.leafArea : Piece → Nat
  | .leaf r _ _ => r.length * r.width
  | _ => 0

@[simp] theorem leafArea_unused : Piece.unused.leafArea = 0 := rfl
@[simp] theorem leafArea_leaf (r : Rect) (o : Option Origin) (d : Option Designation) :
    (Piece.leaf r o d).leafArea = r.length * r.width := rfl
@[simp] theorem leafArea_split (r : Rect) (o : Option Origin) : (Piece.split r o).leafArea = 0 := rfl

theorem sum_toList_map {α : Type} {n : Nat} (v : Vector α n) (f : α → Nat) :
    (v.toList.map f).sum = ∑ i, f (slot v i) := by
  have h : v.toList = (List.finRange n).map (slot v) := by
    apply List.ext_getElem
    · simp
    · intro i h1 h2
      simp [slot]
  rw [h, List.map_map]
  exact (Fin.sum_univ_def _).symm

theorem sum_put {α : Type} {n : Nat} (v : Vector α n) (f : α → Nat) (i : Fin n) (x : α) :
    (∑ j, f (slot (put v i x) j)) + f (slot v i) = (∑ j, f (slot v j)) + f x := by
  have same : ∑ j ∈ Finset.univ.erase i, f (slot (put v i x) j) = ∑ j ∈ Finset.univ.erase i, f (slot v j) :=
    Finset.sum_congr rfl fun j hj => by rw [slot_put_ne v x (Finset.ne_of_mem_erase hj).symm]
  rw [← Finset.add_sum_erase _ _ (Finset.mem_univ i), ← Finset.add_sum_erase _ _ (Finset.mem_univ i), same,
    slot_put_same]
  ring

theorem sumOfLeaves_eq (p : Plan) : p.sumOfLeaves (fun _ => true) = ∑ j, (slot p.pieces j).leafArea := by
  rw [← sum_toList_map]
  unfold Plan.sumOfLeaves
  exact congrArg (fun f => (p.pieces.toList.map f).sum) (funext fun x => by cases x <;> rfl)

/-- The sliver rule leaves room for both children and the strip, which make up the piece (R28, R29). -/
theorem cutGeometry_area {axis : Axis} {k o : Nat} {r : Rect} (h : sliverOk axis k o r = true) :
    (cutGeometry axis k o r).low.length * (cutGeometry axis k o r).low.width
      + (cutGeometry axis k o r).high.length * (cutGeometry axis k o r).high.width
      + k * (cutGeometry axis k o r).travel = r.length * r.width := by
  cases axis with
  | rip =>
    simp only [sliverOk, decide_eq_true_eq] at h
    obtain ⟨d, hd⟩ := Nat.exists_eq_add_of_le (show o + k ≤ r.width by omega)
    simp only [cutGeometry]
    rw [show r.width - o - k = d by omega, hd]
    ring
  | cross =>
    simp only [sliverOk, decide_eq_true_eq] at h
    obtain ⟨d, hd⟩ := Nat.exists_eq_add_of_le (show o + k ≤ r.length by omega)
    simp only [cutGeometry]
    rw [show r.length - o - k = d by omega, hd]
    ring

theorem pieceIndex_val {n : Nat} (h : n < 64) : (pieceIndex n).val = n := Nat.mod_eq_of_lt h

/-- What the numbers say of the new pieces of cut `c` and of a piece before them (R27). -/
theorem pieceIndex_new {c : Nat} (h : c < 31) {j : Fin 64} (hj : j.val ≤ 2 * c) :
    pieceIndex (2 * c + 1) ≠ pieceIndex (2 * c + 2) ∧ pieceIndex (2 * c + 1) ≠ j ∧ pieceIndex (2 * c + 2) ≠ j := by
  have h1 := pieceIndex_val (show 2 * c + 1 < 64 by omega)
  have h2 := pieceIndex_val (show 2 * c + 2 < 64 by omega)
  refine ⟨fun e => ?_, fun e => ?_, fun e => ?_⟩
  · rw [e, h2] at h1; omega
  · rw [e] at h1; omega
  · rw [e] at h2; omega

section Cuts

variable {p : Plan} {i : Fin 64} {axis : Axis} {offset : Nat} {r : Rect} {o : Option Origin}

/-- What cut `c` of a plan makes of its target (R28, R29): the clause of `wellCut` for one cut. -/
def Plan.madeBy (p : Plan) (c : Nat) (g : Cut) : Prop :=
  g.target.val ≤ 2 * c ∧ ∃ r o, slot p.pieces g.target = .split r o
    ∧ sliverOk g.axis p.kerf g.offset r = true
    ∧ (slot p.pieces (pieceIndex (2 * c + 1))).rect? = some (cutGeometry g.axis p.kerf g.offset r).low
    ∧ (slot p.pieces (pieceIndex (2 * c + 2))).rect? = some (cutGeometry g.axis p.kerf g.offset r).high
    ∧ g.travel = (cutGeometry g.axis p.kerf g.offset r).travel
    ∧ g.startX = (cutGeometry g.axis p.kerf g.offset r).startX
    ∧ g.startY = (cutGeometry g.axis p.kerf g.offset r).startY

theorem wellCut_iff (p : Plan) : p.wellCut ↔ p.cuts.length ≤ 31
    ∧ (∀ j : Fin 64, slot p.pieces j = .unused ↔ 2 * p.cuts.length < j.val)
    ∧ (∀ j r o, slot p.pieces j = .split r o → ∃ g ∈ p.cuts, g.target = j)
    ∧ (p.cuts.map Cut.target).Nodup ∧ (∀ c g, p.cuts[c]? = some g → p.madeBy c g)
    ∧ (∑ j, (slot p.pieces j).leafArea) + (p.cuts.map fun g => p.kerf * g.travel).sum = p.slabArea := by
  rw [← sumOfLeaves_eq]
  rfl

/-- A cut stays made where its target stays split and its children keep their rectangles. -/
theorem madeBy_congr {q : Plan} {c : Nat} {g : Cut} (h : p.madeBy c g) (hk : q.kerf = p.kerf)
    (ht : slot q.pieces g.target = slot p.pieces g.target)
    (h1 : (slot q.pieces (pieceIndex (2 * c + 1))).rect? = (slot p.pieces (pieceIndex (2 * c + 1))).rect?)
    (h2 : (slot q.pieces (pieceIndex (2 * c + 2))).rect? = (slot p.pieces (pieceIndex (2 * c + 2))).rect?) :
    q.madeBy c g := by
  unfold Plan.madeBy at h ⊢
  rw [hk, ht, h1, h2]
  exact h

theorem slabArea_eq (p : Plan) :
    p.slabArea = (((slot p.pieces 0).rect?).map fun r => r.length * r.width).getD 0 := by
  unfold Plan.slabArea
  cases slot p.pieces 0 <;> rfl

/-- The pieces behind a further cut (R31). -/
theorem slot_withCut (p : Plan) (i : Fin 64) (axis : Axis) (offset : Nat) (r : Rect) (o : Option Origin)
    (j : Fin 64) : slot (p.withCut i axis offset r o).pieces j
      = if pieceIndex (2 * p.cuts.length + 2) = j then
          .leaf (cutGeometry axis p.kerf offset r).high (some { parent := i.val, cut := p.cuts.length }) none
        else if pieceIndex (2 * p.cuts.length + 1) = j then
          .leaf (cutGeometry axis p.kerf offset r).low (some { parent := i.val, cut := p.cuts.length }) none
        else if i = j then .split r o else slot p.pieces j := by
  simp only [Plan.withCut, slot_put]

/-- The leaves of the plan with a further cut make up, with its strip, what they made up before (R29). -/
theorem leafArea_withCut (hunused : ∀ j : Fin 64, slot p.pieces j = .unused ↔ 2 * p.cuts.length < j.val)
    (hleaf : slot p.pieces i = .leaf r o none) (hs : sliverOk axis p.kerf offset r = true)
    (hc : p.cuts.length < 31) (hi : i.val ≤ 2 * p.cuts.length) :
    (∑ j, (slot (p.withCut i axis offset r o).pieces j).leafArea)
      + p.kerf * (cutGeometry axis p.kerf offset r).travel = ∑ j, (slot p.pieces j).leafArea := by
  obtain ⟨h12, h1i, h2i⟩ := pieceIndex_new hc hi
  have v1 := pieceIndex_val (show 2 * p.cuts.length + 1 < 64 by omega)
  have v2 := pieceIndex_val (show 2 * p.cuts.length + 2 < 64 by omega)
  have e0 := sum_put p.pieces Piece.leafArea i (.split r o)
  have e1 := sum_put (put p.pieces i (.split r o)) Piece.leafArea (pieceIndex (2 * p.cuts.length + 1))
    (.leaf (cutGeometry axis p.kerf offset r).low (some { parent := i.val, cut := p.cuts.length }) none)
  have e2 := sum_put (put (put p.pieces i (.split r o)) (pieceIndex (2 * p.cuts.length + 1))
    (.leaf (cutGeometry axis p.kerf offset r).low (some { parent := i.val, cut := p.cuts.length }) none))
    Piece.leafArea (pieceIndex (2 * p.cuts.length + 2))
    (.leaf (cutGeometry axis p.kerf offset r).high (some { parent := i.val, cut := p.cuts.length }) none)
  rw [hleaf, leafArea_leaf, leafArea_split] at e0
  rw [slot_put_ne _ _ h1i.symm, (hunused _).mpr (by omega), leafArea_unused, leafArea_leaf] at e1
  rw [slot_put_ne _ _ h12, slot_put_ne _ _ h2i.symm, (hunused _).mpr (by omega), leafArea_unused,
    leafArea_leaf] at e2
  have := cutGeometry_area hs
  simp only [Plan.withCut]
  omega

/-- A further cut of an undesignated leaf within the sliver rule keeps the geometry right (R29, R31). -/
theorem wellCut_withCut (h : p.wellCut) (hleaf : slot p.pieces i = .leaf r o none)
    (hs : sliverOk axis p.kerf offset r = true) (hc : p.cuts.length < 31) :
    (p.withCut i axis offset r o).wellCut := by
  obtain ⟨-, hunused, hsplit, hnodup, hmade, harea⟩ := (wellCut_iff p).mp h
  have hi : i.val ≤ 2 * p.cuts.length := by
    by_contra hlt
    have := (hunused i).mpr (by omega)
    rw [hleaf] at this; cases this
  obtain ⟨h12, h1i, h2i⟩ := pieceIndex_new hc hi
  have v1 := pieceIndex_val (show 2 * p.cuts.length + 1 < 64 by omega)
  have v2 := pieceIndex_val (show 2 * p.cuts.length + 2 < 64 by omega)
  have at_ := slot_withCut p i axis offset r o
  have atI : slot (p.withCut i axis offset r o).pieces i = .split r o := by
    rw [at_, if_neg h2i, if_neg h1i, if_pos rfl]
  have old {j : Fin 64} (hj : j.val ≤ 2 * p.cuts.length) (hji : j ≠ i) :
      slot (p.withCut i axis offset r o).pieces j = slot p.pieces j := by
    obtain ⟨-, a1, a2⟩ := pieceIndex_new hc hj
    rw [at_, if_neg a2, if_neg a1, if_neg hji.symm]
  have oldRect {j : Fin 64} (hj : j.val ≤ 2 * p.cuts.length) :
      (slot (p.withCut i axis offset r o).pieces j).rect? = (slot p.pieces j).rect? := by
    by_cases hji : j = i
    · subst hji; rw [atI, hleaf]; rfl
    · rw [old hj hji]
  have notTarget {g : Cut} (hg : g ∈ p.cuts) : g.target ≠ i := by
    intro e
    obtain ⟨c, hlt, rfl⟩ := List.getElem_of_mem hg
    obtain ⟨-, r', o', hx, -⟩ := hmade c _ (List.getElem?_eq_getElem hlt)
    rw [e, hleaf] at hx; cases hx
  have hlen : (p.withCut i axis offset r o).cuts.length = p.cuts.length + 1 := by simp [Plan.withCut]
  refine (wellCut_iff _).mpr ⟨by omega, fun j => ?_, fun j r' o' hj => ?_, ?_, fun c g hg => ?_, ?_⟩
  case refine_1 =>
    rw [hlen, at_]
    split
    · next e => subst e; simp only [reduceCtorEq, false_iff, v2]; omega
    · split
      · next e => subst e; simp only [reduceCtorEq, false_iff, v1]; omega
      · split
        · next e => subst e; simp only [reduceCtorEq, false_iff]; omega
        · next e2 e1 ei =>
          rw [hunused]
          have n1 : j.val ≠ 2 * p.cuts.length + 1 := fun e => e1 (Fin.ext (v1.trans e.symm))
          have n2 : j.val ≠ 2 * p.cuts.length + 2 := fun e => e2 (Fin.ext (v2.trans e.symm))
          omega
  case refine_2 =>
    rw [at_] at hj
    split at hj
    · cases hj
    · split at hj
      · cases hj
      · split at hj
        · next e => exact ⟨_, List.mem_append_right _ (List.mem_singleton_self _), e⟩
        · obtain ⟨g, hg, e⟩ := hsplit j r' o' hj
          exact ⟨g, List.mem_append_left _ hg, e⟩
  case refine_3 =>
    simp only [Plan.withCut, List.map_append, List.map_cons, List.map_nil]
    rw [List.nodup_append]
    refine ⟨hnodup, by simp, fun a ha b hb => ?_⟩
    obtain ⟨g, hg, rfl⟩ := List.mem_map.mp ha
    rw [List.mem_singleton] at hb
    rw [hb]
    exact notTarget hg
  case refine_4 =>
    rcases Nat.lt_trichotomy c p.cuts.length with hlt | heq | hgt
    · have hg' : p.cuts[c]? = some g := by
        simp only [Plan.withCut] at hg
        rwa [List.getElem?_append_left hlt] at hg
      have hm := hmade c g hg'
      have w1 := pieceIndex_val (show 2 * c + 1 < 64 by omega)
      have w2 := pieceIndex_val (show 2 * c + 2 < 64 by omega)
      refine madeBy_congr hm rfl (old ?_ ?_) (oldRect (by omega)) (oldRect (by omega))
      · have := hm.1; omega
      · exact notTarget (List.mem_of_getElem? hg')
    · subst heq
      simp only [Plan.withCut, List.getElem?_concat_length, Option.some.injEq] at hg
      subst hg
      refine ⟨hi, r, o, atI, hs, ?_, ?_, rfl, rfl, rfl⟩
      · rw [at_, if_neg h12.symm, if_pos rfl]; rfl
      · rw [at_, if_pos rfl]; rfl
    · simp only [Plan.withCut] at hg
      rw [List.getElem?_eq_none (by simp; omega)] at hg
      cases hg
  case refine_5 =>
    have hsum := leafArea_withCut hunused hleaf hs hc hi
    have hstrips : ((p.withCut i axis offset r o).cuts.map fun g => p.kerf * g.travel).sum
        = (p.cuts.map fun g => p.kerf * g.travel).sum + p.kerf * (cutGeometry axis p.kerf offset r).travel := by
      simp [Plan.withCut]
    have hslab : (p.withCut i axis offset r o).slabArea = p.slabArea := by
      rw [slabArea_eq, slabArea_eq, oldRect (Nat.zero_le _)]
    change _ + ((p.withCut i axis offset r o).cuts.map fun g => p.kerf * g.travel).sum = _
    rw [hslab, hstrips]
    omega

/-! The last cut taken back (R32) -/

/-- The plan without its last cut `g` (R32). -/
def Plan.withoutCut (p : Plan) (g : Cut) : Plan :=
  let low := pieceIndex (2 * (p.cuts.length - 1) + 1)
  let high := pieceIndex (2 * (p.cuts.length - 1) + 2)
  let pieces := put (put p.pieces low .unused) high .unused
  { p with cuts := p.cuts.dropLast, pieces := put pieces g.target (slot pieces g.target).rejoined }

/-- The two pieces the last cut made are leaves: each is used, and a cut that split one would come behind (R27). -/
theorem leaf_of_last {c : Nat} {j : Fin 64} (h : p.wellCut) (hlen : p.cuts.length = c + 1)
    (hj : 2 * c < j.val) (hj' : j.val ≤ 2 * c + 2) : ∃ r o d, slot p.pieces j = .leaf r o d := by
  obtain ⟨-, hunused, hsplit, -, hmade, -⟩ := (wellCut_iff p).mp h
  cases hx : slot p.pieces j with
  | unused => have := (hunused j).mp hx; omega
  | leaf r o d => exact ⟨r, o, d, rfl⟩
  | split r o =>
    obtain ⟨g, hg, rfl⟩ := hsplit j r o hx
    obtain ⟨b, hlt, rfl⟩ := List.getElem_of_mem hg
    have := (hmade b _ (List.getElem?_eq_getElem hlt)).1
    omega

/-- Taking back the last cut keeps the geometry right (R29, R32). -/
theorem wellCut_withoutCut {g : Cut} (h : p.wellCut) (hg : p.cuts.getLast? = some g) :
    (p.withoutCut g).wellCut := by
  obtain ⟨hlen31, hunused, hsplit, hnodup, hmade, harea⟩ := (wellCut_iff p).mp h
  obtain ⟨cs, hcs⟩ : ∃ cs, p.cuts = cs ++ [g] := List.getLast?_eq_some_iff.mp hg
  have hlen : p.cuts.length = cs.length + 1 := by rw [hcs]; simp
  generalize hc : cs.length = c at hlen
  have hlast : p.cuts[c]? = some g := by rw [hcs, ← hc]; simp
  obtain ⟨hi, r, o, htarget, hs, hlow, hhigh, htravel, -, -⟩ := hmade c g hlast
  obtain ⟨h12, h1i, h2i⟩ := pieceIndex_new (show c < 31 by omega) hi
  have v1 := pieceIndex_val (show 2 * c + 1 < 64 by omega)
  have v2 := pieceIndex_val (show 2 * c + 2 < 64 by omega)
  have hpieces : (p.withoutCut g).pieces = put (put (put p.pieces (pieceIndex (2 * c + 1)) .unused)
      (pieceIndex (2 * c + 2)) .unused) g.target (.leaf r o none) := by
    simp only [Plan.withoutCut, hlen, Nat.add_sub_cancel]
    rw [slot_put_ne _ _ h2i, slot_put_ne _ _ h1i, htarget]
    rfl
  have hcuts : (p.withoutCut g).cuts = cs := by simp [Plan.withoutCut, hcs]
  have at_ (j : Fin 64) : slot (p.withoutCut g).pieces j = if g.target = j then .leaf r o none
      else if pieceIndex (2 * c + 2) = j ∨ pieceIndex (2 * c + 1) = j then .unused else slot p.pieces j := by
    rw [hpieces]
    simp only [slot_put]
    split
    · rfl
    · by_cases a : pieceIndex (2 * c + 2) = j <;> by_cases b : pieceIndex (2 * c + 1) = j <;> simp [a, b]
  have old {j : Fin 64} (hj : j.val ≤ 2 * c) (hji : j ≠ g.target) :
      slot (p.withoutCut g).pieces j = slot p.pieces j := by
    obtain ⟨-, a1, a2⟩ := pieceIndex_new (show c < 31 by omega) hj
    rw [at_, if_neg hji.symm, if_neg (by tauto)]
  have oldRect {j : Fin 64} (hj : j.val ≤ 2 * c) :
      (slot (p.withoutCut g).pieces j).rect? = (slot p.pieces j).rect? := by
    by_cases hji : j = g.target
    · rw [hji, htarget, at_, if_pos rfl]; rfl
    · rw [old hj hji]
  have targets : cs.map Cut.target ++ [g.target] = p.cuts.map Cut.target := by rw [hcs]; simp
  have htargets := List.nodup_append.mp (targets ▸ hnodup)
  refine (wellCut_iff _).mpr ⟨by rw [hcuts]; omega, fun j => ?_, fun j r' o' hj => ?_, ?_, fun b x hx => ?_, ?_⟩
  case refine_1 =>
    rw [hcuts, hc, at_]
    split
    · next e => subst e; simp only [reduceCtorEq, false_iff]; omega
    · split
      · next e =>
        have hv : j.val = 2 * c + 2 ∨ j.val = 2 * c + 1 :=
          e.imp (fun e => by rw [← e, v2]) (fun e => by rw [← e, v1])
        simp only [true_iff]
        omega
      · next e =>
        rw [hunused]
        have n1 : j.val ≠ 2 * c + 1 := fun a => e (.inr (Fin.ext (v1.trans a.symm)))
        have n2 : j.val ≠ 2 * c + 2 := fun a => e (.inl (Fin.ext (v2.trans a.symm)))
        omega
  case refine_2 =>
    rw [at_] at hj
    split at hj
    · cases hj
    · next hne =>
      split at hj
      · cases hj
      · obtain ⟨x, hx, e⟩ := hsplit j r' o' hj
        rw [hcs, List.mem_append, List.mem_singleton] at hx
        refine ⟨x, hcuts ▸ hx.resolve_right ?_, e⟩
        rintro rfl
        exact hne e
  case refine_3 => rw [hcuts]; exact htargets.1
  case refine_4 =>
    rw [hcuts] at hx
    obtain ⟨hlt, -⟩ := List.getElem?_eq_some_iff.mp hx
    have hx' : p.cuts[b]? = some x := by rw [hcs, List.getElem?_append_left hlt]; exact hx
    have hm := hmade b x hx'
    have w1 := pieceIndex_val (show 2 * b + 1 < 64 by omega)
    have w2 := pieceIndex_val (show 2 * b + 2 < 64 by omega)
    refine madeBy_congr hm rfl (old ?_ ?_) (oldRect (by omega)) (oldRect (by omega))
    · have := hm.1; omega
    · exact htargets.2.2 _ (List.mem_map_of_mem (List.mem_of_getElem? hx)) _ (List.mem_singleton_self _)
  case refine_5 =>
    obtain ⟨rl, ol, dl, hl⟩ := leaf_of_last h hlen (j := pieceIndex (2 * c + 1)) (by omega) (by omega)
    obtain ⟨rh, oh, dh, hh⟩ := leaf_of_last h hlen (j := pieceIndex (2 * c + 2)) (by omega) (by omega)
    rw [hl, Piece.rect?, Option.some.injEq] at hlow
    rw [hh, Piece.rect?, Option.some.injEq] at hhigh
    have e1 := sum_put p.pieces Piece.leafArea (pieceIndex (2 * c + 1)) .unused
    have e2 := sum_put (put p.pieces (pieceIndex (2 * c + 1)) .unused) Piece.leafArea (pieceIndex (2 * c + 2)) .unused
    have e3 := sum_put (put (put p.pieces (pieceIndex (2 * c + 1)) .unused) (pieceIndex (2 * c + 2)) .unused)
      Piece.leafArea g.target (.leaf r o none)
    rw [hl, leafArea_unused, leafArea_leaf, hlow] at e1
    rw [slot_put_ne _ _ h12, hh, leafArea_unused, leafArea_leaf, hhigh] at e2
    rw [slot_put_ne _ _ h2i, slot_put_ne _ _ h1i, htarget, leafArea_split, leafArea_leaf, ← hpieces] at e3
    have hstrips : (p.cuts.map fun g => p.kerf * g.travel).sum
        = (cs.map fun g => p.kerf * g.travel).sum + p.kerf * g.travel := by simp [hcs]
    have hslab : (p.withoutCut g).slabArea = p.slabArea := by
      rw [slabArea_eq, slabArea_eq, oldRect (Nat.zero_le _)]
    have := cutGeometry_area hs
    rw [← htravel] at this
    rw [hslab, hcuts]
    change _ + (cs.map fun g => p.kerf * g.travel).sum = _
    omega

/-! A plan just opened, and a piece marked (R30, R34) -/

theorem wellCut_new (tag kerf length width : Nat) : (Plan.new tag kerf length width).wellCut := by
  have at_ (j : Fin 64) : slot (Plan.new tag kerf length width).pieces j
      = if 0 = j then .leaf { x := 0, y := 0, length := length, width := width } none none else .unused := by
    simp only [Plan.new, slot_put, slot_replicate]
  refine (wellCut_iff _).mpr ⟨by simp [Plan.new], fun j => ?_, fun j r o hj => ?_, by simp [Plan.new],
    fun c g hg => by simp [Plan.new] at hg, ?_⟩
  · rw [at_]
    split
    · next e => subst e; simp [Plan.new]
    · next e =>
      have : j.val ≠ 0 := fun a => e (Fin.ext a.symm)
      simp only [true_iff, Plan.new, List.length_nil]
      omega
  · rw [at_] at hj
    split at hj <;> cases hj
  · have e := sum_put (Vector.replicate 64 Piece.unused) Piece.leafArea 0
      (.leaf { x := 0, y := 0, length := length, width := width } none none)
    simp only [slot_replicate, leafArea_unused, leafArea_leaf, Finset.sum_const_zero] at e
    have : (Plan.new tag kerf length width).slabArea = length * width := by rw [slabArea_eq, at_]; rfl
    rw [this]
    simp only [Plan.new, List.map_nil, List.sum_nil]
    omega

/-- A leaf marked anew keeps its rectangle, and with it the geometry (R34). -/
theorem wellCut_mark {d d' : Option Designation} (h : p.wellCut) (hleaf : slot p.pieces i = .leaf r o d) :
    ({ p with pieces := put p.pieces i (.leaf r o d') } : Plan).wellCut := by
  obtain ⟨hlen, hunused, hsplit, hnodup, hmade, harea⟩ := (wellCut_iff p).mp h
  have rects (j : Fin 64) : (slot (put p.pieces i (.leaf r o d')) j).rect? = (slot p.pieces j).rect? := by
    rw [slot_put]
    split
    · next e => subst e; rw [hleaf]; rfl
    · rfl
  refine (wellCut_iff _).mpr ⟨hlen, fun j => ?_, fun j r' o' hj => ?_, hnodup, fun c g hg => ?_, ?_⟩
  · rw [← hunused, slot_put]
    split
    · next e => subst e; rw [hleaf]; simp
    · rfl
  · rw [slot_put] at hj
    split at hj
    · cases hj
    · exact hsplit j r' o' hj
  · refine madeBy_congr (hmade c g hg) rfl (slot_put_ne _ _ ?_) (rects _) (rects _)
    intro e
    obtain ⟨-, r', o', hx, -⟩ := hmade c g hg
    rw [← e, hleaf] at hx; cases hx
  · have e := sum_put p.pieces Piece.leafArea i (.leaf r o d')
    rw [hleaf, leafArea_leaf, leafArea_leaf] at e
    rw [slabArea_eq, rects, ← slabArea_eq, ← harea]
    change (∑ j, (slot (put p.pieces i (.leaf r o d')) j).leafArea) + _ = _
    simp only
    omega

end Cuts

end Sys2Proof.Machine

namespace Sys2Proof.Machine

/-! ### Handlers: what a request's success says -/

/-- Wherever a handler's answer is OK, its state meets `P` (R171, R180). -/
structure Answers (P : State → Prop) (x : Except Answer (State × List Byte)) : Prop where
  ok : ∀ t fs, x = .ok (t, fs) → P t

section Answers

variable {P : State → Prop} {s t : State} {k : Fin 12} {p : Plan} {n : Fin 512} {r : Slab} {tag number : Nat}

theorem Answers.refuse {code : ReplyCode} : Answers P (refuse code) := ⟨by rintro _ _ ⟨⟩⟩

theorem Answers.error {a : Answer} : Answers P (.error a) := ⟨by rintro _ _ ⟨⟩⟩

theorem Answers.done {fs : List Byte} (h : P t) : Answers P (done t fs) := ⟨by rintro _ _ ⟨⟩; exact h⟩

theorem Answers.ite {c : Prop} [Decidable c] {x y : Except Answer (State × List Byte)} (h : c → Answers P x)
    (g : ¬c → Answers P y) : Answers P (if c then x else y) := by
  split
  · next hc => exact h hc
  · next hc => exact g hc

/-- A check that refuses comes before what is done. -/
theorem Answers.unless {c : Prop} [Decidable c] {code : ReplyCode} {x : Except Answer (State × List Byte)}
    (h : ¬c → Answers P x) : Answers P (if c then Machine.refuse code else x) := .ite (fun _ => .refuse) h

/-- The tag checks passed (R10). -/
theorem tagCheck_ok (h : s.tagCheck tag = .ok (n, r)) : s.slab n = some r ∧ r.tag = tag := by
  unfold State.tagCheck at h
  split at h
  · cases h
  · split at h
    · cases h
    · next hx => cases h; exact slabOf_some hx

/-- The plan checks passed (R26). -/
theorem planCheck_ok {takes : PlanState → Bool} (h : s.planCheck number takes = .ok (k, p)) :
    index? 12 number = some k ∧ s.plan k = some p ∧ takes p.state = true := by
  unfold State.planCheck at h
  split at h
  · cases h
  · next hk =>
    split at h
    · cases h
    · next hp =>
      split at h
      · next ht => cases h; exact ⟨hk, hp, ht⟩
      · cases h

theorem isOpened_iff {x : PlanState} : x.isOpened = true ↔ x = .opened := by simp [PlanState.isOpened]
theorem isLocked_iff {x : PlanState} : x.isLocked = true ↔ x = .locked := by simp [PlanState.isLocked]
theorem isBound_iff {x : PlanState} : x.isBound = true ↔ x = .bound := by simp [PlanState.isBound]

/-- The checks of the hold passed (R18). -/
theorem holdCheck_ok (h : s.holdCheck tag = .ok (n, r)) : s.slab n = some r ∧ r.tag = tag ∧ r.state = .available := by
  unfold State.holdCheck at h
  split at h
  · cases h
  · next x hx =>
    obtain ⟨hr, ht⟩ := tagCheck_ok hx
    split at h
    · cases h
    · next hav =>
      split at h
      · cases h
      · split at h
        · cases h
        · cases h; exact ⟨hr, ht, not_not.mp hav⟩

/-! The reads change nothing (R171) -/

theorem readSlab_reads (tag : Nat) (s : State) : Answers (· = s) (readSlab tag s) := by
  unfold readSlab
  split
  · exact .error
  · exact .done rfl

theorem listStock_reads (cursor material slabState : Nat) (s : State) :
    Answers (· = s) (listStock cursor material slabState s) := by
  refine .unless fun _ => ?_
  dsimp only
  split
  · exact .refuse
  · split
    · exact .refuse
    · exact .done rfl

theorem findSlab_reads (material thickness minLength minWidth : Nat) (s : State) :
    Answers (· = s) (findSlab material thickness minLength minWidth s) := by
  unfold findSlab
  split
  · exact .refuse
  · refine .unless fun _ => ?_
    split
    · exact .refuse
    · exact .done rfl

theorem readMaterial_reads (code : Nat) (s : State) : Answers (· = s) (readMaterial code s) := by
  unfold readMaterial
  split
  · exact .refuse
  · split
    · exact .refuse
    · exact .done rfl

theorem readPlan_reads (plan start : Nat) (s : State) : Answers (· = s) (readPlan plan start s) := by
  unfold readPlan
  split
  · exact .error
  · exact .unless fun _ => .done rfl

theorem readJob_reads (number : Nat) (s : State) : Answers (· = s) (readJob number s) := by
  unfold readJob
  split
  · exact .error
  · exact .done rfl

theorem readLine_reads (line : Nat) (s : State) : Answers (· = s) (readLine line s) := by
  unfold readLine
  split
  · exact .refuse
  · exact .done rfl

theorem readStation_reads (station : Nat) (s : State) : Answers (· = s) (readStation station s) := by
  unfold readStation
  split
  · exact .refuse
  · exact .done rfl

theorem readBlade_reads (station : Nat) (s : State) : Answers (· = s) (readBlade station s) := by
  unfold readBlade
  split
  · exact .refuse
  · split
    · exact .refuse
    · exact .done rfl

/-- A read keeps every law. -/
theorem Answers.kept {c : Prop} {x : Except Answer (State × List Byte)} (h : Answers (· = s) x) :
    Answers (StockKept c s) x := ⟨fun t fs e => by rw [h.ok t fs e]; exact .refl s⟩

end Answers

/-! ### Requests on the records (R12 to R17) -/

section RecordRequests

variable {c : Prop} {s t : State} {n : Fin 512} {r : Slab}

/-- Where only AVAILABLE records come, go or change, every law of the plans stands (R5). -/
theorem stock_freeRecords (hp : t.plans = s.plans) (hst : t.stations = s.stations)
    (on : ∀ m r, s.slab m = some r → r.state ≠ .available → t.slab m = some r)
    (back : ∀ m r, t.slab m = some r → s.slab m = some r
      ∨ (r.state = .available ∧ (s.holdingLaw → r.holder = none)))
    (hr : RecordsKept s t) : StockKept c s t := by
  have plan (k : Fin 12) : t.plan k = s.plan k := by rw [State.plan, hp]; rfl
  have station (i : Fin 4) : t.station i = s.station i := by rw [State.station, hst]; rfl
  have held (hl : s.holdingLaw) (m : Fin 512) (r : Slab) (k : Fin 12) (hm : s.slab m = some r)
      (hk : r.holder = some k) : t.slab m = some r := by
    refine on m r hm fun hav => ?_
    rw [(hl.1 m r hm).1.mp hav] at hk; cases hk
  have holding (hl : s.holdingLaw) : t.holdingLaw := by
    refine ⟨fun m r hm => ?_, fun k p hk => ?_⟩
    · rcases back m r hm with h | ⟨hav, hho⟩
      · refine ⟨(hl.1 m r h).1, fun k hk => ?_⟩
        rw [plan]
        exact (hl.1 m r h).2 k hk
      · exact ⟨by simp [hav, hho hl], fun k hk => by rw [hho hl] at hk; cases hk⟩
    · rw [plan] at hk
      obtain ⟨m, r, hm, hmt, hmh⟩ := hl.2 k p hk
      exact ⟨m, r, held hl m r k hm hmh, hmt, hmh⟩
  refine ⟨hr, fun _ => holding, fun _ hs => ⟨hr.tag hs.tags, holding hs.holding, fun k p hk => ?_, ?_⟩⟩
  · rw [plan] at hk
    obtain ⟨hw, m, r, hm, hmt, hmh, hrect⟩ := hs.plans k p hk
    exact ⟨hw, m, r, held hs.holding m r k hm hmh, hmt, hmh, hrect⟩
  · refine ⟨fun k p hk => ?_, fun i k hk => ?_⟩
    · simp only [station]
      exact hs.progress.1 k p (plan k ▸ hk)
    · rw [station] at hk ⊢
      rw [plan]
      exact hs.progress.2 i k hk

/-- One AVAILABLE record in the place of an AVAILABLE one or of none. -/
theorem stock_freeRecord {x : Option Slab} (hp : t.plans = s.plans) (hst : t.stations = s.stations)
    (hold : ∀ r, s.slab n = some r → r.state = .available)
    (hnew : ∀ y, x = some y → y.state = .available ∧ (s.holdingLaw → y.holder = none))
    (hs : ∀ m, t.slab m = if n = m then x else s.slab m) (hr : RecordsKept s t) : StockKept c s t := by
  refine stock_freeRecords hp hst (fun m r hm hav => ?_) (fun m r hm => ?_) hr
  · rw [hs, if_neg]
    · exact hm
    · rintro rfl
      exact hav (hold r hm)
  · rw [hs] at hm
    split at hm
    · exact .inr (hnew r hm)
    · exact .inl hm

/-- A new record behind the checks of R12. -/
theorem records_admit {pos : Option (Fin 120)} (hn : s.slab n = none) (htag : ∀ m y, s.slab m = some y → y.tag ≠ r.tag)
    (hroom : s.liveSlabs + s.stock.reserved < 512) (hpos : r.rack = pos) (hst : r.state = .available)
    (hfree : pos.bind (slot s.stock.rackMap) = none) :
    RecordsKept s ((s.rackAt pos (some r.tag)).rewriteSlab n r) := by
  have hs (m : Fin 512) : ((s.rackAt pos (some r.tag)).rewriteSlab n r).slab m
      = if n = m then some r else s.slab m := by rw [slab_rewriteSlab, rackAt_slab]
  refine ⟨fun ht => tagLaw_new ht htag hs, fun _ hk => ?_, fun _ => ?_⟩
  · refine rackLaw_new hk hn (by simp [hst]) (fun q hq => ?_) hs fun q => ?_
    · rw [← hpos, hq] at hfree; exact hfree
    · exact (rackAt_rackMap s pos (some r.tag) q).trans (by rw [hpos])
  · have e : ((s.rackAt pos (some r.tag)).rewriteSlab n r).liveSlabs = s.liveSlabs + 1 := by
      rw [← liveSlabs_setSlab_new s n r hn]
      exact congrArg (fun v => countWhere (put v n (some r)) fun r => r.isSome) (rackAt_slabs s pos (some r.tag))
    have e' : ((s.rackAt pos (some r.tag)).rewriteSlab n r).stock.reserved = s.stock.reserved := rackAt_reserved ..
    unfold State.slotLaw
    rw [e, e']; omega

theorem stock_admitSlab (tag material length width thickness cost rack : Nat) (s : State) :
    Answers (StockKept c s) (admitSlab tag material length width thickness cost rack s) := by
  refine .unless fun _ => ?_
  split
  · exact .refuse
  · exact .refuse
  · next pos _ _ =>
    refine .unless fun _ => .unless fun hdup => .unless fun hroom => ?_
    split
    · exact .refuse
    · next n hn =>
      refine .unless fun hfree => .done ?_
      have hnone : s.slab n = none := Option.isNone_iff_eq_none.mp (lowest_some hn).1
      refine stock_freeRecord (rackAt_plans ..) (rackAt_stations ..) (fun r hr => by rw [hnone] at hr; cases hr) ?_
        (fun m => by rw [slab_rewriteSlab, rackAt_slab]) ?_
      · rintro _ ⟨⟩; exact ⟨rfl, fun _ => rfl⟩
      · exact records_admit (r := ⟨tag, .full, _, length, width, thickness, cost, none, pos, .available, none, false⟩)
          hnone (fun m y hy e => hdup (findTag_isSome ⟨m, y, hy, e⟩)) (by omega) rfl rfl (by simpa using hfree)

/-- A record moved to a position that is free or its own (R15). -/
theorem undisturbed_move {pos : Option (Fin 120)} (hr : s.slab n = some r) (hcut : r.state ≠ .cutting)
    (hfree : ∀ q, pos = some q → ∀ x, slot s.stock.rackMap q = some x → x = r.tag) :
    Undisturbed s (((s.rackAt r.rack none).rackAt pos (some r.tag)).rewriteSlab n { r with rack := pos }) where
  plans k := congrArg (fun v => (slot v k).map Plan.course) ((rackAt_plans ..).trans (rackAt_plans ..))
  stations i := by
    have e : (((s.rackAt r.rack none).rackAt pos (some r.tag)).rewriteSlab n { r with rack := pos }).station i
        = s.station i := congrArg (fun v => slot v i) ((rackAt_stations ..).trans (rackAt_stations ..))
    rw [e]
    exact ⟨rfl, fun _ => rfl⟩
  slabs m := by
    rw [slab_rewriteSlab, rackAt_slab, rackAt_slab]
    split
    · next e => subst e; rw [hr]; rfl
    · rfl
  reserved := (rackAt_reserved ..).trans (rackAt_reserved ..)
  rack ht hk := by
    refine rackLaw_setSlab ht hk hr (x := some { r with rack := pos }) ?_ ?_ ?_
      (fun m => by rw [slab_rewriteSlab, rackAt_slab, rackAt_slab]) ?_
    · rintro _ ⟨⟩; rfl
    · rintro _ ⟨⟩ h; exact absurd h hcut
    · rintro _ q ⟨⟩ hq
      cases hx : slot s.stock.rackMap q with
      | none => exact .inr rfl
      | some x =>
        obtain ⟨m, y, hy, hyq, hyt⟩ := (hk.1 q x).mp hx
        have := ht n m r y hr hy ((hyt.trans (hfree q hq x hx)).symm)
        subst this
        rw [hr] at hy; cases hy
        exact .inl hyq
    · intro q
      exact (rackAt_rackMap ..).trans (by rw [rackAt_rackMap]; rfl)

theorem stock_moveSlab (tag rack : Nat) (s : State) : Answers (StockKept c s) (moveSlab tag rack s) := by
  unfold moveSlab
  split
  · exact .error
  · next n r h =>
    obtain ⟨hr, rfl⟩ := tagCheck_ok h
    split
    · exact .refuse
    · refine .unless fun hcut => .unless fun hocc => .ite (fun _ => .done (.refl s)) fun _ => .done ?_
      refine (undisturbed_move hr hcut fun q hq x hx => ?_).kept
      rw [hq, Option.bind_some, hx] at hocc
      simpa using hocc

theorem stock_amendSlab (tag length width cost : Nat) (s : State) :
    Answers (StockKept c s) (amendSlab tag length width cost s) := by
  unfold amendSlab
  split
  · exact .error
  · next n r h =>
    obtain ⟨hr, -⟩ := tagCheck_ok h
    refine .unless fun _ => .unless fun hav => .done (.ite (.refl s) ?_)
    rw [not_not] at hav
    refine stock_freeRecord rfl rfl (fun y hy => by rw [hr] at hy; cases hy; exact hav) ?_ (slab_rewriteSlab s n · _)
      (records_rewriteSlab hr rfl rfl (by simp [hav]))
    rintro _ ⟨⟩
    exact ⟨hav, fun hl => (hl.1 n r hr).1.mp hav⟩

/-- An AVAILABLE record retired (R17). -/
theorem stock_retireRecord (hr : s.slab n = some r) (hav : r.state = .available) :
    StockKept c s (s.retireSlab n r) :=
  stock_freeRecord (x := none) (rackAt_plans s r.rack none) (rackAt_stations s r.rack none)
    (fun y hy => by rw [hr] at hy; cases hy; exact hav) (by rintro _ ⟨⟩) (slab_retireSlab s n · r)
    (records_retireSlab hr)

theorem stock_retireSlab (tag reason : Nat) (s : State) : Answers (StockKept c s) (retireSlab tag reason s) := by
  unfold retireSlab
  split
  · exact .error
  · next n r h =>
    obtain ⟨hr, -⟩ := tagCheck_ok h
    refine .unless fun _ => .unless fun hav => .done ?_
    split
    · refine (undisturbed_bookOverhead ..).kept.trans (stock_retireRecord ?_ (not_not.mp hav))
      rw [State.slab, (booked_bookOverhead ..).stock]
      exact hr
    · exact stock_retireRecord hr (not_not.mp hav)

/-! Requests on the materials (R2, R3) -/

theorem undisturbed_setMaterial (s : State) (m : Fin 32) (x : Option Material) : Undisturbed s (s.setMaterial m x) :=
  ⟨fun _ => rfl, fun _ => ⟨rfl, fun _ => rfl⟩, fun _ => rfl, rfl, fun _ h => h⟩

theorem stock_setMaterial (code veined density baseFeed minFeed hardness minRemLength minRemWidth valueFactor : Nat)
    (s : State) : Answers (StockKept c s)
      (setMaterial code veined density baseFeed minFeed hardness minRemLength minRemWidth valueFactor s) := by
  unfold setMaterial
  split
  · exact .refuse
  · exact .done (.ite (.refl s) ((undisturbed_setMaterial ..).trans (undisturbed_enqueue ..)).kept)

theorem stock_clearMaterial (code : Nat) (s : State) : Answers (StockKept c s) (clearMaterial code s) := by
  unfold clearMaterial
  split
  · exact .refuse
  · exact .unless fun _ => .unless fun _ => .done ((undisturbed_setMaterial ..).trans (undisturbed_enqueue ..)).kept

end RecordRequests

end Sys2Proof.Machine

namespace Sys2Proof.Machine

/-! ### Requests on the plans (R30 to R44) -/

section PlanRequests

variable {c : Prop} {s t : State} {k : Fin 12} {p q : Plan} {n : Fin 512} {r : Slab}

/-- A plan that no station works, changed but for its slab (R31 to R42). -/
theorem stock_setPlan (hk : s.plan k = some p) (hb : p.state ≠ .bound) (hqb : q.state ≠ .bound)
    (htag : q.slabTag = p.slabTag)
    (hw : p.wellCut → q.wellCut ∧ (slot q.pieces 0).rect? = (slot p.pieces 0).rect?)
    (hc : p.onCourse → q.onCourse) : StockKept c s (s.setPlan k (some q)) := by
  have hplans := (plan_setPlan s k · (some q))
  have holding (hl : s.holdingLaw) : (s.setPlan k (some q)).holdingLaw := by
    refine holdingLaw_of_plans hl rfl fun j => ?_
    rw [hplans]
    split
    · next e => subst e; rw [hk, Option.map_some, Option.map_some, htag]
    · rfl
  refine ⟨.of_stock rfl, fun _ => holding, fun _ hs => ⟨hs.tags, holding hs.holding, ?_, ?_⟩⟩
  · intro j x hx
    rw [hplans] at hx
    split at hx
    · next e =>
      subst e; cases hx
      obtain ⟨hcut, n, r, hr, hrt, hrh, hrr⟩ := hs.plans k p hk
      exact ⟨(hw hcut).1, n, r, hr, hrt.trans htag.symm, hrh, (hw hcut).2.trans hrr⟩
    · exact hs.plans j x hx
  · refine ⟨fun j x hx => ?_, fun i j hij => ?_⟩
    · rw [hplans] at hx
      split at hx
      · cases hx
        exact ⟨hc (hs.progress.1 k p hk).1, fun h => absurd h hqb⟩
      · exact hs.progress.1 j x hx
    · obtain ⟨x, hx, hxb, hxi, hxn⟩ := hs.progress.2 i j hij
      refine ⟨x, ?_, hxb, hxi, hxn⟩
      rw [hplans, if_neg]
      · exact hx
      · rintro rfl
        rw [hk] at hx; cases hx
        exact hb hxb

theorem stock_reserve {x : Nat} (h : s.slotLaw → s.liveSlabs + x ≤ 512) : StockKept c s (s.setReserved x) :=
  ⟨⟨id, fun _ => id, h⟩, fun _ => id, fun _ hs => ⟨hs.tags, hs.holding, hs.plans, hs.progress⟩⟩

/-! OPEN_PLAN -/

theorem onCourse_new (tag kerf length width : Nat) : (Plan.new tag kerf length width).onCourse :=
  ⟨fun _ _ h => by simp [Plan.new] at h, fun _ => ⟨rfl, rfl, rfl⟩, fun _ => ⟨rfl, rfl⟩, by rintro ⟨⟩, by rintro ⟨⟩⟩

theorem rect_new (tag kerf length width : Nat) : (slot (Plan.new tag kerf length width).pieces 0).rect?
    = some { x := 0, y := 0, length := length, width := width } := by
  simp only [Plan.new, slot_put_same]; rfl

/-- An AVAILABLE slab held by the plan opened on it (R18, R30). -/
theorem stock_hold (hr : s.slab n = some r) (hav : r.state = .available) (hk : s.plan k = none) (kerf : Nat) :
    StockKept c s ((s.holdSlab n r k).setPlan k (some (Plan.new r.tag kerf r.length r.width))) := by
  generalize ht : (s.holdSlab n r k).setPlan k (some (Plan.new r.tag kerf r.length r.width)) = t
  have hplan (j : Fin 12) : t.plan j
      = if k = j then some (Plan.new r.tag kerf r.length r.width) else s.plan j := by
    rw [← ht, plan_setPlan]; rfl
  have hslab (m : Fin 512) : t.slab m
      = if n = m then some { r with state := .held, holder := some k } else s.slab m := by
    rw [← ht, slab_setPlan]; exact slab_rewriteSlab ..
  have hstation (i : Fin 4) : t.station i = s.station i := by rw [← ht]; rfl
  have held (hl : s.holdingLaw) (m : Fin 512) (x : Slab) (j : Fin 12) (hm : s.slab m = some x)
      (hj : x.holder = some j) : t.slab m = some x := by
    rw [hslab, if_neg]
    · exact hm
    · rintro rfl
      rw [hr] at hm; cases hm
      rw [(hl.1 n r hr).1.mp hav] at hj; cases hj
  have other {j : Fin 12} {x : Plan} (hx : s.plan j = some x) : k ≠ j := by
    rintro rfl
    rw [hk] at hx; cases hx
  have hrec : RecordsKept s t := by
    rw [← ht]
    exact (records_rewriteSlab hr (y := { r with state := .held, holder := some k }) rfl rfl (by rintro ⟨⟩)).trans
      (records_setPlan ..)
  have holding (hl : s.holdingLaw) : t.holdingLaw := by
    refine ⟨fun m x hm => ?_, fun j x hj => ?_⟩
    · rw [hslab] at hm
      split at hm
      · cases hm
        refine ⟨by simp, fun j hj => ?_⟩
        cases hj
        exact ⟨_, by rw [hplan, if_pos rfl], rfl⟩
      · refine ⟨(hl.1 m x hm).1, fun j hj => ?_⟩
        obtain ⟨y, hy, hyt⟩ := (hl.1 m x hm).2 j hj
        exact ⟨y, by rw [hplan, if_neg (other hy)]; exact hy, hyt⟩
    · rw [hplan] at hj
      split at hj
      · next e =>
        cases hj
        exact ⟨n, { r with state := .held, holder := some k }, by rw [hslab, if_pos rfl], rfl, congrArg some e⟩
      · obtain ⟨m, y, hm, hyt, hyh⟩ := hl.2 j x hj
        exact ⟨m, y, held hl m y j hm hyh, hyt, hyh⟩
  refine ⟨hrec, fun _ => holding, fun _ hs => ⟨hrec.tag hs.tags, holding hs.holding, fun j x hj => ?_, ?_⟩⟩
  · rw [hplan] at hj
    split at hj
    · next e =>
      cases hj
      exact ⟨wellCut_new .., n, { r with state := .held, holder := some k }, by rw [hslab, if_pos rfl], rfl,
        congrArg some e, rect_new ..⟩
    · obtain ⟨hw, m, y, hm, hyt, hyh, hrect⟩ := hs.plans j x hj
      exact ⟨hw, m, y, held hs.holding m y j hm hyh, hyt, hyh, hrect⟩
  · refine ⟨fun j x hj => ?_, fun i j hij => ?_⟩
    · simp only [hstation]
      rw [hplan] at hj
      split at hj
      · cases hj
        exact ⟨onCourse_new .., by rintro ⟨⟩⟩
      · exact hs.progress.1 j x hj
    · rw [hstation] at hij ⊢
      obtain ⟨y, hy, hyb⟩ := hs.progress.2 i j hij
      exact ⟨y, by rw [hplan, if_neg (other hy)]; exact hy, hyb⟩

theorem stock_openPlan (tag kerf : Nat) (s : State) : Answers (StockKept c s) (openPlan tag kerf s) := by
  refine .unless fun _ => ?_
  split
  · exact .refuse
  · next k hk =>
    split
    · exact .error
    · next n r h =>
      obtain ⟨hr, rfl, hav⟩ := holdCheck_ok h
      exact .done (stock_hold hr hav (Option.isNone_iff_eq_none.mp (lowest_some hk).1) kerf)

/-! ADD_CUT, UNDO_CUT and MARK_PIECE -/

/-- An OPEN plan changed in its cuts, none DONE, and its pieces stays on course (R31, R32, R34). -/
theorem onCourse_opened (h : p.onCourse) (ho : p.state = .opened) {cuts : List Cut} {pieces : Vector Piece 64}
    (hcuts : ∀ g ∈ cuts, g ∈ p.cuts ∨ g.state = .pending) :
    ({ p with cuts := cuts, pieces := pieces } : Plan).onCourse := by
  obtain ⟨hdone, hnot, hopen, -, -⟩ := h
  obtain ⟨h0, h1, h2⟩ := hnot (by rw [ho]; decide)
  refine ⟨fun b g hg => ?_, fun _ => ⟨h0, h1, h2⟩, hopen, fun h => ?_, fun h => ?_⟩
  · simp only [h0, Nat.not_lt_zero, iff_false]
    rcases hcuts g (List.mem_of_getElem? hg) with hm | hm
    · obtain ⟨a, ha, rfl⟩ := List.getElem_of_mem hm
      have := hdone a _ (List.getElem?_eq_getElem ha)
      rw [this, h0]; omega
    · rw [hm]; decide
  · exact absurd (ho.symm.trans h) (by decide)
  · exact absurd (ho.symm.trans h) (by decide)

theorem rect_withCut {i : Fin 64} {axis : Axis} {offset : Nat} {r : Rect} {o : Option Origin}
    {d : Option Designation} (hc : p.cuts.length < 31) (hleaf : slot p.pieces i = .leaf r o d) :
    (slot (p.withCut i axis offset r o).pieces 0).rect? = (slot p.pieces 0).rect? := by
  obtain ⟨-, h1, h2⟩ := pieceIndex_new (j := 0) hc (Nat.zero_le _)
  rw [slot_withCut, if_neg h2, if_neg h1]
  split
  · next e => subst e; rw [hleaf]; rfl
  · rfl

theorem stock_addCut (plan piece axis offset : Nat) (s : State) :
    Answers (StockKept c s) (addCut plan piece axis offset s) := by
  unfold addCut
  split
  · exact .error
  · next k p h =>
    obtain ⟨-, hk, ho⟩ := planCheck_ok h
    rw [isOpened_iff] at ho
    split
    · exact .refuse
    · exact .refuse
    · next i ax _ _ =>
      refine .unless fun _ => ?_
      split
      · exact .refuse
      · exact .refuse
      · exact .refuse
      · next r o hleaf =>
        refine .unless fun hs => .unless fun hc => .done ?_
        rw [not_not] at hs
        refine stock_setPlan hk (by rw [ho]; decide) (by rw [Plan.withCut, ho]; decide) rfl (fun hw => ?_)
          (fun hcs => onCourse_opened hcs ho fun g hg => ?_)
        · exact ⟨wellCut_withCut hw hleaf hs (by omega), rect_withCut (by omega) hleaf⟩
        · rcases List.mem_append.mp hg with hm | hm
          · exact .inl hm
          · rw [List.mem_singleton] at hm
            exact .inr (by rw [hm])

theorem rect_withoutCut {g : Cut} (h : p.wellCut) (hg : p.cuts.getLast? = some g) :
    (slot (p.withoutCut g).pieces 0).rect? = (slot p.pieces 0).rect? := by
  obtain ⟨cs, hcs⟩ : ∃ cs, p.cuts = cs ++ [g] := List.getLast?_eq_some_iff.mp hg
  obtain ⟨hlen, -, -, -, hmade, -⟩ := (wellCut_iff p).mp h
  rw [hcs, List.length_append, List.length_singleton] at hlen
  have hlast : p.cuts.length - 1 = cs.length := by rw [hcs]; simp
  obtain ⟨hi, r, o, htarget, -⟩ := hmade cs.length g (by rw [hcs]; simp)
  obtain ⟨-, t1, t2⟩ := pieceIndex_new (show cs.length < 31 by omega) hi
  obtain ⟨-, z1, z2⟩ := pieceIndex_new (j := 0) (show cs.length < 31 by omega) (Nat.zero_le _)
  simp only [Plan.withoutCut, hlast, slot_put, if_neg t1, if_neg t2, if_neg z1, if_neg z2, htarget]
  split
  · next e => rw [← e, htarget]; rfl
  · rfl

theorem stock_undoCut (plan : Nat) (s : State) : Answers (StockKept c s) (undoCut plan s) := by
  unfold undoCut
  split
  · exact .error
  · next k p h =>
    obtain ⟨-, hk, ho⟩ := planCheck_ok h
    rw [isOpened_iff] at ho
    split
    · exact .refuse
    · next g hg =>
      refine .unless fun _ => .done ?_
      have : StockKept c s (s.setPlan k (some (p.withoutCut g))) :=
        stock_setPlan hk (by rw [ho]; decide) (by rw [Plan.withoutCut, ho]; decide) rfl
          (fun hw => ⟨wellCut_withoutCut hw hg, rect_withoutCut hw hg⟩)
          (fun hcs => onCourse_opened hcs ho fun x hx => .inl (List.mem_of_mem_dropLast hx))
      exact this

theorem booked_designate {i : Fin 64} {r : Rect} {d : Option Designation} (h : s.designate p i r d = .ok t) :
    Booked s t := by
  unfold State.designate at h
  split at h
  · cases h; exact .refl s
  · cases h; exact .refl s
  · split at h
    · cases h; exact .refl s
    · cases h
  · split at h
    · cases h
    · cases h; exact booked_updateJobLine ..

theorem Booked.undisturbed (h : Booked s t) : Undisturbed s t := .of_fields h.stock h.plans h.stations

theorem stock_markPiece (plan piece designation job line : Nat) (s : State) :
    Answers (StockKept c s) (markPiece plan piece designation job line s) := by
  unfold markPiece
  split
  · exact .error
  · next k p h =>
    obtain ⟨-, hk, ho⟩ := planCheck_ok h
    rw [isOpened_iff] at ho
    split
    · exact .refuse
    · exact .refuse
    · next i d _ _ =>
      split
      · exact .refuse
      · exact .refuse
      · next r o old hleaf =>
        split
        · exact .error
        · next t ht =>
          refine .done ?_
          have hb : Booked s t := (booked_releaseDesignation ..).trans (booked_designate ht)
          refine hb.undisturbed.kept.trans (stock_setPlan (p := p) ?_ (by rw [ho]; decide) (by rw [ho]; decide) rfl
            (fun hw => ⟨wellCut_mark hw hleaf, ?_⟩) fun hcs => onCourse_opened hcs ho fun g hg => .inl hg)
          · rw [State.plan, hb.plans]; exact hk
          · dsimp only
            rw [slot_put]
            split
            · next e => subst e; rw [hleaf]; rfl
            · rfl

/-! LOCK_PLAN and UNLOCK_PLAN -/

theorem stock_lockPlan (plan : Nat) (s : State) : Answers (StockKept c s) (lockPlan plan s) := by
  unfold lockPlan
  split
  · exact .error
  · next k p h =>
    obtain ⟨-, hk, ho⟩ := planCheck_ok h
    rw [isOpened_iff] at ho
    refine .unless fun hcuts => ?_
    split
    · exact .error
    · split
      · exact .refuse
      · split
        · exact .error
        · refine .unless fun hroom => .done ?_
          refine StockKept.trans (t := s.setReserved (s.stock.reserved + p.leaves.countP Leaf.isRemnant))
            (stock_reserve fun _ => by omega) ?_
          refine stock_setPlan (p := p) hk (by rw [ho]; decide) (by simp) rfl (fun hw => ⟨hw, rfl⟩) ?_
          rintro ⟨hdone, hnot, -, -, -⟩
          refine ⟨hdone, fun _ => hnot (by rw [ho]; decide), by rintro ⟨⟩, fun _ => ⟨?_, rfl, rfl⟩, by rintro ⟨⟩⟩
          simpa using hcuts

theorem stock_unlockPlan (plan : Nat) (s : State) : Answers (StockKept c s) (unlockPlan plan s) := by
  unfold unlockPlan
  split
  · exact .error
  · next k p h =>
    obtain ⟨-, hk, hl⟩ := planCheck_ok h
    rw [isLocked_iff] at hl
    refine .done ?_
    refine StockKept.trans (t := s.giveBack p) (stock_reserve fun h => by unfold State.slotLaw at h; omega) ?_
    refine stock_setPlan (p := p) hk (by rw [hl]; decide) (by simp) rfl (fun hw => ⟨hw, rfl⟩) ?_
    rintro ⟨hdone, hnot, -, -, -⟩
    exact ⟨hdone, fun _ => hnot (by rw [hl]; decide), fun _ => ⟨rfl, rfl⟩, by rintro ⟨⟩, by rintro ⟨⟩⟩

/-! DROP_PLAN and ABANDON_PLAN -/

/-- A plan that no station works, gone with its records (R43). -/
theorem stock_planGone (h : PlanGone s t k p) (hr : RecordsKept s t) (hst : t.stations = s.stations)
    (hn : p.state = .bound → p.station = none) : StockKept c s t := by
  have station (i : Fin 4) : t.station i = s.station i := by rw [State.station, hst]; rfl
  refine ⟨hr, h.holdingLaw, fun _ hs => ⟨hr.tag hs.tags, h.holdingLaw hs.tags hs.holding,
    h.planLaw hs.tags hs.holding hs.plans, h.progressLaw (hs.progress.but k) (fun i j _ hj => ?_) fun i j hj => ?_⟩⟩
  · rw [station]; exact hj
  · rw [station] at hj ⊢
    refine ⟨?_, hj, rfl⟩
    rintro rfl
    obtain ⟨q, hq, hqb, hqi, -⟩ := hs.progress.2 i j hj
    rw [h.plan] at hq; cases hq
    rw [hn hqb] at hqi; cases hqi

/-- The reservation given back behind bookings leaves every record as it stood. -/
theorem filed_giveBack (h : Booked s t) (p : Plan) : Filed s (t.giveBack p) := h.filed.trans ⟨rfl, rfl, fun _ _ => id,
  fun _ _ => .inl⟩

theorem records_giveBack_booked (h : Booked s t) (p : Plan) : RecordsKept s (t.giveBack p) :=
  (RecordsKept.of_stock h.stock).trans (records_giveBack ..)

theorem stock_dropPlan (plan : Nat) (s : State) : Answers (StockKept c s) (dropPlan plan s) := by
  unfold dropPlan
  split
  · exact .error
  · next k p h =>
    obtain ⟨-, hk, hb⟩ := planCheck_ok h
    have booked := booked_releaseParts s p
    have hr := records_giveBack_booked booked p
    refine .done ?_
    refine ⟨(hr.trans (records_releaseSlab ..)).trans (records_setPlan ..), fun ht hl => ?_, fun hc hs => ?_⟩
    · exact (planGone_releaseSlab (hr.tag ht) hk (filed_giveBack booked p)).holdingLaw ht hl
    · refine (stock_planGone (planGone_releaseSlab (hr.tag hs.tags) hk (filed_giveBack booked p))
        ((hr.trans (records_releaseSlab ..)).trans (records_setPlan ..)) ?_ fun h => ?_).sound hc hs
      · rw [State.setPlan_stations, releaseSlab_stations]
        exact booked.stations
      · rw [h] at hb; cases hb

/-- What an abandon books and gives back before its slab goes (R44, R151, R152). -/
def State.abandonBooked (s : State) (p : Plan) : State :=
  let basis := ((s.slabOf p.slabTag).map (fun x => x.2.cost)).getD 0
  (if p.touched then (s.bookPool p).bookOverhead (fun o => o.bookMaterial basis) else s.bookPool p).releaseParts p

theorem booked_abandon (s : State) (p : Plan) : Booked s (s.abandonBooked p) := by
  refine Booked.trans ?_ (booked_releaseParts ..)
  split
  · exact (booked_bookPool ..).trans (booked_bookOverhead ..)
  · exact booked_bookPool ..

/-- An abandon: the bookings, the reservation, the slab, the plan slot. -/
theorem abandonRecords_eq (s : State) (k : Fin 12) (p : Plan) : s.abandonRecords k p
    = (if p.touched then ((s.abandonBooked p).giveBack p).retireTag p.slabTag
        else ((s.abandonBooked p).giveBack p).releaseSlab p.slabTag).setPlan k none := rfl

theorem records_abandonRecords (s : State) (k : Fin 12) (p : Plan) : RecordsKept s (s.abandonRecords k p) := by
  rw [abandonRecords_eq]
  refine ((records_giveBack_booked (booked_abandon s p) p).trans ?_).trans (records_setPlan ..)
  split
  · exact records_retireTag ..
  · exact records_releaseSlab ..

theorem planGone_abandonRecords (ht : s.tagLaw) (hk : s.plan k = some p) : PlanGone s (s.abandonRecords k p) k p := by
  have htag := (records_giveBack_booked (booked_abandon s p) p).tag ht
  rw [abandonRecords_eq]
  split
  · exact planGone_retireTag htag hk (filed_giveBack (booked_abandon s p) p)
  · exact planGone_releaseSlab htag hk (filed_giveBack (booked_abandon s p) p)

theorem abandonRecords_stations (s : State) (k : Fin 12) (p : Plan) :
    (s.abandonRecords k p).stations = s.stations := by
  have h : ((s.abandonBooked p).giveBack p).stations = s.stations := (booked_abandon s p).stations
  rw [abandonRecords_eq, State.setPlan_stations]
  split
  · exact (retireTag_stations ..).trans h
  · exact (releaseSlab_stations ..).trans h

theorem stock_abandonPlan (plan : Nat) (s : State) : Answers (StockKept c s) (abandonPlan plan s) := by
  unfold abandonPlan
  split
  · exact .error
  · next k p h =>
    obtain ⟨-, hk, hb⟩ := planCheck_ok h
    rw [isBound_iff] at hb
    have hr := records_abandonRecords s k p
    split
    · next hi =>
      refine .done ⟨hr, fun ht hl => (planGone_abandonRecords ht hk).holdingLaw ht hl, fun hc hs => ?_⟩
      exact (stock_planGone (planGone_abandonRecords hs.tags hk) hr (abandonRecords_stations ..)
        fun _ => hi).sound hc hs
    · next i hi =>
      refine .ite (fun _ => .done ?_) fun _ => .refuse
      have hru : RecordsKept s ((s.abandonRecords k p).unbind i) := hr.trans (.of_stock (unbind_stock ..))
      have gone (ht : s.tagLaw) : PlanGone s ((s.abandonRecords k p).unbind i) k p :=
        (planGone_abandonRecords ht hk).of_fields (unbind_stock ..) (unbind_plans ..)
      refine ⟨hru, fun ht hl => (gone ht).holdingLaw ht hl, fun _ hs => ?_⟩
      obtain ⟨j, hj, hjk⟩ := (hs.progress.1 k p hk).2 hb
      rw [hi] at hj; cases hj
      refine (gone hs.tags).sound (hru.tag hs.tags) hs.tags hs.holding hs.plans (hs.progress.but k) hjk
        (progressLaw_bound hs.progress hjk hk).2.2.2.2 fun j => ?_
      have hst (j : Fin 4) : (s.abandonRecords k p).station j = s.station j := by
        rw [State.station, abandonRecords_stations]; rfl
      rw [unbind_station, hst, hst]

end PlanRequests

end Sys2Proof.Machine

namespace Sys2Proof.Machine

/-! ### Requests on stations, water, jobs and the port, and the timers -/

section OtherRequests

variable {c : Prop} {s t : State} {k : Fin 12} {p : Plan} {i : Fin 4}

theorem StockKept.of_fields (h1 : t.stock = s.stock) (h2 : t.plans = s.plans) (h3 : t.stations = s.stations) :
    StockKept c s t := (Undisturbed.of_fields h1 h2 h3).kept

/-! Stations (R71, R73, R74, R88, R92) -/

theorem undisturbed_enableLine (s : State) (l : Fin 5) : Undisturbed s (s.enableLine l) := undisturbed_setLine ..
theorem undisturbed_disableLine (s : State) (l : Fin 5) : Undisturbed s (s.disableLine l) := undisturbed_setLine ..

theorem stock_attachStation (station : Nat) (s : State) : Answers (StockKept c s) (attachStation station s) := by
  unfold attachStation
  split
  · exact .refuse
  · refine .unless fun _ => .done ?_
    exact ((((undisturbed_enableLine ..).trans (undisturbed_setStation (by rfl) (fun _ => by rfl))).trans
      (undisturbed_enterState ..)).trans (undisturbed_handSaw ..)).kept

theorem stock_detachStation (station : Nat) (s : State) : Answers (StockKept c s) (detachStation station s) := by
  unfold detachStation
  split
  · exact .refuse
  · next i _ =>
    refine .unless fun h => .done ?_
    obtain ⟨-, hp⟩ := not_or.mp h
    have entered := (undisturbed_disableLine s (s.stationLine i)).trans (undisturbed_enterState _ i .detached)
    have hplan := (entered.stations i).1
    have hnone : (s.station i).plan = none := by simpa using hp
    refine (entered.trans (undisturbed_setStation ?_ fun h => ?_)).kept
    · rw [hplan, hnone]; rfl
    · rw [hplan, hnone] at h; cases h

/-- The plan bound: all its passes of all its cuts remain (R41). -/
theorem onCourse_bind (h : p.onCourse) (hl : p.state = .locked) (i : Fin 4) (a b : Nat) : (p.bind i a b).onCourse := by
  obtain ⟨hdone, hnot, -, hlocked, -⟩ := h
  obtain ⟨h0, h1, h2⟩ := hnot (by rw [hl]; decide)
  obtain ⟨hcuts, -, -⟩ := hlocked hl
  refine ⟨hdone, by simp [Plan.bind], by simp [Plan.bind], by simp [Plan.bind], fun _ => ?_⟩
  obtain ⟨g, cs, hg⟩ := List.exists_cons_of_ne_nil hcuts
  refine ⟨a, p.totalTravel * a, g, rfl, rfl, ?_, by simp [Plan.bind, h1], ?_⟩
  · simp [Plan.bind, h0, hg]
  · simp [Plan.bind, h0, h1, Plan.totalTravel]

/-- A LOCKED plan bound to a station without one (R41, R74). -/
theorem stock_bind {x : Station} {a b : Nat} (hk : s.plan k = some p) (hl : p.state = .locked)
    (hx : x.plan = some k) (hxn : x.passesTaken = 0) (hi : s.bindingLaw → (s.station i).plan = none) :
    StockKept s.Steady s ((s.setPlan k (some (p.bind i a b))).setStation i x) := by
  have hplans (j : Fin 12) : ((s.setPlan k (some (p.bind i a b))).setStation i x).plan j
      = if k = j then some (p.bind i a b) else s.plan j := plan_setPlan ..
  have hst (j : Fin 4) : ((s.setPlan k (some (p.bind i a b))).setStation i x).station j
      = if i = j then x else s.station j := station_setStation ..
  have holding (hl : s.holdingLaw) : ((s.setPlan k (some (p.bind i a b))).setStation i x).holdingLaw := by
    refine holdingLaw_of_plans hl rfl fun j => ?_
    rw [hplans]
    split
    · next e => subst e; rw [hk]; rfl
    · rfl
  refine ⟨.of_stock rfl, fun _ => holding, fun hsteady hs => ⟨hs.tags, holding hs.holding, ?_, ?_⟩⟩
  · exact planLaw_of_plan hs.plans hk rfl hplans id rfl rfl
  · have hnone := hi hsteady.binding
    have hc := (hs.progress.1 k p hk).1
    refine ⟨fun j y hy => ?_, fun j m hm => ?_⟩
    · rw [hplans] at hy
      split at hy
      · next e =>
        subst e; cases hy
        exact ⟨onCourse_bind hc hl i a b, fun _ => ⟨i, rfl, by rw [hst, if_pos rfl, hx]⟩⟩
      · refine ⟨(hs.progress.1 j y hy).1, fun hb => ?_⟩
        obtain ⟨a, ha, haj⟩ := (hs.progress.1 j y hy).2 hb
        refine ⟨a, ha, ?_⟩
        rw [hst, if_neg]
        · exact haj
        · rintro rfl
          rw [hnone] at haj; cases haj
    · rw [hst] at hm ⊢
      split at hm
      · next e =>
        subst e
        rw [hx] at hm; cases hm
        refine ⟨_, by rw [hplans, if_pos rfl], rfl, rfl, ?_⟩
        rw [if_pos rfl, hxn]
        exact (hc.2.1 (by rw [hl]; decide)).2.1
      · next e =>
        obtain ⟨y, hy, hyb, hyi, hyn⟩ := hs.progress.2 j m hm
        refine ⟨y, ?_, hyb, hyi, by rw [if_neg e]; exact hyn⟩
        rw [hplans, if_neg]
        · exact hy
        · rintro rfl
          rw [hk] at hy; cases hy
          rw [hl] at hyb; cases hyb

theorem stock_startPlan (plan station : Nat) (s : State) :
    Answers (StockKept s.Steady s) (startPlan plan station s) := by
  unfold startPlan
  split
  · exact .error
  · next k p h =>
    obtain ⟨-, hk, hl⟩ := planCheck_ok h
    rw [isLocked_iff] at hl
    split
    · exact .refuse
    · next i _ =>
      refine .unless fun hready => ?_
      rw [not_not] at hready
      split
      · exact .refuse
      · refine .unless fun _ => .unless fun _ => .unless fun _ => .done ?_
        refine (stock_bind hk hl rfl rfl fun hb => ?_).trans (undisturbed_enterState ..).kept
        have := hb i false (by rw [hready]; rfl)
        simpa using this

theorem undisturbed_stop (s : State) (i : Fin 4) : Undisturbed s (s.stop i) := by
  unfold State.stop
  split
  · exact (undisturbed_setCondition ..).trans (undisturbed_enterState ..)
  · exact undisturbed_holdStation ..
  · exact undisturbed_holdStation ..
  · exact .ite (undisturbed_setCondition ..) (.refl s)
  · exact .refl s

theorem stock_stopStation (station : Nat) (s : State) : Answers (StockKept c s) (stopStation station s) := by
  unfold stopStation
  split
  · exact .refuse
  · split
    · exact .refuse
    · exact .refuse
    · exact .refuse
    · exact .done (undisturbed_stop ..).kept

theorem stock_resumeStation (station : Nat) (s : State) : Answers (StockKept c s) (resumeStation station s) := by
  unfold resumeStation
  split
  · exact .refuse
  · exact .unless fun _ => .unless fun _ => .unless fun _ => .done (kept_resume ..)

theorem stock_fitBlade (station serial kerf maxPassDepth maxDepth life costPerUnit lowMark wear : Nat) (s : State) :
    Answers (StockKept c s) (fitBlade station serial kerf maxPassDepth maxDepth life costPerUnit lowMark wear s) := by
  unfold fitBlade
  split
  · exact .refuse
  · exact .unless fun _ => .unless fun _ => .unless fun _ => .unless fun _ =>
      .done ((undisturbed_setBlade ..).trans (undisturbed_enqueue ..)).kept

theorem stock_removeBlade (station : Nat) (s : State) : Answers (StockKept c s) (removeBlade station s) := by
  unfold removeBlade
  split
  · exact .refuse
  · refine .unless fun _ => ?_
    split
    · exact .refuse
    · exact .done ((undisturbed_setBlade ..).trans (undisturbed_enqueue ..)).kept

/-! The water loop (R110, R112, R120, R122, R127) -/

theorem stock_attachPlant (s : State) : Answers (StockKept c s) (attachPlant s) :=
  .unless fun _ => .done (((((undisturbed_enableLine ..).trans (undisturbed_onWater ..)).trans
    (undisturbed_handPlant ..)).trans (undisturbed_handPlant ..)).kept.trans (stock_recompute ..))

theorem stock_detachPlant (s : State) : Answers (StockKept c s) (detachPlant s) :=
  .unless fun _ => .done (((((undisturbed_disableLine ..).trans (undisturbed_onWater ..)).trans
    (undisturbed_onWater ..)).trans (undisturbed_decideMakeUp ..)).kept.trans (stock_recompute ..))

theorem stock_pressNow (s : State) : Answers (StockKept c s) (pressNow s) :=
  .unless fun _ => .done (undisturbed_requestPress ..).kept

theorem stock_withWaterPage {f : State → State} (h : ∀ s, StockKept c s (f s)) (s : State) :
    StockKept c s (s.withWaterPage f) := by
  unfold State.withWaterPage
  split
  · exact h s
  · exact (undisturbed_enqueue ..).kept.trans (h _)

theorem stock_resetPeriod (allowance : Nat) (s : State) : Answers (StockKept c s) (resetPeriod allowance s) :=
  .done (stock_withWaterPage (fun _ => (undisturbed_newPeriod ..).kept) s)

theorem stock_applyThresholds (s : State) (x : Thresholds) : StockKept c s (s.applyThresholds x) :=
  (((undisturbed_setKept ..).trans (undisturbed_decideMakeUp ..)).trans (undisturbed_autoPress ..)).kept.trans
    (stock_recomputeFrom ..)

theorem stock_setWater (hold low fill full pressLevel slow stop resumeFactor autoPress : Nat) (s : State) :
    Answers (StockKept c s) (setWater hold low fill full pressLevel slow stop resumeFactor autoPress s) :=
  .unless fun _ => .done (stock_withWaterPage (fun _ => stock_applyThresholds ..) s)

/-! Jobs, the overhead account, lines, notices and settings -/

theorem stock_openJob (number : Nat) (s : State) : Answers (StockKept c s) (openJob number s) := by
  refine .unless fun _ => .unless fun _ => ?_
  split
  · exact .refuse
  · exact .done ((undisturbed_setJob ..).trans (undisturbed_enqueue ..)).kept

theorem stock_setLine (number line target : Nat) (s : State) :
    Answers (StockKept c s) (setLine number line target s) := by
  unfold setLine
  split
  · exact .error
  · split
    · exact .refuse
    · exact .unless fun _ => .unless fun _ => .unless fun _ =>
        .done (.ite (.refl s) ((undisturbed_setJob ..).trans (undisturbed_enqueue ..)).kept)

theorem stock_closeJob (number : Nat) (s : State) : Answers (StockKept c s) (closeJob number s) := by
  unfold closeJob
  split
  · exact .error
  · refine .unless fun _ => ?_
    split
    · exact .error
    · exact .done ((undisturbed_setJob ..).trans (undisturbed_enqueue ..)).kept

theorem stock_retireJob (number : Nat) (s : State) : Answers (StockKept c s) (retireJob number s) := by
  unfold retireJob
  split
  · exact .error
  · exact .ite (fun _ => .done ((undisturbed_setJob ..).trans (undisturbed_enqueue ..)).kept) fun _ => .refuse

theorem stock_clearOverhead (s : State) : Answers (StockKept c s) (clearOverhead s) :=
  .done (undisturbed_bookOverhead ..).kept

theorem stock_mapLines (lines : Vector Nat 5) (s : State) : Answers (StockKept c s) (mapLines lines s) := by
  unfold mapLines
  split
  · exact .refuse
  · exact .ite (fun _ => .done (.ite (.refl s) (.of_fields rfl rfl rfl))) fun _ => .refuse

theorem stock_nextNotice (s : State) : Answers (StockKept c s) (nextNotice s) := by
  unfold nextNotice
  split
  · exact .error
  · dsimp only
    split
    · exact .error
    · exact .done (.of_fields rfl rfl rfl)

theorem stock_noticeDone (s : State) : Answers (StockKept c s) (noticeDone s) := by
  unfold noticeDone
  split
  · exact .refuse
  · exact .done (.of_fields rfl rfl rfl)

theorem stock_setNotice (source enable level : Nat) (s : State) :
    Answers (StockKept c s) (setNotice source enable level s) := by
  unfold setNotice
  split
  · exact .refuse
  · exact .unless fun _ => .done (.of_fields rfl rfl rfl)

theorem stock_setSettings (record : Settings) (s : State) : Answers (StockKept c s) (setSettings record s) :=
  .done (.ite (.refl s) (.of_fields rfl rfl rfl))

/-! Timers (R71, R79, R84, R87, R111, R118, R124) -/

theorem undisturbed_listeningExpiry (s : State) (i : Fin 4) : Undisturbed s (s.listeningExpiry i) :=
  .ite ((undisturbed_setStation (by rfl) (fun _ => by rfl)).trans (undisturbed_handSaw ..)) (.refl s)

theorem undisturbed_acceptExpiry (s : State) (i : Fin 4) : Undisturbed s (s.acceptExpiry i) :=
  .ite (undisturbed_linkFault ..) (.refl s)

theorem undisturbed_holdExpiry (s : State) (i : Fin 4) : Undisturbed s (s.holdExpiry i) :=
  .ite (undisturbed_linkFault ..) (.refl s)

theorem undisturbed_silenceExpiry (s : State) (i : Fin 4) : Undisturbed s (s.silenceExpiry i) :=
  .ite (undisturbed_linkFault ..) (.refl s)

theorem undisturbed_queryExpiry (s : State) (i : Fin 4) : Undisturbed s (s.queryExpiry i) :=
  .ite ((undisturbed_setStation (by rfl) (fun _ => by rfl)).trans (undisturbed_handSaw ..)) (.refl s)

theorem undisturbed_plantQueryExpiry (s : State) : Undisturbed s s.plantQueryExpiry :=
  .ite ((undisturbed_onWater ..).trans (undisturbed_handPlant ..)) (.refl s)

theorem stock_staleExpiry (s : State) : StockKept c s s.staleExpiry := .ite (stock_enterStale ..) (.refl s)

theorem undisturbed_pressStartExpiry (s : State) : Undisturbed s s.pressStartExpiry :=
  .ite ((undisturbed_onWater ..).trans (undisturbed_raisePress ..)) (.refl s)

theorem undisturbed_dryCut (s : State) (v : Fin 5) (b : Bool) : Undisturbed s (s.dryCut v b) := by
  unfold State.dryCut
  split
  · exact .refl s
  · exact .ite (undisturbed_holdStation ..) (.refl s)

theorem undisturbed_settleExpiry (s : State) (v : Fin 5) : Undisturbed s (s.settleExpiry v) := by
  unfold State.settleExpiry
  split
  · exact ((undisturbed_onWater ..).trans (undisturbed_raise ..)).trans (undisturbed_dryCut ..)
  · exact .refl s

/-! The transmitter (R61) -/

theorem undisturbed_transmitStart (s : State) (l : Fin 5) : Undisturbed s (s.transmitStart l) := by
  unfold State.transmitStart
  dsimp only
  split
  · exact undisturbed_setLine ..
  · exact undisturbed_setLine ..
  · exact .refl s

theorem undisturbed_tellSent (s : State) (i : Fin 4) (f : TxFrame) : Undisturbed s (s.tellSent i f) := by
  have timer : Undisturbed s (s.startReplyTimer i) := undisturbed_setStation (by rfl) (fun _ => by rfl)
  unfold State.tellSent
  dsimp only
  split
  · exact .ite timer (.refl s)
  · exact .ite timer (.refl s)
  all_goals exact .refl s

theorem undisturbed_frameSent (s : State) (l : Fin 5) : Undisturbed s (s.frameSent l) := by
  unfold State.frameSent
  dsimp only
  split
  · split
    · exact (undisturbed_setLine ..).trans (undisturbed_tellSent ..)
    · exact undisturbed_setLine ..
  all_goals exact .refl s

/-! The write unit and the port (R156 to R160, R168 to R173) -/

theorem undisturbed_startPageWrite (s : State) : Undisturbed s s.startPageWrite := by
  unfold State.startPageWrite
  split
  · exact .refl s
  · exact .ite (.of_fields rfl rfl rfl) (.refl s)

theorem undisturbed_eraseEnds (s : State) : Undisturbed s s.eraseEnds := by
  unfold State.eraseEnds
  split
  · exact .refl s
  · exact .ite (.of_fields rfl rfl rfl) (.refl s)

theorem undisturbed_programEnds (s : State) : Undisturbed s s.programEnds := by
  unfold State.programEnds
  split
  · exact .refl s
  · exact .ite (.of_fields rfl rfl rfl) (.refl s)

theorem undisturbed_verifyEnds (s : State) (a b : Bool) : Undisturbed s (s.verifyEnds a b) := by
  unfold State.verifyEnds
  split
  · exact .refl s
  · exact .ite (.refl s) (.ite (.of_fields rfl rfl rfl) (.ite (.of_fields rfl rfl rfl) (.of_fields rfl rfl rfl)))

theorem undisturbed_takeFrame (s : State) (bytes : List Byte) : Undisturbed s (s.takeFrame bytes) := by
  refine .ite (.refl s) ?_
  split
  · exact undisturbed_answer ..
  · exact .of_fields rfl rfl rfl

theorem undisturbed_transfer (s : State) (op : Byte) (early : Nat) (bytes : List Byte) :
    Undisturbed s (s.transfer op early bytes) := by
  have ended (bs : List Byte) : Undisturbed s (s.endTransfer bs) := .of_fields rfl rfl rfl
  refine .ite (.refl s) ?_
  dsimp only
  split
  · exact .ite ((ended _).trans (undisturbed_takeFrame ..)) (ended _)
  · exact .ite (.ite (.of_fields rfl rfl rfl) (ended _)) (ended _)
  · exact ended _

end OtherRequests

end Sys2Proof.Machine

namespace Sys2Proof.Machine

/-! ### Settling the records as read (R23, R165) -/

section Settle

variable {α : Type} {n : Nat} {v : Vector (Option α) n} {clash : α → α → Bool} {lose : α → Option α} {i : Fin n}

theorem settleLower_none (h : slot v i = none) : slot (settleLower v clash lose) i = none := by
  simp [settleLower, h]

/-- A record that clashes with one in a lower slot is the loser. -/
theorem settleLower_lost {r : α} (h : slot v i = some r) {j : Fin n} {x : α} (hj : j < i) (hx : slot v j = some x)
    (hc : clash r x = true) : slot (settleLower v clash lose) i = lose r := by
  rw [settleLower, slot_ofFn, h, Option.bind_some, if_pos]
  rw [List.any_eq_true]
  exact ⟨j, List.mem_finRange j, by simp [hj, hx, hc]⟩

/-- A record that clashes with none in a lower slot stays. -/
theorem settleLower_kept {r : α} (h : slot v i = some r)
    (hc : ∀ j x, j < i → slot v j = some x → clash r x = false) : slot (settleLower v clash lose) i = some r := by
  rw [settleLower, slot_ofFn, h, Option.bind_some, if_neg]
  rw [List.any_eq_true]
  rintro ⟨j, -, hj⟩
  simp only [Bool.and_eq_true, decide_eq_true_eq, Option.any_eq_true] at hj
  obtain ⟨hlt, x, hx, hcx⟩ := hj
  rw [hc j x hlt hx] at hcx
  cases hcx

theorem settleLower_cases (r : α) : (∃ j x, j < i ∧ slot v j = some x ∧ clash r x = true)
    ∨ ∀ j x, j < i → slot v j = some x → clash r x = false := by
  by_cases h : ∃ j x, j < i ∧ slot v j = some x ∧ clash r x = true
  · exact .inl h
  · refine .inr fun j x hj hx => ?_
    by_contra hc
    exact h ⟨j, x, hj, hx, by simpa using hc⟩

/-- What stands behind the settling stood before, or lost. -/
theorem settleLower_back {y : α} (h : slot (settleLower v clash lose) i = some y) :
    ∃ r, slot v i = some r ∧ ((lose r = some y ∧ ∃ j x, j < i ∧ slot v j = some x ∧ clash r x = true)
      ∨ (y = r ∧ ∀ j x, j < i → slot v j = some x → clash r x = false)) := by
  cases hv : slot v i with
  | none => rw [settleLower_none hv] at h; cases h
  | some r =>
    refine ⟨r, rfl, ?_⟩
    rcases settleLower_cases (v := v) (clash := clash) (i := i) r with ⟨j, x, hj, hx, hc⟩ | hno
    · rw [settleLower_lost hv hj hx hc] at h
      exact .inl ⟨h, j, x, hj, hx, hc⟩
    · rw [settleLower_kept hv hno] at h
      cases h
      exact .inr ⟨rfl, hno⟩

end Settle

section Restore

variable {s t : State} {pages : Vector Page 648}

theorem restored_free (r : Slab) : r.restored.state = .available ∧ r.restored.holder = none := by
  unfold Slab.restored
  split
  · next h => exact ⟨h, rfl⟩
  · exact ⟨rfl, rfl⟩
  · exact ⟨rfl, rfl⟩

/-- The records of unique tags among those read (R23, R165). -/
def uniqueSlabs (pages : Vector Page 648) : Vector (Option Slab) 512 :=
  settleLower (readSlabs pages) (fun a b => a.tag == b.tag) fun _ => none

theorem restoredSlabs_eq (pages : Vector Page 648) : restoredSlabs pages = settleLower (uniqueSlabs pages)
    (fun a b => a.rack.isSome && a.rack == b.rack) fun r => some { r with rack := none } := rfl

theorem slot_readSlabs (pages : Vector Page 648) (n : Fin 512) : slot (readSlabs pages) n
    = (slot pages (slabPage n)).slab.map Slab.restored := slot_ofFn ..

theorem uniqueSlabs_back {n : Fin 512} {r : Slab} (h : slot (uniqueSlabs pages) n = some r) :
    slot (readSlabs pages) n = some r
      ∧ ∀ m x, m < n → slot (readSlabs pages) m = some x → r.tag ≠ x.tag := by
  obtain ⟨y, hy, ⟨⟨⟩, -⟩ | ⟨rfl, hno⟩⟩ := settleLower_back h
  exact ⟨hy, fun m x hm hx => by simpa using hno m x hm hx⟩

/-- A record settled is one of those read, its position perhaps lost to a lower slot. -/
theorem restoredSlabs_back {n : Fin 512} {y : Slab} (h : slot (restoredSlabs pages) n = some y) :
    ∃ r, slot (uniqueSlabs pages) n = some r ∧ (y = { r with rack := none } ∨ (y = r
      ∧ ∀ m x, m < n → slot (uniqueSlabs pages) m = some x → r.rack.isSome → r.rack ≠ x.rack)) := by
  obtain ⟨r, hr, ⟨⟨⟩, -⟩ | ⟨rfl, hno⟩⟩ := settleLower_back (restoredSlabs_eq pages ▸ h)
  · exact ⟨r, hr, .inl rfl⟩
  · refine ⟨y, hr, .inr ⟨rfl, fun m x hm hx hs e => ?_⟩⟩
    have := hno m x hm hx
    rw [hs, beq_iff_eq.mpr e] at this
    cases this

theorem restoredSlabs_fields {n : Fin 512} {y : Slab} (h : slot (restoredSlabs pages) n = some y) :
    ∃ r, slot (uniqueSlabs pages) n = some r ∧ y = { r with rack := y.rack } := by
  obtain ⟨r, hr, rfl | ⟨rfl, -⟩⟩ := restoredSlabs_back h
  · exact ⟨r, hr, rfl⟩
  · exact ⟨y, hr, rfl⟩

theorem restoredSlabs_free {n : Fin 512} {y : Slab} (h : slot (restoredSlabs pages) n = some y) :
    y.state = .available ∧ y.holder = none := by
  obtain ⟨r, hr, e⟩ := restoredSlabs_fields h
  obtain ⟨hread, -⟩ := uniqueSlabs_back hr
  rw [slot_readSlabs, Option.map_eq_some_iff] at hread
  obtain ⟨x, -, rfl⟩ := hread
  rw [e]
  exact restored_free x

/-- No two settled records have one tag (R4). -/
theorem restoredSlabs_tags {n m : Fin 512} {y z : Slab} (hy : slot (restoredSlabs pages) n = some y)
    (hz : slot (restoredSlabs pages) m = some z) (e : y.tag = z.tag) : n = m := by
  obtain ⟨a, ha, ea⟩ := restoredSlabs_fields hy
  obtain ⟨b, hb, eb⟩ := restoredSlabs_fields hz
  have hab : a.tag = b.tag := by rw [ea, eb] at e; exact e
  obtain ⟨hra, hna⟩ := uniqueSlabs_back ha
  obtain ⟨hrb, hnb⟩ := uniqueSlabs_back hb
  rcases lt_trichotomy n m with hlt | heq | hgt
  · exact absurd hab.symm (hnb n a hlt hra)
  · exact heq
  · exact absurd hab (hna m b hgt hrb)

/-- No two settled records have one position (R9). -/
theorem restoredSlabs_racks {n m : Fin 512} {y z : Slab} {q : Fin 120} (hy : slot (restoredSlabs pages) n = some y)
    (hz : slot (restoredSlabs pages) m = some z) (hyq : y.rack = some q) (hzq : z.rack = some q) : n = m := by
  obtain ⟨a, ha, rfl | ⟨rfl, hna⟩⟩ := restoredSlabs_back hy
  · cases hyq
  · obtain ⟨b, hb, rfl | ⟨rfl, hnb⟩⟩ := restoredSlabs_back hz
    · cases hzq
    · rcases lt_trichotomy n m with hlt | heq | hgt
      · exact absurd (hzq.trans hyq.symm) (hnb n y hlt ha (by rw [hzq]; rfl))
      · exact heq
      · exact absurd (hyq.trans hzq.symm) (hna m z hgt hb (by rw [hyq]; rfl))

/-! The Rack Map built of the records (R165) -/

/-- One record entered in the Rack Map. -/
def rackMapWith (m : Vector (Option Nat) 120) (r : Option Slab) : Vector (Option Nat) 120 :=
  match r with
  | none => m
  | some r => match r.rack with
    | none => m
    | some pos => put m pos (some r.tag)

theorem slot_rackMapWith (m : Vector (Option Nat) 120) (r : Option Slab) (q : Fin 120) :
    slot (rackMapWith m r) q = if r.bind (·.rack) = some q then r.map (·.tag) else slot m q := by
  unfold rackMapWith
  split
  · rfl
  · next r =>
    split
    · next h => simp [h]
    · next pos h => rw [slot_put]; simp [h]

/-- Where every record at a position has the tag `tag`, or there is none, the map gives what it gave or that tag. -/
theorem slot_foldl_rackMapWith (rs : List (Option Slab)) (m : Vector (Option Nat) 120) (q : Fin 120) (x : Option Nat)
    (hrs : ∀ r, some r ∈ rs → r.rack = some q → some r.tag = x)
    (hm : slot m q = x ∨ ∃ r, some r ∈ rs ∧ r.rack = some q) : slot (rs.foldl rackMapWith m) q = x := by
  induction rs generalizing m with
  | nil => simpa using hm
  | cons r rs ih =>
    rw [List.foldl_cons]
    refine ih _ (fun y hy => hrs y (List.mem_cons_of_mem _ hy)) ?_
    rw [slot_rackMapWith]
    split
    · next hq =>
      obtain ⟨y, rfl, hyq⟩ := Option.bind_eq_some_iff.mp hq
      exact .inl (hrs y List.mem_cons_self hyq)
    · next hq =>
      rcases hm with hm | ⟨y, hy, hyq⟩
      · exact .inl hm
      · rcases List.mem_cons.mp hy with rfl | hy
        · exact absurd hyq hq
        · exact .inr ⟨y, hy, hyq⟩

theorem mem_toList_iff {slabs : Vector (Option Slab) 512} {r : Slab} :
    some r ∈ slabs.toList ↔ ∃ n, slot slabs n = some r := by
  rw [Vector.mem_toList_iff, Vector.mem_iff_getElem]
  exact ⟨fun ⟨i, hi, h⟩ => ⟨⟨i, hi⟩, h⟩, fun ⟨n, h⟩ => ⟨n.val, n.isLt, h⟩⟩

/-- The map of records no two of which have one position. -/
theorem slot_rackMapOf {slabs : Vector (Option Slab) 512}
    (h : ∀ n m y z q, slot slabs n = some y → slot slabs m = some z → y.rack = some q → z.rack = some q → n = m)
    (q : Fin 120) (tag : Nat) : slot (rackMapOf slabs) q = some tag
      ↔ ∃ n r, slot slabs n = some r ∧ r.rack = some q ∧ r.tag = tag := by
  have fold (x : Option Nat) (h1 : ∀ r, some r ∈ slabs.toList → r.rack = some q → some r.tag = x)
      (h2 : slot (Vector.replicate 120 none) q = x ∨ ∃ r, some r ∈ slabs.toList ∧ r.rack = some q) :
      slot (rackMapOf slabs) q = x := slot_foldl_rackMapWith slabs.toList _ q x h1 h2
  by_cases hex : ∃ n r, slot slabs n = some r ∧ r.rack = some q
  · obtain ⟨n, r, hn, hr⟩ := hex
    have only (y : Slab) (hy : some y ∈ slabs.toList) (hyq : y.rack = some q) : y = r := by
      obtain ⟨m, hm⟩ := mem_toList_iff.mp hy
      have := h n m r y q hn hm hr hyq
      subst this
      rw [hn] at hm; cases hm; rfl
    rw [fold (some r.tag) (fun y hy hyq => by rw [only y hy hyq]) (.inr ⟨r, mem_toList_iff.mpr ⟨n, hn⟩, hr⟩)]
    refine ⟨fun e => ⟨n, r, hn, hr, Option.some.inj e⟩, ?_⟩
    rintro ⟨m, y, hm, hyq, rfl⟩
    rw [only y (mem_toList_iff.mpr ⟨m, hm⟩) hyq]
  · have none_ (y : Slab) (hy : some y ∈ slabs.toList) : y.rack ≠ some q := fun hyq =>
      hex ((mem_toList_iff.mp hy).imp fun m hm => ⟨y, hm, hyq⟩)
    rw [fold none (fun y hy hyq => absurd hyq (none_ y hy)) (.inl (slot_replicate ..))]
    refine ⟨by rintro ⟨⟩, ?_⟩
    rintro ⟨m, y, hm, hyq, -⟩
    exact absurd hyq (none_ y (mem_toList_iff.mpr ⟨m, hm⟩))

/-! ### States without plans: a device reset and the end of the restore (R162, R165) -/

/-- No plan stands, no station names one, and every record is free. -/
structure State.Bare (s : State) : Prop where
  plans : ∀ k, s.plan k = none
  stations : ∀ i, (s.station i).plan = none
  slabs : ∀ n r, s.slab n = some r → r.state = .available ∧ r.holder = none

theorem State.Bare.holdingLaw (h : s.Bare) : s.holdingLaw := by
  refine ⟨fun n r hr => ?_, fun k p hp => ?_⟩
  · obtain ⟨hav, hho⟩ := h.slabs n r hr
    exact ⟨by simp [hav, hho], fun k hk => by rw [hho] at hk; cases hk⟩
  · rw [h.plans] at hp; cases hp

theorem State.Bare.planLaw (h : s.Bare) : s.planLaw := fun k p hp => by rw [h.plans] at hp; cases hp

theorem State.Bare.progressLaw (h : s.Bare) : s.progressLaw :=
  ⟨fun k p hp => (by rw [h.plans] at hp; cases hp), fun i k hk => (by rw [h.stations] at hk; cases hk)⟩

/-- Every law of the stock and the plans holds of such a state, whatever it came from. -/
theorem State.Bare.kept {c : Prop} (h : t.Bare) (ht : t.tagLaw) (hr : t.rackLaw) (hl : t.slotLaw) : StockKept c s t :=
  ⟨⟨fun _ => ht, fun _ _ => hr, fun _ => hl⟩, fun _ _ => h.holdingLaw,
    fun _ _ => ⟨ht, h.holdingLaw, h.planLaw, h.progressLaw⟩⟩

/-- The state behind a reset, and any with its plans, its stations and no records. -/
theorem bare_blank (h1 : t.stock = Stock.blank) (h2 : t.plans = Vector.replicate 12 none)
    (h3 : t.stations = Vector.replicate 4 Station.afterReset) :
    t.Bare ∧ t.tagLaw ∧ t.rackLaw ∧ t.slotLaw := by
  have hslab (n : Fin 512) : t.slab n = none := by rw [State.slab, h1]; exact slot_replicate ..
  refine ⟨⟨fun k => ?_, fun i => ?_, fun n r hr => ?_⟩, fun n m r x hr => ?_, ⟨fun q tag => ?_, fun n r hr => ?_⟩, ?_⟩
  · rw [State.plan, h2, slot_replicate]
  · rw [State.station, h3, slot_replicate]; rfl
  · rw [hslab] at hr; cases hr
  · rw [hslab] at hr; cases hr
  · have : slot t.stock.rackMap q = none := by rw [h1]; exact slot_replicate ..
    rw [this]
    simp [hslab]
  · rw [hslab] at hr; cases hr
  · have e : t.liveSlabs = 0 := by
      rw [State.liveSlabs, countWhere_eq_card, Finset.card_eq_zero, Finset.filter_eq_empty_iff]
      intro n _
      have := hslab n
      rw [State.slab] at this
      simp [this]
    rw [State.slotLaw, e, h1]
    exact Nat.zero_le _

theorem stock_deviceReset {c : Prop} (s : State) (x : Supply) (y : ResetCause) : StockKept c s (s.deviceReset x y) := by
  obtain ⟨hb, ht, hr, hl⟩ := bare_blank (t := s.deviceReset x y) rfl rfl rfl
  exact hb.kept ht hr hl

theorem stock_restoreEnds {c : Prop} (s : State) : StockKept c s s.restoreEnds := by
  have hslab (n : Fin 512) : s.restoreEnds.slab n = slot (restoredSlabs s.retention.pages) n := rfl
  have hbare : s.restoreEnds.Bare := by
    refine ⟨fun k => ?_, fun i => ?_, fun n r hr => restoredSlabs_free (hslab n ▸ hr)⟩
    · exact slot_replicate ..
    · exact congrArg Station.plan (slot_replicate 4 Station.afterReset i)
  refine hbare.kept (fun n m r x hr hx e => restoredSlabs_tags (hslab n ▸ hr) (hslab m ▸ hx) e)
    ⟨fun q tag => ?_, fun n r hr hcut => ?_⟩ ?_
  · have hmap : s.restoreEnds.stock.rackMap = rackMapOf (restoredSlabs s.retention.pages) := by
      have e : s.restoreEnds.stock = s.restoreRecords.stock := rfl
      rw [e, State.restoreRecords]
    simp only [hmap, hslab]
    exact slot_rackMapOf (fun _ _ _ _ _ => restoredSlabs_racks) q tag
  · rw [(hbare.slabs n r hr).1] at hcut; cases hcut
  · exact (Nat.add_zero _).trans_le (countWhere_le ..)

end Restore

/-! ### Every step (R4, R5, R6, R9, R27, R29, R41, R46) -/

section Steps

variable {c : Prop} {s t : State}

theorem stock_serve {i : Instr} {h : Handler} (hh : Answers (StockKept c s) (h s)) (hn : exec i s = .next t)
    (he : exec i s = serve i h s) : StockKept c s t := by
  rw [he, serve] at hn
  split at hn
  · cases hn; exact .refl s
  · split at hn
    · cases hn
      unfold State.served
      split
      · next u fs hu => exact (hh.ok u fs hu).trans (undisturbed_answer ..).kept
      · exact (undisturbed_answer ..).kept
    · cases hn; exact .refl s

theorem stock_resetAssert (s : State) : StockKept c s s.resetAssert := by
  unfold State.resetAssert
  split
  · exact stock_deviceReset ..
  · exact .of_fields rfl rfl rfl
  · exact .refl s

theorem stock_resetRelease (s : State) : StockKept c s s.resetRelease := by
  unfold State.resetRelease
  split
  · exact .of_fields rfl rfl rfl
  · exact .of_fields rfl rfl rfl
  · exact .of_fields rfl rfl rfl
  · exact .refl s

theorem stock_powerFails (s : State) : StockKept c s s.powerFails := by
  unfold State.powerFails
  split
  · exact .refl s
  · exact stock_deviceReset ..

/-- What a command leaves, where it is no refusal and no fault. -/
theorem stock_next {x : State} (h : StockKept c s x) (hn : (.next x : Host.Outcome State Fault Refusal) = .next t) :
    StockKept c s t := by cases hn; exact h

theorem stock_exec (i : Instr) (hn : exec i s = .next t) : StockKept s.Steady s t := by
  cases i with
  | powerOn => exact stock_next (stock_deviceReset ..) hn
  | resetNAssert => exact stock_next (stock_resetAssert s) hn
  | resetNRelease => exact stock_next (stock_resetRelease s) hn
  | startUpRestoreEnd => exact stock_next (.ite (stock_restoreEnds s) (.refl s)) hn
  | send x => exact stock_next (undisturbed_transfer ..).kept hn
  | fetch x => exact stock_next (undisturbed_transfer ..).kept hn
  | pollTransfer x => exact stock_next (undisturbed_transfer ..).kept hn
  | admitSlab => exact stock_serve (stock_admitSlab ..) hn rfl
  | readSlab => exact stock_serve (readSlab_reads ..).kept hn rfl
  | listStock => exact stock_serve (listStock_reads ..).kept hn rfl
  | findSlab => exact stock_serve (findSlab_reads ..).kept hn rfl
  | moveSlab => exact stock_serve (stock_moveSlab ..) hn rfl
  | amendSlab => exact stock_serve (stock_amendSlab ..) hn rfl
  | retireSlab => exact stock_serve (stock_retireSlab ..) hn rfl
  | setMaterial => exact stock_serve (stock_setMaterial ..) hn rfl
  | clearMaterial => exact stock_serve (stock_clearMaterial ..) hn rfl
  | readMaterial => exact stock_serve (readMaterial_reads ..).kept hn rfl
  | openPlan => exact stock_serve (stock_openPlan ..) hn rfl
  | addCut => exact stock_serve (stock_addCut ..) hn rfl
  | undoCut => exact stock_serve (stock_undoCut ..) hn rfl
  | markPiece => exact stock_serve (stock_markPiece ..) hn rfl
  | lockPlan => exact stock_serve (stock_lockPlan ..) hn rfl
  | unlockPlan => exact stock_serve (stock_unlockPlan ..) hn rfl
  | dropPlan => exact stock_serve (stock_dropPlan ..) hn rfl
  | readPlan => exact stock_serve (readPlan_reads ..).kept hn rfl
  | abandonPlan => exact stock_serve (stock_abandonPlan ..) hn rfl
  | readLine => exact stock_serve (readLine_reads ..).kept hn rfl
  | mapLines => exact stock_serve (stock_mapLines ..) hn rfl
  | attachStation => exact stock_serve (stock_attachStation ..) hn rfl
  | detachStation => exact stock_serve (stock_detachStation ..) hn rfl
  | startPlan => exact stock_serve (stock_startPlan ..) hn rfl
  | stopStation => exact stock_serve (stock_stopStation ..) hn rfl
  | resumeStation => exact stock_serve (stock_resumeStation ..) hn rfl
  | readStation => exact stock_serve (readStation_reads ..).kept hn rfl
  | fitBlade => exact stock_serve (stock_fitBlade ..) hn rfl
  | removeBlade => exact stock_serve (stock_removeBlade ..) hn rfl
  | readBlade => exact stock_serve (readBlade_reads ..).kept hn rfl
  | attachPlant => exact stock_serve (stock_attachPlant s) hn rfl
  | detachPlant => exact stock_serve (stock_detachPlant s) hn rfl
  | pressNow => exact stock_serve (stock_pressNow s) hn rfl
  | resetPeriod => exact stock_serve (stock_resetPeriod ..) hn rfl
  | setWater => exact stock_serve (stock_setWater ..) hn rfl
  | readWater => exact stock_serve (.done (.refl s)) hn rfl
  | openJob => exact stock_serve (stock_openJob ..) hn rfl
  | setLine => exact stock_serve (stock_setLine ..) hn rfl
  | readJob => exact stock_serve (readJob_reads ..).kept hn rfl
  | closeJob => exact stock_serve (stock_closeJob ..) hn rfl
  | retireJob => exact stock_serve (stock_retireJob ..) hn rfl
  | readOverhead => exact stock_serve (.done (.refl s)) hn rfl
  | clearOverhead => exact stock_serve (stock_clearOverhead s) hn rfl
  | retentionStatus => exact stock_serve (.done (.refl s)) hn rfl
  | setSettings => exact stock_serve (stock_setSettings ..) hn rfl
  | readSettings => exact stock_serve (.done (.refl s)) hn rfl
  | readDevice => exact stock_serve (.done (.refl s)) hn rfl
  | nextNotice => exact stock_serve (stock_nextNotice s) hn rfl
  | noticeDone => exact stock_serve (stock_noticeDone s) hn rfl
  | setNotice => exact stock_serve (stock_setNotice ..) hn rfl
  | character => exact stock_next (.ite (stock_decideCharacter ..) (.refl s)) hn
  | breakCharacter => exact stock_next (.ite (stock_zeroRun ..) (.refl s)) hn
  | idleRun => exact stock_next (.ite (undisturbed_idleRun ..).kept (.refl s)) hn
  | gapTimerExpiry =>
    exact stock_next (.ite ((undisturbed_setLine ..).trans (undisturbed_assemblerGap ..)).kept (.refl s)) hn
  | accept => exact stock_next (stock_receive ..) hn
  | pass => exact stock_next (stock_receive ..) hn
  | finish => exact stock_next (stock_receive ..) hn
  | state => exact stock_next (stock_receive ..) hn
  | fault => exact stock_next (stock_receive ..) hn
  | levels => exact stock_next (stock_receive ..) hn
  | pressState => exact stock_next (stock_receive ..) hn
  | transmitStart => exact stock_next (undisturbed_transmitStart ..).kept hn
  | frameSent => exact stock_next (undisturbed_frameSent ..).kept hn
  | acceptWaitExpiry => exact stock_next (undisturbed_acceptExpiry ..).kept hn
  | holdWaitExpiry => exact stock_next (undisturbed_holdExpiry ..).kept hn
  | listeningReplyTimerExpiry => exact stock_next (undisturbed_listeningExpiry ..).kept hn
  | silenceTimerExpiry => exact stock_next (undisturbed_silenceExpiry ..).kept hn
  | stationQueryTimerExpiry => exact stock_next (undisturbed_queryExpiry ..).kept hn
  | plantQueryTimerExpiry => exact stock_next (undisturbed_plantQueryExpiry s).kept hn
  | staleTimerExpiry => exact stock_next (stock_staleExpiry s) hn
  | pressStartTimerExpiry => exact stock_next (undisturbed_pressStartExpiry s).kept hn
  | settleTimerExpiry => exact stock_next (undisturbed_settleExpiry ..).kept hn
  | pageWriteStart => exact stock_next (undisturbed_startPageWrite s).kept hn
  | eraseDone => exact stock_next (undisturbed_eraseEnds s).kept hn
  | programDone => exact stock_next (undisturbed_programEnds s).kept hn
  | verifyDone => exact stock_next (undisturbed_verifyEnds ..).kept hn
  | startBitVerified => exact stock_next (.ite (stock_takeSamples ..) (.refl s)) hn
  | powerFailure => exact stock_next (stock_powerFails s) hn

/-- A lawful state is steady, and its plans and records are sound. -/
theorem Lawful.steady (h : Lawful s) : s.Steady := by
  refine ⟨h.binding, ?_, h.thresholds.1, h.orders.2.1⟩
  exact h.factor.2.2

theorem Lawful.sound (h : Lawful s) : s.Sound := ⟨h.tags, h.holding, h.plans, h.progress⟩

theorem stock_step (hn : step s = .next t) : StockKept s.Steady s t := by
  unfold step at hn
  split at hn
  · cases hn; exact .refl s
  · next cmd rest _ =>
    have queued : Undisturbed s { s with pending := rest } := .of_fields rfl rfl rfl
    exact queued.kept.trans ((stock_exec cmd hn).mono fun h => ⟨h.binding, h.held.factors, h.held.thresholds,
      h.held.held⟩)

/-- Settles O59: each command by what it does to records and plans; only the reports of a saw and START_PLAN rest on
more than the stock laws themselves. -/
theorem stepKeepsTheStockLaws : Obligations.StepKeepsTheStockLaws := by
  intro s t hn
  have h := stock_step hn
  refine ⟨h.records.tag, h.records.rack, h.records.slots, h.holding, fun hl => ?_⟩
  have hs := h.sound hl.steady hl.sound
  exact ⟨hs.plans, hs.progress⟩

end Steps

end Sys2Proof.Machine

namespace Sys2Proof.Machine

/-! ### The reset state (R4 to R9, R62 to R69, R125, R140, R155, R181, R185) -/

section Reset

theorem reset_station (i : Fin 4) : State.reset.station i = Station.afterReset := slot_replicate ..
theorem reset_plan (k : Fin 12) : State.reset.plan k = none := slot_replicate ..
theorem reset_line (l : Fin 5) : State.reset.line l = Line.afterReset := slot_replicate ..
theorem reset_job (n : Fin 96) : State.reset.job n = none := slot_replicate ..
theorem reset_blade (i : Fin 4) : State.reset.blade i = none := slot_replicate ..
theorem reset_commanded (v : Fin 5) : slot State.reset.water.commanded v = false := slot_replicate ..
theorem reset_source (src : Fin 24) : slot State.reset.notices.sources src
    = { pending := none, enabled := true, level := defaultLevel src.val } := slot_ofFn ..

theorem reset_jobOf (number : Nat) : State.reset.jobOf number = none := by
  rw [State.jobOf, Option.bind_eq_none_iff]
  intro n _
  rw [reset_job]; rfl

/-- The pages are blank and no write is in flight. -/
theorem reset_everyImage (P : Image → Prop) : State.reset.everyImage P := by
  refine ⟨fun p im h => ?_, fun w h => by cases h⟩
  have : State.reset.page p = .blank := slot_replicate ..
  rw [this] at h; cases h

theorem reset_noticeLaw : State.reset.noticeLaw := by
  intro src
  rw [reset_source]
  refine ⟨?_, fun h => ⟨rfl, ?_⟩, by rintro _ ⟨⟩⟩
  all_goals revert src; decide

theorem reset_portLaw : State.reset.portLaw :=
  ⟨by decide, by decide, fun _ => rfl, .inl rfl⟩

theorem reset_transmitLaw : State.reset.transmitLaw := fun l => by
  rw [reset_line]
  exact ⟨List.nodup_nil, fun _ => ⟨rfl, rfl⟩⟩

theorem reset_bindingLaw : State.reset.bindingLaw := fun i b h => by
  rw [reset_station] at h ⊢
  cases h; rfl

theorem reset_supplyValveLaw : State.reset.supplyValveLaw := fun i => by
  rw [reset_commanded, reset_station]; rfl

theorem reset_makeUpLaw : State.reset.makeUpLaw := fun h => by
  rw [reset_commanded] at h; cases h

theorem reset_factorLaw : State.reset.factorLaw := ⟨Nat.zero_le _, fun _ => rfl, by decide⟩

theorem reset_lineMapLaw : State.reset.lineMapLaw := ⟨by decide, reset_everyImage _⟩

theorem reset_thresholdLaw : State.reset.thresholdLaw :=
  ⟨by unfold Thresholds.sound; decide, reset_everyImage _⟩

theorem reset_closedJobLaw : State.reset.closedJobLaw := fun n j k x h => by
  rw [reset_job] at h; cases h

theorem reset_bladeLaw : State.reset.bladeLaw :=
  ⟨fun i b h => (by rw [reset_blade] at h; cases h), reset_everyImage _,
    fun i h => by rw [reset_station] at h; cases h⟩

theorem reset_jobLineLaw : State.reset.jobLineLaw :=
  ⟨fun n j h => (by rw [reset_job] at h; cases h), reset_everyImage _⟩

theorem reset_designationLaw : State.reset.designationLaw := by
  refine ⟨fun n m j x h => (by rw [reset_job] at h; cases h), fun a b => ?_⟩
  rw [State.jobLine, reset_jobOf]
  simp [reset_plan]

theorem reset_orderLaw : State.reset.orderLaw := by
  refine ⟨fun i h => ?_, fun i h => ?_, fun i h => ?_⟩
  all_goals rw [reset_station] at h; cases h

/-- Settles O60: the tables of the reset state are empty, so each law speaks of nothing, or of the factors and the
notice sources as they stand after a device reset. -/
theorem resetMeetsEveryLaw : Obligations.ResetMeetsEveryLaw := by
  obtain ⟨bare, tags, rack, slots⟩ := bare_blank (t := State.reset) rfl rfl rfl
  have floors : State.reset.floorLaw := ⟨.nil, by rintro _ ⟨⟩⟩
  exact ⟨.nil, floors, reset_noticeLaw, reset_portLaw, reset_factorLaw, reset_makeUpLaw, reset_supplyValveLaw,
    reset_transmitLaw, reset_lineMapLaw, reset_bindingLaw, reset_closedJobLaw, tags, rack, slots, bare.holdingLaw,
    { queue := .nil, floors := floors, notices := reset_noticeLaw, port := reset_portLaw, factor := reset_factorLaw
      makeUp := reset_makeUpLaw, supplyValves := reset_supplyValveLaw, thresholds := reset_thresholdLaw
      blades := reset_bladeLaw, transmit := reset_transmitLaw, lineMap := reset_lineMapLaw
      binding := reset_bindingLaw, closedJobs := reset_closedJobLaw, jobLines := reset_jobLineLaw
      designations := reset_designationLaw, tags := tags, rack := rack, slots := slots
      holding := bare.holdingLaw, plans := bare.planLaw, progress := bare.progressLaw, orders := reset_orderLaw }⟩

end Reset

end Sys2Proof.Machine

namespace Sys2Proof.Machine

/-! ### Requests in service: the answer and the state behind it (R168, R171, R172) -/

section Service

variable {s t : State} {i : Instr} {echo : Byte} {h : Handler} {fs : List Byte} {code : ReplyCode} {a : Answer}

/-- A request in service that succeeds is answered OK. -/
theorem exec_done (hs : s.serving i) (hq : i.request?.map Request.echo = some echo) (he : exec i s = serve i h s)
    (hh : h s = done t fs) : exec i s = .next (t.answer echo .ok fs) := by
  obtain ⟨q, hiq, rfl⟩ := Option.map_eq_some_iff.mp hq
  rw [he, serving_ok hs hiq hh]

/-- A request in service that is not answered OK changes nothing but the port. -/
theorem exec_error (hs : s.serving i) (hq : i.request?.map Request.echo = some echo) (he : exec i s = serve i h s)
    (hh : h s = .error a) : exec i s = .next { s with port := s.port.replied echo a.code a.fields } := by
  obtain ⟨q, hiq, rfl⟩ := Option.map_eq_some_iff.mp hq
  rw [he, serving_error hs hiq hh]
  rfl

theorem exec_refuse (hs : s.serving i) (hq : i.request?.map Request.echo = some echo) (he : exec i s = serve i h s)
    (hh : h s = refuse code) : exec i s = .next { s with port := s.port.replied echo code [] } :=
  exec_error hs hq he hh

theorem definedMaterial_val {c : Fin 32} {m : Material} (hm : s.material c = some m) :
    s.definedMaterial c.val = some (c, m) := by simp [State.definedMaterial, hm]

/-- The block a reply carries is the one the statements spell out (11.4). -/
theorem block_statedFields (r : Slab) (n : Fin 512) : r.block n = leFields (r.statedFields n) := by
  unfold Slab.block Slab.statedFields SlabKind.code SlabState.code flagCode
  rfl

end Service

/-! ### ADMIT_SLAB (R12) -/

section Admit

variable {s : State} {tag length width thickness cost rack : Nat} {c : Fin 32} {m : Material} {pos : Option (Fin 120)}

/-- The checks of ADMIT_SLAB behind those of its fields' ranges. -/
theorem admitSlab_inRange (h1 : 1 ≤ tag) (h2 : tag ≤ 8388607) (hm : s.material c = some m)
    (hl : lengthOk length) (hw : widthOk width) (ht : thicknessOk thickness) (hc : costOk cost)
    (hpos : rackField rack = some pos) : admitSlab tag c.val length width thickness cost rack s
      = if (s.findTag tag).isSome then refuse .duplicate
        else if 512 ≤ s.liveSlabs + s.stock.reserved then refuse .full
        else (lowest s.stock.slabs (fun r => r.isNone)).elim (refuse .full) fun n =>
          if (pos.bind (slot s.stock.rackMap)).isSome then refuse .occupied
          else done ((s.rackAt pos (some tag)).rewriteSlab n
              ⟨tag, .full, c, length, width, thickness, cost, none, pos, .available, none, false⟩)
            (leBytes 2 n.val) := by
  rw [admitSlab, if_neg (by omega), definedMaterial_val hm, hpos]
  dsimp only
  rw [if_neg (by simp only [not_not]; exact ⟨hl, hw, ht, hc⟩)]
  cases lowest s.stock.slabs (fun r => r.isNone) <;> rfl

/-- A table with fewer than 512 live records has a free slot (R6). -/
theorem exists_free (h : s.liveSlabs < 512) : ∃ n, lowest s.stock.slabs (fun r => r.isNone) = some n := by
  cases hx : lowest s.stock.slabs (fun r => r.isNone) with
  | some n => exact ⟨n, rfl⟩
  | none =>
    have hall : Finset.univ.filter (fun i : Fin 512 => (slot s.stock.slabs i).isSome = true) = Finset.univ :=
      Finset.filter_true_of_mem fun i _ => by
        have := lowest_none.mp hx i
        rwa [Option.isNone_eq_false_iff] at this
    rw [State.liveSlabs, countWhere_eq_card, hall, Finset.card_univ, Fintype.card_fin] at h
    exact absurd h (lt_irrefl _)

/-- Settles O1: the checks of ADMIT_SLAB one behind the other, each with its own premise. -/
theorem admitSlabFilesRecordInLowestFreeSlot : Obligations.AdmitSlabFilesRecordInLowestFreeSlot := by
  constructor
  · intro s echo tag length width thickness cost rack c m n pos hs h1 h2 hm hl hw ht hc hpos hdup hroom hn hlow hfree
    have hbind : (pos.bind (slot s.stock.rackMap)).isSome = false := by
      cases pos with
      | none => rfl
      | some p => rw [Option.bind_some, hfree p rfl]; rfl
    have hh := admitSlab_inRange h1 h2 hm hl hw ht hc (rackField_of hpos)
    rw [findTag_none hdup, if_neg (by decide), if_neg (by omega), liveSlot hn hlow,
      Option.elim_some, hbind, if_neg (by decide)] at hh
    refine ⟨_, exec_done hs rfl rfl hh, ?_, fun k hk => ?_, fun p => ?_, enqueuedOnly_of ?_, ?_⟩
    · exact (slab_rewriteSlab ..).trans (if_pos rfl)
    · exact (slab_rewriteSlab ..).trans ((if_neg hk.symm).trans (rackAt_slab ..))
    · exact rackAt_rackMap ..
    all_goals cases pos <;> rfl
  · intro s echo tag length width thickness cost rack c m pos hs h1 h2 hm hl hw ht hc hpos
    have hh := admitSlab_inRange h1 h2 hm hl hw ht hc (rackField_of hpos)
    refine ⟨fun hdup => ?_, fun hdup hroom => ?_, fun hdup hroom hocc => ?_⟩
    · rw [if_pos (findTag_isSome hdup)] at hh
      exact exec_refuse hs rfl rfl hh
    · rw [findTag_none hdup, if_neg (by decide), if_pos hroom] at hh
      exact exec_refuse hs rfl rfl hh
    · obtain ⟨p, x, rfl, hx⟩ := hocc
      rw [findTag_none hdup, if_neg (by decide), if_neg (by omega)] at hh
      obtain ⟨n, hn⟩ := exists_free (s := s) (by omega)
      rw [hn, Option.elim_some, Option.bind_some, hx, if_pos Option.isSome_some] at hh
      exact exec_refuse hs rfl rfl hh

end Admit

end Sys2Proof.Machine

namespace Sys2Proof.Machine

/-! ### The number checks (R10, R26, R136) -/

section Numbers

variable {s : State} {tag number : Nat} {k : Fin 12} {p : Plan}

theorem tagCheck_outOfRange (h : tag = 0 ∨ 16777215 < tag) : s.tagCheck tag = refuse .badValue := if_pos h

theorem tagCheck_noSuch (h1 : 1 ≤ tag) (h2 : tag ≤ 16777215) (h : ∀ n r, s.slab n = some r → r.tag ≠ tag) :
    s.tagCheck tag = refuse .noSuch := by
  rw [State.tagCheck, if_neg (by omega), State.slabOf, findTag_none h]
  rfl

theorem planCheck_outOfRange {takes : PlanState → Bool} (h : 11 < number) :
    s.planCheck number takes = refuse .badValue := by
  rw [State.planCheck, index?_none.mpr h]

theorem planCheck_noSuch {takes : PlanState → Bool} (h : s.plan k = none) :
    s.planCheck k.val takes = refuse .noSuch := by
  rw [State.planCheck, index?_val]
  dsimp only
  rw [h]

theorem planCheck_takes {takes : PlanState → Bool} (h : s.plan k = some p) :
    s.planCheck k.val takes = if takes p.state then .ok (k, p) else refuse .wrongState := by
  rw [State.planCheck, index?_val]
  dsimp only
  rw [h]

theorem planCheck_wrongState {takes : PlanState → Bool} (h : s.plan k = some p) (ht : takes p.state = false) :
    s.planCheck k.val takes = refuse .wrongState := by
  rw [planCheck_takes h, if_neg (by simp [ht])]

theorem jobCheck_outOfRange (h : number = 0 ∨ 65535 < number) : s.jobCheck number = refuse .badValue := if_pos h

theorem findJob_none (h : ∀ n j, s.job n = some j → j.number ≠ number) : s.findJob number = none := by
  rw [State.findJob, lowest_none]
  intro n
  change (s.job n).any _ = false
  cases hx : s.job n with
  | none => rfl
  | some j => simpa using h n j hx

theorem jobCheck_noSuch (h1 : 1 ≤ number) (h2 : number ≤ 65535) (h : ∀ n j, s.job n = some j → j.number ≠ number) :
    s.jobCheck number = refuse .noSuch := by
  rw [State.jobCheck, if_neg (by omega), State.jobOf, findJob_none h]
  rfl

end Numbers

section Refusals

variable {s : State} {i : Instr} {echo : Byte} {code : ReplyCode}

/-- A request that names a slab by its tag answers what the tag checks answer (R10). -/
theorem exec_tagRefused {tag : Nat} (hi : (i = .readSlab echo tag) ∨ (∃ rack, i = .moveSlab echo tag rack)
      ∨ (∃ l w c, i = .amendSlab echo tag l w c) ∨ (∃ reason, i = .retireSlab echo tag reason))
    (hs : s.serving i) (h : s.tagCheck tag = refuse code) :
    exec i s = .next { s with port := s.port.replied echo code [] } := by
  rcases hi with rfl | ⟨rack, rfl⟩ | ⟨l, w, c, rfl⟩ | ⟨reason, rfl⟩
  · exact exec_refuse hs rfl rfl (by rw [readSlab, h]; rfl)
  · exact exec_refuse hs rfl rfl (by rw [moveSlab, h]; rfl)
  · exact exec_refuse hs rfl rfl (by rw [amendSlab, h]; rfl)
  · exact exec_refuse hs rfl rfl (by rw [retireSlab, h]; rfl)

/-- A request that names a material or a station refuses a number out of range (R2, R3, R71 to R102). -/
theorem exec_numberRefused {number : Nat}
    (hi : (31 < number ∧ ((∃ v d b f h x w q, i = .setMaterial echo number v d b f h x w q)
        ∨ (i = .clearMaterial echo number) ∨ i = .readMaterial echo number))
      ∨ (3 < number ∧ ((i = .attachStation echo number) ∨ (i = .detachStation echo number)
        ∨ (i = .stopStation echo number) ∨ (i = .resumeStation echo number)
        ∨ (i = .removeBlade echo number) ∨ i = .readBlade echo number))) (hs : s.serving i) :
    exec i s = .next { s with port := s.port.replied echo .badValue [] } := by
  rcases hi with ⟨hn, hi⟩ | ⟨hn, hi⟩
  · have hx : index? 32 number = none := index?_none.mpr hn
    rcases hi with ⟨v, d, b, f, h, x, w, q, rfl⟩ | rfl | rfl
    · exact exec_refuse hs rfl rfl (by rw [setMaterial, hx])
    · exact exec_refuse hs rfl rfl (by rw [clearMaterial, hx])
    · exact exec_refuse hs rfl rfl (by rw [readMaterial, hx])
  · have hx : index? 4 number = none := index?_none.mpr hn
    rcases hi with rfl | rfl | rfl | rfl | rfl | rfl
    · exact exec_refuse hs rfl rfl (by rw [attachStation, hx])
    · exact exec_refuse hs rfl rfl (by rw [detachStation, hx])
    · exact exec_refuse hs rfl rfl (by rw [stopStation, hx])
    · exact exec_refuse hs rfl rfl (by rw [resumeStation, hx])
    · exact exec_refuse hs rfl rfl (by rw [removeBlade, hx])
    · exact exec_refuse hs rfl rfl (by rw [readBlade, hx])

/-- A request that names a plan answers what the plan checks answer, for the states it takes (R25, R26). -/
theorem exec_planRefused {plan : Nat} {taken : PlanState → Prop}
    (hi : ((∃ p a o, i = .addCut echo plan p a o) ∨ (i = .undoCut echo plan)
          ∨ (∃ p d j l, i = .markPiece echo plan p d j l) ∨ (i = .lockPlan echo plan))
        ∧ taken = (· = .opened)
      ∨ ((i = .unlockPlan echo plan) ∨ (∃ st, i = .startPlan echo plan st)) ∧ taken = (· = .locked)
      ∨ (i = .dropPlan echo plan) ∧ taken = (· ≠ .bound)
      ∨ (i = .abandonPlan echo plan) ∧ taken = (· = .bound)
      ∨ (∃ st, i = .readPlan echo plan st) ∧ taken = fun _ => True) (hs : s.serving i)
    (h : ∀ takes : PlanState → Bool, (∀ x, takes x = true ↔ taken x) → s.planCheck plan takes = refuse code) :
    exec i s = .next { s with port := s.port.replied echo code [] } := by
  rcases hi with ⟨hi, rfl⟩ | ⟨hi, rfl⟩ | ⟨rfl, rfl⟩ | ⟨rfl, rfl⟩ | ⟨⟨st, rfl⟩, rfl⟩
  · have hc := h PlanState.isOpened fun _ => isOpened_iff
    rcases hi with ⟨p, a, o, rfl⟩ | rfl | ⟨p, d, j, l, rfl⟩ | rfl
    · exact exec_refuse hs rfl rfl (by rw [addCut, hc]; rfl)
    · exact exec_refuse hs rfl rfl (by rw [undoCut, hc]; rfl)
    · exact exec_refuse hs rfl rfl (by rw [markPiece, hc]; rfl)
    · exact exec_refuse hs rfl rfl (by rw [lockPlan, hc]; rfl)
  · have hc := h PlanState.isLocked fun _ => isLocked_iff
    rcases hi with rfl | ⟨st, rfl⟩
    · exact exec_refuse hs rfl rfl (by rw [unlockPlan, hc]; rfl)
    · exact exec_refuse hs rfl rfl (by rw [startPlan, hc]; rfl)
  · have hc := h (fun x => !x.isBound) fun x => by simp [PlanState.isBound]
    exact exec_refuse hs rfl rfl (by rw [dropPlan, hc]; rfl)
  · have hc := h PlanState.isBound fun _ => isBound_iff
    exact exec_refuse hs rfl rfl (by rw [abandonPlan, hc]; rfl)
  · have hc := h (fun _ => true) fun _ => by simp
    exact exec_refuse hs rfl rfl (by rw [readPlan, hc]; rfl)

/-- A request that names a live job answers what the job checks answer (R136). -/
theorem exec_jobRefused {number : Nat} (hi : (∃ line target, i = .setLine echo number line target)
      ∨ (i = .readJob echo number) ∨ (i = .closeJob echo number) ∨ (i = .retireJob echo number))
    (hs : s.serving i) (h : s.jobCheck number = refuse code) :
    exec i s = .next { s with port := s.port.replied echo code [] } := by
  rcases hi with ⟨line, target, rfl⟩ | rfl | rfl | rfl
  · exact exec_refuse hs rfl rfl (by rw [setLine, h]; rfl)
  · exact exec_refuse hs rfl rfl (by rw [readJob, h]; rfl)
  · exact exec_refuse hs rfl rfl (by rw [closeJob, h]; rfl)
  · exact exec_refuse hs rfl rfl (by rw [retireJob, h]; rfl)

/-- Settles O2: in each handler the check of the number stands first, and its refusal is the handler's. -/
theorem numbersAreCheckedBeforeAnythingElse : Obligations.NumbersAreCheckedBeforeAnythingElse := by
  refine ⟨fun s i echo tag hi hs => ⟨fun h => ?_, fun h1 h2 h => ?_⟩, fun s i echo number hi hs => ?_,
    fun s i echo plan taken hi hs => ⟨fun h => ?_, fun k hk => ?_⟩,
    fun s i echo number hi hs => ⟨fun h => ?_, fun h1 h2 h => ?_⟩⟩
  · exact exec_tagRefused hi hs (tagCheck_outOfRange h)
  · exact exec_tagRefused hi hs (tagCheck_noSuch h1 h2 h)
  · exact exec_numberRefused hi hs
  · exact exec_planRefused hi hs fun _ _ => planCheck_outOfRange h
  · subst hk
    refine ⟨fun h => exec_planRefused hi hs fun _ _ => planCheck_noSuch h, fun p hp hnot => ?_⟩
    refine exec_planRefused hi hs fun takes ht => planCheck_wrongState hp ?_
    rw [← Bool.not_eq_true, ht]
    exact hnot
  · exact exec_jobRefused hi hs (jobCheck_outOfRange h)
  · exact exec_jobRefused hi hs (jobCheck_noSuch h1 h2 h)

end Refusals

end Sys2Proof.Machine

namespace Sys2Proof.Machine

/-! ### Reads of the stock and the plans (R3, R11, R13, R45) -/

section Reads

variable {s : State} {cursor material slabState : Nat}

/-- The first number that passes a test. -/
theorem find?_finRange {n : Nat} {p : Fin n → Bool} {i : Fin n} :
    (List.finRange n).find? p = some i ↔ p i = true ∧ ∀ j < i, p j = false := by
  have h : (List.finRange n).find? p = lowest (Vector.ofFn p) id := by simp [lowest]
  rw [h, lowest_iff]
  simp

/-- What LIST_STOCK asks of a record (R13). -/
def Slab.wanted (material slabState : Nat) (r : Slab) : Bool :=
  (decide (material = 255) || decide (r.material.val = material))
    && (decide (slabState = 255) || decide (r.state.code = slabState))

theorem wanted_iff (r : Slab) : r.wanted material slabState = true
    ↔ (material ≠ 255 → r.material.val = material) ∧ (slabState ≠ 255 → r.state.code = slabState) := by
  simp only [Slab.wanted, Bool.and_eq_true, Bool.or_eq_true, decide_eq_true_eq]
  tauto

/-- The slots LIST_STOCK meets (R13). -/
def State.listed (s : State) (cursor material slabState : Nat) (n : Fin 512) : Bool :=
  decide (cursor ≤ n.val) && (s.slab n).any (Slab.wanted material slabState)

theorem listed_iff (n : Fin 512) : s.listed cursor material slabState n = true
    ↔ cursor ≤ n.val ∧ ∃ r, s.slab n = some r ∧ r.wanted material slabState = true := by
  simp [State.listed, Option.any_eq_true]

theorem listed_eq_false {n : Fin 512} : s.listed cursor material slabState n = false
    ↔ ∀ r, cursor ≤ n.val → s.slab n = some r → ¬r.wanted material slabState = true := by
  rw [← Bool.not_eq_true, listed_iff]
  push Not
  exact ⟨fun h r hc hr => h hc r hr, fun h hc r hr => h r hc hr⟩

/-- LIST_STOCK in range goes through the slots from the cursor on. -/
theorem listStock_inRange (hm : material = 255 ∨ material ≤ 31) (hst : slabState = 255 ∨ slabState ≤ 2)
    (hc : cursor ≤ 512) : listStock cursor material slabState s
      = ((List.finRange 512).find? (s.listed cursor material slabState)).elim (refuse .ended) fun n =>
          (s.slab n).elim (refuse .ended) fun r => done s (r.block n ++ leBytes 2 (n.val + 1)) := by
  rw [listStock, if_neg (by omega)]
  have e : (fun n => decide (cursor ≤ n.val) && (s.slab n).any fun r =>
      (decide (material = 255) || decide (r.material.val = material))
        && (decide (slabState = 255) || decide (r.state.code = slabState))) = s.listed cursor material slabState := rfl
  dsimp only
  rw [e]
  cases (List.finRange 512).find? (s.listed cursor material slabState) with
  | none => rfl
  | some n =>
    rw [Option.elim_some]
    dsimp only
    cases s.slab n <;> rfl

theorem leFields_append (xs ys : List (Nat × Nat)) : leFields (xs ++ ys) = leFields xs ++ leFields ys := by
  induction xs with
  | nil => rfl
  | cons x xs ih => rw [List.cons_append, leFields, leFields, ih, List.append_assoc]

theorem leFields_single (n v : Nat) : leFields [(n, v)] = leBytes n v := by
  rw [leFields, leFields, List.append_nil]

/-- The eight pieces from a start piece on, none beyond 63 (R45). -/
theorem shown_pieces (start : Fin 64) :
    (List.finRange 64).filter (fun i => decide (start.val ≤ i.val ∧ i.val < start.val + 8))
      = (List.range (min 8 (64 - start.val))).map fun d => Fin.ofNat 64 (start.val + d) := by
  revert start
  decide +kernel

/-- Settles O3: each read answers its record, or END where no slot is listed, and hands back the state it was given. -/
theorem stockAndPlanReadsChangeNothing : Obligations.StockAndPlanReadsChangeNothing := by
  refine ⟨⟨?_, ?_, ?_, ?_⟩, ?_⟩
  case refine_1 =>
    intro s echo tag n r hs hn
    rw [← block_statedFields]
    exact exec_done hs rfl rfl (by rw [readSlab, tagCheck_names hn])
  case refine_2 =>
    intro s echo cursor material slabState n r hs hm hst hc hn hrm hrs hlow
    have hfind : (List.finRange 512).find? (s.listed cursor material slabState) = some n := by
      refine find?_finRange.mpr ⟨(listed_iff n).mpr ⟨hc, r, hn, (wanted_iff r).mpr ⟨hrm, hrs⟩⟩, fun j hj => ?_⟩
      refine listed_eq_false.mpr fun x hx hjx hw => hlow j x hx hj hjx ((wanted_iff x).mp hw)
    rw [leFields_append, leFields_single, ← block_statedFields]
    refine exec_done hs rfl rfl ?_
    rw [listStock_inRange hm hst (by omega), hfind, Option.elim_some, hn, Option.elim_some]
  case refine_3 =>
    intro s echo cursor material slabState hs hc hm hst hno
    have hfind : (List.finRange 512).find? (s.listed cursor material slabState) = none := by
      rw [List.find?_eq_none]
      intro n _
      rw [Bool.not_eq_true]
      exact listed_eq_false.mpr fun x hx hnx hw => hno n x hx hnx ((wanted_iff x).mp hw)
    refine exec_refuse hs rfl rfl ?_
    rw [listStock_inRange hm hst hc, hfind, Option.elim_none]
  case refine_4 =>
    intro s echo c m hs hm
    refine exec_done hs rfl rfl ?_
    rw [readMaterial, index?_val]
    dsimp only
    rw [hm]
  case refine_5 =>
    intro s echo k p start hs hk hstart
    refine exec_done hs rfl rfl ?_
    rw [readPlan, planCheck_takes hk, if_pos rfl]
    dsimp only
    rw [if_neg (by omega), shown_pieces ⟨start, by omega⟩, List.flatMap_map]
    have blocks : (List.range (min 8 (64 - start))).flatMap (fun d =>
          (slot p.pieces (Fin.ofNat 64 (start + d))).block (Fin.ofNat 64 (start + d)).val)
        = (List.range (min 8 (64 - start))).flatMap fun d =>
          (slot p.pieces (Fin.ofNat 64 (start + d))).block (start + d) := by
      refine List.flatMap_congr fun d hd => ?_
      have hlt : start + d < 64 := by have := List.mem_range.mp hd; omega
      rw [Fin.val_ofNat, Nat.mod_eq_of_lt hlt]
    rw [blocks]

end Reads

end Sys2Proof.Machine

namespace Sys2Proof.Machine

/-! ### The best fit (R14) -/

section BestFit

variable {s : State} {code : Fin 32} {veined : Bool} {thickness minLength minWidth : Nat}

/-- What ranks a fitting record (R14): its area, REMNANT before FULL, its cost basis, its slot. -/
def Slab.rank (r : Slab) (n : Nat) : Nat ×ₗ Nat ×ₗ Nat ×ₗ Nat :=
  toLex (r.length * r.width, toLex (if r.kind = .remnant then 0 else 1, toLex (r.cost, n)))

theorem rank_le_iff (r x : Slab) (n k : Nat) : r.rank n ≤ x.rank k
    ↔ r.length * r.width < x.length * x.width ∨ r.length * r.width = x.length * x.width
      ∧ ((if r.kind = .remnant then 0 else 1) < (if x.kind = .remnant then 0 else 1)
        ∨ (if r.kind = .remnant then 0 else 1) = (if x.kind = .remnant then 0 else 1)
          ∧ (r.cost < x.cost ∨ r.cost = x.cost ∧ n ≤ k)) := by
  simp only [Slab.rank, Prod.Lex.toLex_le_toLex]

theorem rank_inj {r x : Slab} {n k : Nat} (h : r.rank n = x.rank k) : n = k := by
  simp only [Slab.rank, toLex_inj, Prod.mk.injEq] at h
  exact h.2.2.2

/-- The record met in a higher slot takes the place of the choice so far exactly when it ranks before it. -/
theorem rank_le_of_better {a b : Slab} {n m : Nat} (h : a.betterThan b = true) : a.rank n ≤ b.rank m := by
  simp only [Slab.betterThan, Bool.or_eq_true, Bool.and_eq_true, decide_eq_true_eq] at h
  rw [rank_le_iff]
  tauto

theorem rank_le_of_not_better {a b : Slab} {n m : Nat} (h : a.betterThan b = false) (hm : m ≤ n) :
    b.rank m ≤ a.rank n := by
  rw [← Bool.not_eq_true] at h
  simp only [Slab.betterThan, Bool.or_eq_true, Bool.and_eq_true, decide_eq_true_eq] at h
  rw [rank_le_iff]
  omega

/-- One slot met in the search (R14): a record that fits is weighed against the choice so far. -/
def State.meetSlot (s : State) (fit : Slab → Option Fit) (best : Option (Fin 512 × Slab × Fit)) (n : Fin 512) :
    Option (Fin 512 × Slab × Fit) :=
  match s.slab n with
  | none => best
  | some r => match fit r with
    | none => best
    | some f => betterChoice best n r f

theorem bestFit_eq : s.bestFit code veined thickness minLength minWidth = (List.finRange 512).foldl
    (s.meetSlot fun r => r.candidate code veined thickness minLength minWidth) none := rfl

variable {fit : Slab → Option Fit} {ns : List (Fin 512)} {best : Option (Fin 512 × Slab × Fit)} {n : Fin 512}

/-- A fitting record that ranks before, or is, every other met. -/
structure State.Chosen (s : State) (fit : Slab → Option Fit) (ns : List (Fin 512)) (m : Fin 512) (b : Slab)
    (f : Fit) : Prop where
  met : m ∈ ns
  record : s.slab m = some b
  fits : fit b = some f
  least : ∀ k x, k ∈ ns → s.slab k = some x → (fit x).isSome → b.rank m.val ≤ x.rank k.val

/-- What the search has chosen among the slots met: nothing where nothing fits, else the best (R14). -/
structure State.Best (s : State) (fit : Slab → Option Fit) (ns : List (Fin 512))
    (best : Option (Fin 512 × Slab × Fit)) : Prop where
  nothing : best = none → ∀ k x, k ∈ ns → s.slab k = some x → fit x = none
  chosen : ∀ m b f, best = some (m, b, f) → s.Chosen fit ns m b f

/-- A slot without a fitting record leaves the choice. -/
theorem best_skip (h : s.Best fit ns best) (hn : ∀ x, s.slab n = some x → fit x = none) :
    s.Best fit (ns ++ [n]) best := by
  have skip {k : Fin 512} {x : Slab} (hk : k ∈ ns ++ [n]) (hx : s.slab k = some x) : k ∈ ns ∨ fit x = none := by
    rcases List.mem_append.mp hk with hk | hk
    · exact .inl hk
    · rw [List.mem_singleton] at hk
      exact .inr (hn x (hk ▸ hx))
  refine ⟨fun hb k x hk hx => (skip hk hx).elim (h.nothing hb k x · hx) id, fun m b f hb => ?_⟩
  obtain ⟨met, record, fits, least⟩ := h.chosen m b f hb
  refine ⟨List.mem_append_left _ met, record, fits, fun k x hk hx hf => ?_⟩
  rcases skip hk hx with hk | hno
  · exact least k x hk hx hf
  · rw [hno] at hf; cases hf

/-- A fitting record in a slot above those met. -/
theorem best_weigh {r : Slab} {f : Fit} (h : s.Best fit ns best) (hlt : ∀ k ∈ ns, k < n) (hr : s.slab n = some r)
    (hf : fit r = some f) : s.Best fit (ns ++ [n]) (betterChoice best n r f) := by
  have own {x : Slab} (hx : s.slab n = some x) : x = r := by rw [hr] at hx; cases hx; rfl
  have taken (hle : ∀ k x, k ∈ ns → s.slab k = some x → (fit x).isSome → r.rank n.val ≤ x.rank k.val) :
      s.Best fit (ns ++ [n]) (some (n, r, f)) := by
    refine ⟨(by rintro ⟨⟩), fun m b g e => ?_⟩
    cases e
    refine ⟨List.mem_append_right _ (List.mem_singleton_self n), hr, hf, fun k x hk hx hx' => ?_⟩
    rcases List.mem_append.mp hk with hk | hk
    · exact hle k x hk hx hx'
    · rw [List.mem_singleton] at hk
      subst hk
      rw [own hx]
  cases hb : best with
  | none =>
    refine taken fun k x hk hx hx' => ?_
    rw [h.nothing hb k x hk hx] at hx'; cases hx'
  | some c =>
    obtain ⟨m, b, g⟩ := c
    obtain ⟨met, record, fits, least⟩ := h.chosen m b g hb
    rw [betterChoice]
    split
    · next hbetter => exact taken fun k x hk hx hx' => (rank_le_of_better hbetter).trans (least k x hk hx hx')
    · next hnot =>
      refine ⟨(by rintro ⟨⟩), fun m' b' g' e => ?_⟩
      cases e
      refine ⟨List.mem_append_left _ met, record, fits, fun k x hk hx hx' => ?_⟩
      rcases List.mem_append.mp hk with hk | hk
      · exact least k x hk hx hx'
      · rw [List.mem_singleton] at hk
        subst hk
        rw [own hx]
        exact rank_le_of_not_better (by simpa using hnot) (le_of_lt (hlt m met))

theorem best_foldl (hns : ns.Pairwise (· < ·)) : s.Best fit ns (ns.foldl (s.meetSlot fit) none) := by
  induction ns using List.reverseRecOn with
  | nil => exact ⟨fun _ _ _ h => (by cases h), fun _ _ _ h => (by cases h)⟩
  | append_singleton ns n ih =>
    rw [List.pairwise_append] at hns
    have h := ih hns.1
    have hlt (k : Fin 512) (hk : k ∈ ns) : k < n := hns.2.2 k hk n (List.mem_singleton_self n)
    rw [List.foldl_append, List.foldl_cons, List.foldl_nil]
    generalize ns.foldl (s.meetSlot fit) none = best at h
    unfold State.meetSlot
    split
    · next hnone => exact best_skip h fun x hx => (by rw [hnone] at hx; cases hx)
    · next r hr =>
      split
      · next hno => exact best_skip h fun x hx => (by rw [hr] at hx; cases hx; exact hno)
      · next f hf => exact best_weigh h hlt hr hf

/-- How a rectangle fits: directly where it can (R14). -/
theorem fitOf_iff (length width : Nat) (f : Fit) : fitOf veined length width minLength minWidth = some f
    ↔ ((minLength ≤ length ∧ minWidth ≤ width) ∨ (veined = false ∧ minLength ≤ width ∧ minWidth ≤ length))
      ∧ f = if minLength ≤ length ∧ minWidth ≤ width then .direct else .rotated := by
  unfold fitOf
  split
  · next hd => simp [hd, eq_comm]
  · next hd =>
    split
    · next hr => simp [hd, hr, eq_comm]
    · next hr => simp [hd, hr]

theorem candidate_iff (r : Slab) (f : Fit) : r.candidate code veined thickness minLength minWidth = some f
    ↔ r.findsFit code veined thickness minLength minWidth
      ∧ f = if minLength ≤ r.length ∧ minWidth ≤ r.width then .direct else .rotated := by
  unfold Slab.candidate Slab.findsFit
  split
  · next hc => rw [fitOf_iff]; tauto
  · next hc => simp only [reduceCtorEq, false_iff]; tauto

/-- Settles O4: the search keeps, slot by slot, the best of the records met. -/
theorem findSlabReturnsTheBestFit : Obligations.FindSlabReturnsTheBestFit := by
  intro s echo c m thickness minLength minWidth hs hm ht hl hw
  have hbest : s.Best (fun r => r.candidate c m.veined thickness minLength minWidth) (List.finRange 512)
      (s.bestFit c m.veined thickness minLength minWidth) := bestFit_eq ▸ best_foldl (List.pairwise_lt_finRange 512)
  have found : findSlab c.val thickness minLength minWidth s
      = (s.bestFit c m.veined thickness minLength minWidth).elim (refuse .nothing) fun x =>
        done s (x.2.1.block x.1 ++ leBytes 1 x.2.2.code) := by
    rw [findSlab, definedMaterial_val hm]
    dsimp only
    rw [if_neg (by simp only [not_not]; exact ⟨ht, hl, hw⟩)]
    cases s.bestFit c m.veined thickness minLength minWidth <;> rfl
  constructor
  · intro hno
    refine exec_refuse hs rfl rfl ?_
    rw [found]
    cases hx : s.bestFit c m.veined thickness minLength minWidth with
    | none => rfl
    | some x =>
      obtain ⟨-, record, fits, -⟩ := hbest.chosen x.1 x.2.1 x.2.2 hx
      exact absurd ((candidate_iff _ _).mp fits).1 (hno _ _ record)
  · intro n r hr hfit hleast
    have hcand := (candidate_iff r _).mpr ⟨hfit, rfl⟩
    cases hx : s.bestFit c m.veined thickness minLength minWidth with
    | none =>
      rw [hbest.nothing hx n r (List.mem_finRange n) hr] at hcand
      cases hcand
    | some x =>
      obtain ⟨met, record, fits, least⟩ := hbest.chosen x.1 x.2.1 x.2.2 hx
      have hle := least n r (List.mem_finRange n) hr (by rw [hcand]; rfl)
      have hge : r.rank n.val ≤ x.2.1.rank x.1.val := hleast x.1 x.2.1 record ((candidate_iff _ _).mp fits).1
      have hn : x.1 = n := Fin.ext (rank_inj (le_antisymm hle hge))
      rw [hn, hr, Option.some.injEq] at record
      rw [leFields_append, leFields_single, ← block_statedFields]
      refine exec_done hs rfl rfl ?_
      rw [found, hx, Option.elim_some, hn, ← record, ((candidate_iff _ _).mp fits).2, ← record]
      split_ifs <;> rfl

end BestFit

end Sys2Proof.Machine

namespace Sys2Proof.Machine

/-! ### MOVE_SLAB, AMEND_SLAB and RETIRE_SLAB (R15 to R17) -/

section Moves

variable {s : State} {tag : Nat} {n : Fin 512} {r : Slab}

theorem rackField_outOfRange {rack : Nat} (h : 119 < rack) (h' : rack ≠ 255) : rackField rack = none := by
  rw [rackField, optional, if_neg h']
  dsimp only
  rw [index?_none.mpr h]
  rfl

/-- A Rack Map entry set leaves all but the map as it was. -/
theorem rackAt_eq (s : State) (pos : Option (Fin 120)) (x : Option Nat) :
    s.rackAt pos x = { s with stock := { s.stock with rackMap := (s.rackAt pos x).stock.rackMap } } := by
  cases pos <;> rfl

/-- An account booking, and the queue behind it (R134, R155). -/
theorem bookOverhead_eq (s : State) (f : Overhead → Overhead) : s.bookOverhead f
    = { s with
        overhead := f s.overhead
        retention := { s.retention with
          queue := (if f s.overhead = s.overhead then []
            else [overheadPage]).foldl queueWith s.retention.queue } } := by
  unfold State.bookOverhead
  split
  · next h => rw [h]; rfl
  · rfl

theorem moveSlab_named (h : s.tagNames tag n r) {rack : Nat} {pos : Option (Fin 120)}
    (hpos : rackField rack = some pos) : moveSlab tag rack s
      = if r.state = .cutting then refuse .wrongState
        else if (pos.bind (slot s.stock.rackMap)).any (fun t => t != tag) then refuse .occupied
        else if pos = r.rack then done s []
        else done (((s.rackAt r.rack none).rackAt pos (some tag)).rewriteSlab n { r with rack := pos }) [] := by
  rw [moveSlab, tagCheck_names h]
  dsimp only
  rw [hpos]

theorem amendSlab_named (h : s.tagNames tag n r) (length width cost : Nat) : amendSlab tag length width cost s
    = if ¬(lengthOk length ∧ widthOk width ∧ costOk cost) then refuse .badValue
      else if r.state ≠ .available then refuse .wrongState
      else done (if { r with length := length, width := width, cost := cost, interrupted := false } = r then s
          else s.rewriteSlab n { r with length := length, width := width, cost := cost, interrupted := false })
        (({ r with length := length, width := width, cost := cost, interrupted := false } : Slab).block n) := by
  rw [amendSlab, tagCheck_names h]

theorem retireSlab_named (h : s.tagNames tag n r) (reason : Nat) : retireSlab tag reason s
    = if 1 < reason then refuse .badValue
      else if r.state ≠ .available then refuse .wrongState
      else done ((if reason = 1 then s.bookOverhead (fun o => o.bookMaterial r.cost) else s).retireSlab n r)
        (leFields [(3, r.tag), (3, r.cost), (1, reason)]) := by
  rw [retireSlab, tagCheck_names h]

/-- What RETIRE_SLAB books (R17, R132). -/
theorem retireBooking_eq (s : State) (reason cost : Nat) :
    (if reason = 1 then s.bookOverhead (fun o => o.bookMaterial cost) else s)
      = { s with
          overhead := if reason = 1 then s.overhead.bookMaterial cost else s.overhead
          retention := { s.retention with
            queue := (if (if reason = 1 then s.overhead.bookMaterial cost else s.overhead) = s.overhead then []
              else [overheadPage]).foldl queueWith s.retention.queue } } := by
  split
  · exact bookOverhead_eq ..
  · rw [if_pos rfl]; rfl

theorem move_clause (s : State) (echo : Byte) (tag rack : Nat) (n : Fin 512) (r : Slab) (pos : Option (Fin 120))
    (hs : s.serving (.moveSlab echo tag rack)) (hn : s.tagNames tag n r) :
    (119 < rack → rack ≠ 255 →
      exec (.moveSlab echo tag rack) s = .next { s with port := s.port.replied echo .badValue [] })
    ∧ ((pos = none ∧ rack = 255 ∨ ∃ p : Fin 120, pos = some p ∧ rack = p.val) →
    (r.state = .cutting →
      exec (.moveSlab echo tag rack) s = .next { s with port := s.port.replied echo .wrongState [] })
    ∧ (r.state ≠ .cutting → (∃ p x, pos = some p ∧ slot s.stock.rackMap p = some x ∧ x ≠ tag) →
      exec (.moveSlab echo tag rack) s = .next { s with port := s.port.replied echo .occupied [] })
    ∧ (r.state ≠ .cutting → (∀ p x, pos = some p → slot s.stock.rackMap p = some x → x = tag) →
    (pos = r.rack → exec (.moveSlab echo tag rack) s = .next { s with port := s.port.replied echo .ok [] })
    ∧ (pos ≠ r.rack →
      ∃ t, exec (.moveSlab echo tag rack) s = .next t
        ∧ t.slab n = some { r with rack := pos } ∧ (∀ k, k ≠ n → t.slab k = s.slab k)
        ∧ (∀ p, slot t.stock.rackMap p =
            if pos = some p then some tag else if r.rack = some p then none else slot s.stock.rackMap p)
        ∧ s.enqueuedOnly t [slabPage n]
        ∧ t = { s with
            port := s.port.replied echo .ok []
            stock := { s.stock with slabs := t.stock.slabs, rackMap := t.stock.rackMap }
            retention := { s.retention with queue := t.retention.queue } }))) := by
  refine ⟨fun h1 h2 => ?_, fun hpos => ?_⟩
  · refine exec_refuse hs rfl rfl ?_
    rw [moveSlab, tagCheck_names hn]
    dsimp only
    rw [rackField_outOfRange h1 h2]
  · have hh := moveSlab_named hn (rackField_of hpos)
    refine ⟨fun hcut => ?_, fun hcut hocc => ?_, fun hcut hfree => ?_⟩
    · exact exec_refuse hs rfl rfl (hh.trans (if_pos hcut))
    · obtain ⟨p, x, rfl, hx, hne⟩ := hocc
      rw [if_neg hcut, Option.bind_some, hx, Option.any_some, if_pos (by simpa using hne)] at hh
      exact exec_refuse hs rfl rfl hh
    · have hany : (pos.bind (slot s.stock.rackMap)).any (fun t => t != tag) = false := by
        rw [Option.any_eq_false]
        intro x hx
        obtain ⟨p, hp, hx⟩ := Option.bind_eq_some_iff.mp hx
        simpa using hfree p x hp hx
      rw [if_neg hcut, hany, if_neg (by decide)] at hh
      refine ⟨fun hsame => ?_, fun hmoved => ?_⟩
      · rw [if_pos hsame] at hh
        exact exec_done hs rfl rfl hh
      · rw [if_neg hmoved] at hh
        refine ⟨_, exec_done hs rfl rfl hh, ?_, fun k hk => ?_, fun p => ?_, enqueuedOnly_of ?_, ?_⟩
        · exact (slab_rewriteSlab ..).trans (if_pos rfl)
        · exact (slab_rewriteSlab ..).trans ((if_neg hk.symm).trans ((rackAt_slab ..).trans (rackAt_slab ..)))
        · exact (rackAt_rackMap ..).trans (by rw [rackAt_rackMap])
        all_goals
          rw [rackAt_eq s, rackAt_eq]
          rfl

/-- Settles O5: each handler's checks one behind the other; a record moved, amended or retired is read back from the
tables it was written to. -/
theorem moveAmendAndRetireSlab : Obligations.MoveAmendAndRetireSlab := by
  refine ⟨move_clause, fun s echo tag length width cost n r hs hn => ?_, fun s echo tag reason n r hs hn => ?_⟩
  · have hh := amendSlab_named hn length width cost
    refine ⟨fun hbad => ?_, fun hl hw hc => ⟨fun hst => ?_, fun hav => ?_⟩⟩
    · exact exec_refuse hs rfl rfl (hh.trans (if_pos (by unfold lengthOk widthOk costOk; omega)))
    · rw [if_neg (by simp only [not_not]; exact ⟨hl, hw, hc⟩), if_pos hst] at hh
      exact exec_refuse hs rfl rfl hh
    · rw [if_neg (by simp only [not_not]; exact ⟨hl, hw, hc⟩), if_neg (by simpa using hav)] at hh
      obtain ⟨a, ha⟩ : ∃ a, a = { r with length := length, width := width, cost := cost, interrupted := false } :=
        ⟨_, rfl⟩
      rw [← ha] at hh
      have hr : s.slab n = some r := hn.2.2.1
      refine ⟨_, a, exec_done hs rfl rfl hh, ha, ?_⟩
      rw [← block_statedFields]
      split
      · next e =>
        exact ⟨e ▸ hr, fun _ _ => rfl, enqueuedOnly_of rfl, rfl⟩
      · exact ⟨(slab_rewriteSlab ..).trans (if_pos rfl), fun k hk => (slab_rewriteSlab ..).trans (if_neg hk.symm),
          enqueuedOnly_of rfl, rfl⟩
  · have hh := retireSlab_named hn reason
    refine ⟨fun hbad => ?_, fun hle hst => ?_, fun hle hav => ?_⟩
    · exact exec_refuse hs rfl rfl (hh.trans (if_pos hbad))
    · rw [if_neg (by omega), if_pos hst] at hh
      exact exec_refuse hs rfl rfl hh
    · rw [if_neg (by omega), if_neg (by simpa using hav)] at hh
      have ho : (if reason = 1 then s.overhead.bookMaterial r.cost else s.overhead) = (if reason = 1 then
          { s.overhead with
            materialTotal := min 999999999 (s.overhead.materialTotal + r.cost)
            saturated := s.overhead.saturated || decide (999999999 < s.overhead.materialTotal + r.cost) }
        else s.overhead) := rfl
      rw [retireBooking_eq] at hh
      generalize (if reason = 1 then s.overhead.bookMaterial r.cost else s.overhead) = o at hh ho
      refine ⟨_, exec_done hs rfl rfl hh, (slab_retireSlab ..).trans (if_pos rfl),
        fun k hk => (slab_retireSlab ..).trans (if_neg hk.symm), fun p => rackAt_rackMap .., ?_, enqueuedOnly_of ?_, ?_⟩
      · rw [State.retireSlab, rackAt_eq]
        exact ho
      · rw [State.retireSlab, rackAt_eq]
        change queueWith ((if o = s.overhead then [] else [overheadPage]).foldl queueWith s.retention.queue)
          (slabPage n)
          = (if o = s.overhead then [slabPage n] else [overheadPage, slabPage n]).foldl queueWith s.retention.queue
        split <;> rfl
      · rw [State.retireSlab, rackAt_eq]
        rfl

end Moves

end Sys2Proof.Machine

namespace Sys2Proof.Machine

/-! ### SET_MATERIAL and CLEAR_MATERIAL (R2, R3) -/

section Materials

theorem material_setMaterial (s : State) (c d : Fin 32) (m : Option Material) :
    (s.setMaterial c m).material d = if c = d then m else s.material d := slot_put ..

/-- A field that may be absent, clamped where it is not. -/
theorem optional_getD (absent v lo hi d : Nat) : (match optional absent v with
    | some x => clamp lo hi x
    | none => d) = if v = absent then d else clamp lo hi v := by
  unfold optional
  split_ifs <;> rfl

/-- The entry stored, field by field (R2). -/
theorem materialSet_eq (old : Option Material)
    (veined density baseFeed minFeed hardness minRemLength minRemWidth valueFactor : Nat) :
    materialSet old veined density baseFeed minFeed hardness minRemLength minRemWidth valueFactor
      = { density := max 200 (min 400 density)
          hardness := if hardness = 0 then (old.map (·.hardness)).getD 16 else max 1 (min 32 hardness)
          veined := decide (veined ≠ 0)
          minRemLength := if minRemLength = 0 then (old.map (·.minRemLength)).getD 3000
            else max 1000 (min 40000 minRemLength)
          minRemWidth := if minRemWidth = 0 then (old.map (·.minRemWidth)).getD 3000
            else max 1000 (min 24000 minRemWidth)
          valueFactor := if valueFactor = 65535 then (old.map (·.valueFactor)).getD 192 else min 256 valueFactor
          baseFeed := max 100 (min 4000 baseFeed)
          minFeed := max 50 (min (max 100 (min 4000 baseFeed)) minFeed) } := by
  have h := optional_getD 65535 valueFactor 0 256 ((old.map (·.valueFactor)).getD 192)
  rw [clamp, Nat.zero_max] at h
  rw [materialSet, Material.mk.injEq]
  exact ⟨rfl, optional_getD .., rfl, optional_getD .., optional_getD .., h, rfl, rfl⟩

/-- A code some live record names is in use (R3). -/
theorem materialInUse_iff (s : State) (c : Fin 32) :
    s.materialInUse c = true ↔ ∃ k r, s.slab k = some r ∧ r.material = c := by
  rw [State.materialInUse, Vector.any_eq_true]
  constructor
  · rintro ⟨i, hi, h⟩
    obtain ⟨r, hr, e⟩ := (Option.any_eq_true ..).mp h
    exact ⟨⟨i, hi⟩, r, hr, by simpa using e⟩
  · rintro ⟨k, r, hr, e⟩
    refine ⟨k.val, k.isLt, ?_⟩
    rw [show s.stock.slabs[k.val] = some r from hr]
    simpa using e

/-- Settles O6: the entry is computed field by field; the page goes with a change of the entry. -/
theorem materialEntriesAreSetAndCleared : Obligations.MaterialEntriesAreSetAndCleared := by
  constructor
  · intro s echo c veined density baseFeed minFeed hardness minRemLength minRemWidth valueFactor hs
    obtain ⟨m, hm⟩ : ∃ m, m = materialSet (s.material c) veined density baseFeed minFeed hardness minRemLength
      minRemWidth valueFactor := ⟨_, rfl⟩
    have hh : setMaterial c.val veined density baseFeed minFeed hardness minRemLength minRemWidth valueFactor s
        = done (if s.material c = some m then s else (s.setMaterial c (some m)).enqueue (materialPage c)) m.block := by
      rw [setMaterial, index?_val]
      dsimp only
      rw [← hm]
    refine ⟨_, m, exec_done hs rfl rfl hh, hm.trans (materialSet_eq ..), ?_⟩
    split
    · next e => exact ⟨e, fun _ _ => rfl, enqueuedOnly_of rfl, rfl⟩
    · exact ⟨(material_setMaterial ..).trans (if_pos rfl), fun d hd => (material_setMaterial ..).trans (if_neg hd.symm),
        enqueuedOnly_of rfl, rfl⟩
  · intro s echo c hs
    have hh : clearMaterial c.val s = if (s.material c).isNone then refuse .noSuch
        else if s.materialInUse c then refuse .inUse
        else done ((s.setMaterial c none).enqueue (materialPage c)) [] := by rw [clearMaterial, index?_val]
    refine ⟨fun hno => ?_, fun hsome huse => ?_, fun hsome huse => ?_⟩
    · exact exec_refuse hs rfl rfl (hh.trans (if_pos (by rw [hno]; rfl)))
    · rw [if_neg (by simpa using hsome), if_pos ((materialInUse_iff s c).mpr huse)] at hh
      exact exec_refuse hs rfl rfl hh
    · rw [if_neg (by simpa using hsome), if_neg] at hh
      · exact ⟨_, exec_done hs rfl rfl hh, (material_setMaterial ..).trans (if_pos rfl),
          fun d hd => (material_setMaterial ..).trans (if_neg hd.symm), enqueuedOnly_of rfl, rfl⟩
      · rw [materialInUse_iff]
        rintro ⟨k, r, hr, e⟩
        exact huse k r hr e

end Materials

end Sys2Proof.Machine

namespace Sys2Proof.Machine

/-! ### OPEN_PLAN (R18, R30) -/

section Open

variable {s : State} {tag kerf : Nat} {n : Fin 512} {r : Slab} {k : Fin 12}

theorem holdCheck_named (h : s.tagNames tag n r) : s.holdCheck tag
    = if r.state ≠ .available then refuse .wrongState
      else if r.interrupted then refuse .wrongState
      else if (s.material r.material).isNone then refuse .badValue
      else .ok (n, r) := by
  rw [State.holdCheck, tagCheck_names h]

theorem holdCheck_refused {code : ReplyCode} (h : s.tagCheck tag = refuse code) : s.holdCheck tag = refuse code := by
  rw [State.holdCheck, h]
  rfl

theorem lowest_plan (h1 : s.plan k = none) (h2 : ∀ j, j < k → s.plan j ≠ none) :
    lowest s.plans (fun p => p.isNone) = some k := by
  refine lowest_iff.mpr ⟨by rw [show slot s.plans k = none from h1]; rfl, fun j hj => ?_⟩
  rw [Option.isNone_eq_false_iff, Option.isSome_iff_ne_none]
  exact h2 j hj

theorem openPlan_full (hk : 20 ≤ kerf ∧ kerf ≤ 80) (h : lowest s.plans (fun p => p.isNone) = none) :
    openPlan tag kerf s = refuse .full := by
  rw [openPlan, if_neg (not_not.mpr hk), h]

theorem openPlan_refused {code : ReplyCode} (hk : 20 ≤ kerf ∧ kerf ≤ 80)
    (h : lowest s.plans (fun p => p.isNone) = some k) (hc : s.holdCheck tag = refuse code) :
    openPlan tag kerf s = refuse code := by
  rw [openPlan, if_neg (not_not.mpr hk), h]
  dsimp only
  rw [hc]
  rfl

theorem openPlan_held (hk : 20 ≤ kerf ∧ kerf ≤ 80) (h : lowest s.plans (fun p => p.isNone) = some k)
    (hc : s.holdCheck tag = .ok (n, r)) : openPlan tag kerf s
      = done ((s.holdSlab n r k).setPlan k (some (Plan.new tag kerf r.length r.width)))
        (leFields [(1, k.val), (2, r.length), (2, r.width), (2, r.thickness), (1, r.material.val)]) := by
  rw [openPlan, if_neg (not_not.mpr hk), h]
  dsimp only
  rw [hc]

/-- The pieces of a plan just opened: the whole slab, and 63 unused. -/
theorem pieces_new (tag kerf length width : Nat) : (Plan.new tag kerf length width).pieces
    = Vector.ofFn fun i : Fin 64 => if i.val = 0 then
        .leaf { x := 0, y := 0, length := length, width := width } none none else .unused := by
  refine Vector.ext fun j hj => ?_
  have h := slot_put (Vector.replicate 64 Piece.unused) 0 ⟨j, hj⟩
    (.leaf { x := 0, y := 0, length := length, width := width } none none)
  rw [slot_replicate] at h
  rw [Vector.getElem_ofFn]
  refine h.trans ?_
  by_cases h0 : j = 0
  · subst h0; rfl
  · rw [if_neg (fun e => h0 (congrArg Fin.val e).symm), if_neg h0]

/-- Settles O7: the checks of OPEN_PLAN one behind the other, then the hold and the plan just opened. -/
theorem openPlanTakesLowestSlotAndHoldsSlab : Obligations.OpenPlanTakesLowestSlotAndHoldsSlab := by
  constructor
  · intro s echo tag kerf k n r m hs hk1 hk2 hk hlow hn hav hint hm
    have hc : s.holdCheck tag = .ok (n, r) := by
      rw [holdCheck_named hn, if_neg (not_not.mpr hav), hint, if_neg (by decide), hm]
      rfl
    refine ⟨_, exec_done hs rfl rfl (openPlan_held ⟨hk1, hk2⟩ (lowest_plan hk hlow) hc), ?_, fun j hj => ?_, ?_,
      fun j hj => ?_, enqueuedOnly_of rfl, rfl⟩
    · rw [← pieces_new tag kerf]
      exact (plan_setPlan ..).trans (if_pos rfl)
    · exact (plan_setPlan ..).trans (if_neg hj.symm)
    · exact (slab_rewriteSlab s n n _).trans (if_pos rfl)
    · exact (slab_rewriteSlab s n j _).trans (if_neg hj.symm)
  · intro s echo tag kerf code hs h
    refine exec_refuse hs rfl rfl ?_
    rcases h with ⟨hk, rfl⟩ | ⟨hk1, hk2, ⟨hfull, rfl⟩ | ⟨⟨k, hk⟩, h⟩⟩
    · exact if_pos (by omega)
    · refine openPlan_full ⟨hk1, hk2⟩ (lowest_none.mpr fun k => ?_)
      rw [Option.isNone_eq_false_iff, Option.isSome_iff_ne_none]
      exact hfull k
    · obtain ⟨j, hj⟩ : ∃ j, lowest s.plans (fun p => p.isNone) = some j := by
        rw [← Option.isSome_iff_exists, Option.isSome_iff_ne_none]
        intro hnone
        have := lowest_none.mp hnone k
        rw [show slot s.plans k = none from hk] at this
        cases this
      refine openPlan_refused ⟨hk1, hk2⟩ hj ?_
      rcases h with ⟨ht, rfl⟩ | ⟨h1, h2, hno, rfl⟩ | ⟨n, r, hn, ⟨hst, rfl⟩ | ⟨hav, hint, hm, rfl⟩⟩
      · exact holdCheck_refused (tagCheck_outOfRange ht)
      · exact holdCheck_refused (tagCheck_noSuch h1 h2 hno)
      · rw [holdCheck_named hn]
        rcases hst with hst | hint
        · exact if_pos hst
        · rw [if_pos hint, ite_self]
      · rw [holdCheck_named hn, if_neg (not_not.mpr hav), hint, if_neg (by decide), hm]
        rfl

end Open

end Sys2Proof.Machine

namespace Sys2Proof.Machine

/-! ### Job lines under a change of one line (R131, R153) -/

section JobLines

variable {s t : State} {a b : Nat} {k m : Fin 8} {f : JobLine → JobLine}

/-- A job record but for its lines. -/
def Job.bare (j : Job) : Job := { j with lines := Vector.replicate 8 none }

theorem job_setJob (s : State) (n m : Fin 96) (j : Option Job) :
    (s.setJob n j).job m = if n = m then j else s.job m := slot_put ..

theorem findJob_some {n : Fin 96} (h : s.findJob a = some n) : ∃ j, s.job n = some j ∧ j.number = a := by
  obtain ⟨hn, -⟩ := lowest_some h
  change (s.job n).any _ = true at hn
  obtain ⟨j, hj, e⟩ := (Option.any_eq_true ..).mp hn
  exact ⟨j, hj, by simpa using e⟩

/-- The lookup by number does not read the lines. -/
theorem findJob_congr (h : ∀ n, (t.job n).map Job.bare = (s.job n).map Job.bare) (a : Nat) :
    t.findJob a = s.findJob a := by
  have e (u : State) (n : Fin 96) : (slot u.jobs n).any (fun x => x.number == a)
      = ((u.job n).map Job.bare).any fun x => x.number == a := by
    rw [Option.any_map]; rfl
  have same : (fun n => (slot t.jobs n).any fun x => x.number == a)
      = fun n => (slot s.jobs n).any fun x => x.number == a := by
    funext n
    rw [e, e, h]
  exact congrArg (fun p => (List.finRange 96).find? p) same

theorem jobOf_none (h : s.findJob a = none) : s.jobOf a = none := by rw [State.jobOf, h]; rfl

theorem jobOf_eq {n : Fin 96} {j : Job} : s.jobOf a = some (n, j) ↔ s.findJob a = some n ∧ s.job n = some j := by
  simp only [State.jobOf, Option.bind_eq_some_iff, Option.map_eq_some_iff, Prod.mk.injEq]
  constructor
  · rintro ⟨n', hn, j', hj, rfl, rfl⟩; exact ⟨hn, hj⟩
  · rintro ⟨hn, hj⟩; exact ⟨n, hn, j, hj, rfl, rfl⟩

theorem jobLine_of_jobOf {n : Fin 96} {j : Job} (h : s.jobOf a = some (n, j)) (k : Fin 8) :
    s.jobLine a k = slot j.lines k := by rw [State.jobLine, h]; rfl

theorem jobLine_none (h : s.jobOf a = none) (k : Fin 8) : s.jobLine a k = none := by rw [State.jobLine, h]; rfl

/-- A change of one line either finds no line and changes nothing, or changes that line of one record. -/
theorem updateJobLine_cases (s : State) (a : Nat) (k : Fin 8) (f : JobLine → JobLine) :
    (s.jobLine a k = none ∧ s.updateJobLine a k f = s)
    ∨ ∃ n j x, s.jobOf a = some (n, j) ∧ slot j.lines k = some x
      ∧ s.updateJobLine a k f = (s.setJob n (some (j.setLine k (some (f x))))).enqueue (jobPage n) := by
  unfold State.updateJobLine
  split
  · next h => exact .inl ⟨jobLine_none h k, rfl⟩
  · next n j h =>
    split
    · next hx => exact .inl ⟨(jobLine_of_jobOf h k).trans hx, rfl⟩
    · next x hx => exact .inr ⟨n, j, x, h, hx, rfl⟩

theorem job_updateJobLine_bare (s : State) (a : Nat) (k : Fin 8) (f : JobLine → JobLine) (n : Fin 96) :
    ((s.updateJobLine a k f).job n).map Job.bare = (s.job n).map Job.bare := by
  obtain ⟨-, e⟩ | ⟨n', j, x, hj, -, e⟩ := updateJobLine_cases s a k f
  · rw [e]
  · rw [e]
    change ((s.setJob n' _).job n).map Job.bare = _
    rw [job_setJob]
    split
    · next h => subst h; rw [(jobOf_eq.mp hj).2]; rfl
    · rfl

/-- The lines behind a change of one. -/
theorem jobLine_updateJobLine (s : State) (a b : Nat) (k m : Fin 8) (f : JobLine → JobLine) :
    (s.updateJobLine a k f).jobLine b m = if a = b ∧ k = m then (s.jobLine b m).map f else s.jobLine b m := by
  obtain ⟨hnone, e⟩ | ⟨n, j, x, hj, hx, e⟩ := updateJobLine_cases s a k f
  · rw [e]
    split
    · next h => obtain ⟨rfl, rfl⟩ := h; rw [hnone]; rfl
    · rfl
  · have hfind := findJob_congr (job_updateJobLine_bare s a k f) b
    obtain ⟨hja, hjn⟩ := jobOf_eq.mp hj
    have hjob (i : Fin 96) : (s.updateJobLine a k f).job i
        = if n = i then some (j.setLine k (some (f x))) else s.job i := by rw [e]; exact job_setJob ..
    cases hb : s.findJob b with
    | none =>
      rw [jobLine_none (jobOf_none (hfind.trans hb)), jobLine_none (jobOf_none hb)]
      exact (ite_self none).symm
    | some i =>
      obtain ⟨y, hy, hyb⟩ := findJob_some hb
      rw [jobLine_of_jobOf (jobOf_eq.mpr ⟨hb, hy⟩)]
      by_cases hni : n = i
      · subst hni
        rw [hjn] at hy; cases hy
        obtain ⟨z, hz, hza⟩ := findJob_some hja
        rw [hjn] at hz; cases hz
        have hab : a = b := hza.symm.trans hyb
        rw [jobLine_of_jobOf (jobOf_eq.mpr ⟨hfind.trans hb, (hjob n).trans (if_pos rfl)⟩), Job.setLine, slot_put]
        simp only [hab, true_and]
        split
        · next hkm => subst hkm; rw [hx]; rfl
        · rfl
      · rw [jobLine_of_jobOf (jobOf_eq.mpr ⟨hfind.trans hb, (hjob i).trans ((if_neg hni).trans hy)⟩), if_neg]
        rintro ⟨rfl, -⟩
        rw [hja] at hb; cases hb
        exact hni rfl

end JobLines

/-! ### The leaves of a plan and its pieces (R27) -/

section Leaves

variable {p : Plan}

/-- The leaf a piece is, if it is one. -/
def Piece.leaf? (x : Piece) (i : Fin 64) : Option Leaf :=
  match x with
  | .leaf r _ d => some { piece := i, rect := r, designation := d }
  | _ => none

theorem leaves_eq (p : Plan) : p.leaves = (List.finRange 64).filterMap fun i => (slot p.pieces i).leaf? i := by
  unfold Plan.leaves Piece.leaf?
  rfl

theorem leaf?_eq_some {x : Piece} {i : Fin 64} {l : Leaf} :
    x.leaf? i = some l ↔ ∃ o, x = .leaf l.rect o l.designation ∧ l.piece = i := by
  cases x with
  | unused => simp [Piece.leaf?]
  | split r o => simp [Piece.leaf?]
  | leaf r o d =>
    obtain ⟨j, r', d'⟩ := l
    simp only [Piece.leaf?, Option.some.injEq, Leaf.mk.injEq, Piece.leaf.injEq]
    constructor
    · rintro ⟨rfl, rfl, rfl⟩; exact ⟨o, ⟨rfl, rfl, rfl⟩, rfl⟩
    · rintro ⟨_, ⟨rfl, -, rfl⟩, rfl⟩; exact ⟨rfl, rfl, rfl⟩

theorem toList_eq_map {α : Type} {n : Nat} (v : Vector α n) : v.toList = (List.finRange n).map (slot v) := by
  refine List.ext_getElem (by simp) fun i h1 h2 => ?_
  simp [slot]

/-- Leaves counted by what their pieces say. -/
theorem countP_leaves {q : Leaf → Bool} {g : Piece → Bool} (hl : ∀ i r o d, g (.leaf r o d) = q ⟨i, r, d⟩)
    (hu : g .unused = false) (hs : ∀ r o, g (.split r o) = false) :
    p.leaves.countP q = p.pieces.toList.countP g := by
  rw [leaves_eq, List.countP_filterMap, toList_eq_map, List.countP_map]
  refine List.countP_congr fun i _ => ?_
  simp only [Function.comp]
  cases slot p.pieces i with
  | unused => simp [Piece.leaf?, hu]
  | leaf r o d => simp [Piece.leaf?, hl i]
  | split r o => simp [Piece.leaf?, hs]

/-- Figures of the leaves summed over the pieces. -/
theorem sum_leaves {w : Leaf → Nat} {g : Piece → Nat} (hl : ∀ i r o d, g (.leaf r o d) = w ⟨i, r, d⟩)
    (hu : g .unused = 0) (hs : ∀ r o, g (.split r o) = 0) :
    (p.leaves.map w).sum = (p.pieces.toList.map g).sum := by
  rw [leaves_eq, toList_eq_map, List.map_map]
  induction List.finRange 64 with
  | nil => rfl
  | cons i is ih =>
    rw [List.map_cons, List.sum_cons, List.filterMap_cons, Function.comp_apply]
    cases slot p.pieces i with
    | unused => simpa [Piece.leaf?, hu] using ih
    | leaf r o d => simpa [Piece.leaf?, hl i] using ih
    | split r o => simpa [Piece.leaf?, hs] using ih

theorem areaOf_eq (ls : List Leaf) (q : Leaf → Bool) :
    areaOf ls q = (ls.map fun l => if q l then l.rect.area else 0).sum := by
  unfold areaOf
  induction ls with
  | nil => rfl
  | cons l ls ih =>
    rw [List.filter_cons, List.map_cons, List.sum_cons]
    split
    · rw [List.map_cons, List.sum_cons, ih]
    · rw [ih, Nat.zero_add]

/-- The areas of the leaves that pass a test on their designation (R40). -/
theorem areaOf_leaves {q : Leaf → Bool} {test : Option Designation → Bool} (h : ∀ i r d, q ⟨i, r, d⟩ = test d) :
    areaOf p.leaves q = p.sumOfLeaves test := by
  rw [areaOf_eq, Plan.sumOfLeaves]
  exact sum_leaves (fun i r o d => by rw [h]; rfl) rfl fun _ _ => rfl

theorem find?_leaves_some {q : Leaf → Bool} {i : Fin 64} {r : Rect} {o : Option Origin} {d : Option Designation}
    (h : slot p.pieces i = .leaf r o d) (hq : q ⟨i, r, d⟩ = true)
    (hlow : ∀ j r o d, j < i → slot p.pieces j = .leaf r o d → q ⟨j, r, d⟩ = false) :
    p.leaves.find? q = some ⟨i, r, d⟩ := by
  have hi : (slot p.pieces i).leaf? i = some ⟨i, r, d⟩ := leaf?_eq_some.mpr ⟨o, h, rfl⟩
  rw [leaves_eq, List.find?_filterMap, find?_finRange.mpr ⟨?_, fun j hj => ?_⟩]
  · exact hi
  · rw [hi]; exact hq
  · rw [Option.any_eq_false]
    intro l hl
    obtain ⟨o', hx, rfl⟩ := leaf?_eq_some.mp hl
    exact hlow _ _ _ _ hj hx

theorem find?_leaves_none {q : Leaf → Bool} (h : ∀ j r o d, slot p.pieces j = .leaf r o d → q ⟨j, r, d⟩ = false) :
    p.leaves.find? q = none := by
  rw [List.find?_eq_none]
  intro l hl
  rw [leaves_eq, List.mem_filterMap] at hl
  obtain ⟨i, -, hi⟩ := hl
  obtain ⟨o, hx, rfl⟩ := leaf?_eq_some.mp hi
  rw [Bool.not_eq_true]
  exact h _ _ _ _ hx

end Leaves

/-! ### PART designations released (R33, R43, R44) -/

section Released

variable {s t : State}

theorem job_releaseDesignation_bare (s : State) (d : Option Designation) (n : Fin 96) :
    ((s.releaseDesignation d).job n).map Job.bare = (s.job n).map Job.bare := by
  unfold State.releaseDesignation
  split
  · exact job_updateJobLine_bare ..
  · rfl

theorem job_releaseParts_bare (s : State) (p : Plan) (n : Fin 96) :
    ((s.releaseParts p).job n).map Job.bare = (s.job n).map Job.bare := by
  unfold State.releaseParts
  induction p.leaves generalizing s with
  | nil => rfl
  | cons l ls ih => exact (ih _).trans (job_releaseDesignation_bare ..)

/-- One leaf released: its line loses one, the others stand. -/
theorem jobLine_releaseDesignation (s : State) (d : Option Designation) (a : Nat) (k : Fin 8) :
    (s.releaseDesignation d).jobLine a k = (s.jobLine a k).map fun y =>
      { y with designated := y.designated - if d = some (.part a k) then 1 else 0 } := by
  unfold State.releaseDesignation
  split
  · next b m =>
    rw [jobLine_updateJobLine]
    by_cases h : b = a ∧ m = k
    · obtain ⟨rfl, rfl⟩ := h
      simp only [and_self, if_true]
      rfl
    · rw [if_neg h, if_neg (by simpa using h)]
      simp
  · next hd =>
    rw [if_neg (fun e => hd a k e)]
    simp

theorem jobLine_releaseParts (s : State) (p : Plan) (a : Nat) (k : Fin 8) :
    (s.releaseParts p).jobLine a k = (s.jobLine a k).map fun y =>
      { y with designated := y.designated - p.partsOf a k } := by
  have count : p.leaves.countP (fun l => decide (l.designation = some (.part a k))) = p.partsOf a k :=
    countP_leaves (fun _ _ _ _ => rfl) rfl fun _ _ => rfl
  rw [← count]
  unfold State.releaseParts
  induction p.leaves generalizing s with
  | nil => simp
  | cons l ls ih =>
    rw [List.foldl_cons, ih, jobLine_releaseDesignation, Option.map_map, List.countP_cons]
    congr 1
    funext y
    simp only [Function.comp, decide_eq_true_eq, JobLine.mk.injEq, and_true, true_and]
    omega

end Released

end Sys2Proof.Machine

namespace Sys2Proof.Machine

/-! ### LOCK_PLAN, UNLOCK_PLAN and DROP_PLAN (R37 to R43) -/

section Lock

variable {s : State} {k : Fin 12} {p : Plan} {n : Fin 512} {x : Slab} {m : Material}

/-- How many REMNANT leaves a plan has (R39). -/
def Plan.remnantCount (p : Plan) : Nat :=
  p.pieces.toList.countP fun
    | .leaf _ _ (some .remnant) => true
    | _ => false

theorem countP_isRemnant (p : Plan) : p.leaves.countP Leaf.isRemnant = p.remnantCount :=
  countP_leaves (fun _ _ _ d => by cases d with
    | none => rfl
    | some d => cases d <;> rfl) rfl fun _ _ => rfl

theorem planMaterial_eq (hx : s.slabOf p.slabTag = some (n, x)) (hm : s.material x.material = some m) :
    s.planMaterial p = some (x.material, m) := by rw [State.planMaterial, hx, Option.bind_some, hm]; rfl

theorem remnantFits_iff (m : Material) (r : Rect) : remnantFits m r = true
    ↔ (m.minRemLength ≤ r.length ∧ m.minRemWidth ≤ r.width)
      ∨ (m.veined = false ∧ m.minRemLength ≤ r.width ∧ m.minRemWidth ≤ r.length) := by
  simp [remnantFits]

/-- The yield figures from the pieces (R40). -/
theorem computeYield_eq {y : Yield} {a : Nat} (ha : a = p.slabArea) (h1 : y.parts = p.sumOfLeaves (fun
      | some (.part _ _) => true
      | _ => false)) (h2 : y.remnant = p.sumOfLeaves (fun d => decide (d = some .remnant)))
    (h3 : y.scrap = p.sumOfLeaves (fun d => decide (d = some .scrap)))
    (h4 : y.kerf = a - p.sumOfLeaves (fun _ => true)) (h5 : y.perMille = 1000 * y.parts / a) : p.computeYield = y := by
  have e1 : areaOf p.leaves (fun l => l.part?.isSome) = y.parts := by
    rw [h1]
    refine areaOf_leaves fun _ _ d => ?_
    cases d with
    | none => rfl
    | some d => cases d <;> rfl
  have e2 : areaOf p.leaves Leaf.isRemnant = y.remnant := h2 ▸ areaOf_leaves fun _ _ _ => rfl
  have e3 : areaOf p.leaves Leaf.isScrap = y.scrap := h3 ▸ areaOf_leaves fun _ _ _ => rfl
  have e4 : areaOf p.leaves (fun _ => true) = p.sumOfLeaves fun _ => true := areaOf_leaves fun _ _ _ => rfl
  rw [Plan.computeYield, e1, e2, e3, e4, ← ha, ← h4, ← h5]

theorem planCheck_opened (hk : s.plan k = some p) (ho : p.state = .opened) :
    s.planCheck k.val PlanState.isOpened = .ok (k, p) := by
  rw [planCheck_takes hk, if_pos (isOpened_iff.mpr ho)]

/-! The answers of LOCK_PLAN, one check behind the other. -/

theorem lockPlan_uncut (hk : s.plan k = some p) (ho : p.state = .opened) (hc : p.cuts = []) :
    lockPlan k.val s = refuse .wrongState := by
  rw [lockPlan, planCheck_opened hk ho]
  dsimp only
  rw [if_pos (by rw [hc]; rfl)]

theorem lockPlan_undesignated (hk : s.plan k = some p) (ho : p.state = .opened) (hc : p.cuts ≠ []) {l : Leaf}
    (hl : p.leaves.find? (fun l => l.designation.isNone) = some l) :
    lockPlan k.val s = .error { code := .undesignated, fields := leBytes 1 l.piece.val } := by
  rw [lockPlan, planCheck_opened hk ho]
  dsimp only
  rw [if_neg (by simpa using hc), hl]

theorem lockPlan_tooSmall (hk : s.plan k = some p) (ho : p.state = .opened) (hc : p.cuts ≠ [])
    (hd : p.leaves.find? (fun l => l.designation.isNone) = none) (hm : s.planMaterial p = some (x.material, m))
    {l : Leaf} (hl : p.leaves.find? (fun l => l.isRemnant && !remnantFits m l.rect) = some l) :
    lockPlan k.val s = .error { code := .tooSmall, fields := leBytes 1 l.piece.val } := by
  rw [lockPlan, planCheck_opened hk ho]
  dsimp only
  rw [if_neg (by simpa using hc), hd, hm]
  dsimp only
  rw [hl]

theorem lockPlan_fits (hk : s.plan k = some p) (ho : p.state = .opened) (hc : p.cuts ≠ [])
    (hd : p.leaves.find? (fun l => l.designation.isNone) = none) (hm : s.planMaterial p = some (x.material, m))
    (hl : p.leaves.find? (fun l => l.isRemnant && !remnantFits m l.rect) = none) :
    lockPlan k.val s = if 512 < s.liveSlabs + s.stock.reserved + p.remnantCount then refuse .noRoom
      else done ((s.setReserved (s.stock.reserved + p.remnantCount)).setPlan k (some
          { p with
            state := .locked
            snapshot := some { code := x.material, entry := m }
            reservedRemnants := p.remnantCount
            yields := some p.computeYield
            passCount := some 1
            remainingTravel := some p.totalTravel }))
        (leFields (yieldFields (some p.computeYield) ++ [(1, p.remnantCount), (3, p.totalTravel)])) := by
  rw [lockPlan, planCheck_opened hk ho]
  dsimp only
  rw [if_neg (by simpa using hc), hd, hm]
  dsimp only
  rw [hl, countP_isRemnant]

theorem designated_find? (h : ∀ i r o, slot p.pieces i ≠ .leaf r o none) :
    p.leaves.find? (fun l => l.designation.isNone) = none :=
  find?_leaves_none fun j r o d hj => by
    cases d with
    | none => exact absurd hj (h j r o)
    | some d => rfl

/-- A REMNANT leaf, and no other, may be too small (R37). -/
theorem tooSmall_iff (l : Leaf) : (l.isRemnant && !remnantFits m l.rect) = true
    ↔ l.designation = some .remnant ∧ ¬remnantFits m l.rect = true := by
  simp [Leaf.isRemnant]

theorem fits_find? (h : ∀ i r o, slot p.pieces i = .leaf r o (some .remnant) → remnantFits m r = true) :
    p.leaves.find? (fun l => l.isRemnant && !remnantFits m l.rect) = none :=
  find?_leaves_none fun j r o d hj => by
    rw [← Bool.not_eq_true, tooSmall_iff]
    rintro ⟨rfl, hno⟩
    exact hno (h j r o hj)

theorem lock_refusals (s : State) (echo : Byte) (k : Fin 12) (p : Plan) (n : Fin 512) (x : Slab) (m : Material)
    (small : Rect → Prop) (hs : s.serving (.lockPlan echo k.val)) (hk : s.plan k = some p) (ho : p.state = .opened) :
    (p.cuts = [] → exec (.lockPlan echo k.val) s = .next { s with port := s.port.replied echo .wrongState [] })
    ∧ (p.cuts ≠ [] →
      (∀ i r o, slot p.pieces i = .leaf r o none → (∀ j y z, j < i → slot p.pieces j ≠ .leaf y z none) →
        exec (.lockPlan echo k.val) s
          = .next { s with port := s.port.replied echo .undesignated (leFields [(1, i.val)]) })
      ∧ ((∀ i r o, slot p.pieces i ≠ .leaf r o none) → s.slabOf p.slabTag = some (n, x) →
        s.material x.material = some m →
        (∀ r, small r ↔ ¬(m.minRemLength ≤ r.length ∧ m.minRemWidth ≤ r.width)
          ∧ ¬(m.veined = false ∧ m.minRemLength ≤ r.width ∧ m.minRemWidth ≤ r.length)) →
        (∀ i r o, slot p.pieces i = .leaf r o (some .remnant) → small r →
          (∀ j y z, j < i → slot p.pieces j = .leaf y z (some .remnant) → ¬ small y) →
          exec (.lockPlan echo k.val) s
            = .next { s with port := s.port.replied echo .tooSmall (leFields [(1, i.val)]) })
        ∧ ((∀ i r o, slot p.pieces i = .leaf r o (some .remnant) → ¬ small r) →
          512 < s.liveSlabs + s.stock.reserved + p.pieces.toList.countP (fun
            | .leaf _ _ (some .remnant) => true
            | _ => false) →
          exec (.lockPlan echo k.val) s = .next { s with port := s.port.replied echo .noRoom [] }))) := by
  refine ⟨fun hc => exec_refuse hs rfl rfl (lockPlan_uncut hk ho hc),
    fun hc => ⟨fun i r o hi hlow => ?_, fun hd hx hm hsmall => ?_⟩⟩
  · have hfind := find?_leaves_some (q := fun l => l.designation.isNone) hi rfl fun j r o d hj hx => by
      cases d with
      | none => exact absurd hx (hlow j r o hj)
      | some d => rfl
    rw [leFields_single]
    exact exec_error hs rfl rfl (lockPlan_undesignated hk ho hc hfind)
  · have hsmall' (r : Rect) : ¬small r ↔ remnantFits m r = true := by
      rw [hsmall, ← not_or, not_not, remnantFits_iff]
    have hmat := planMaterial_eq hx hm
    refine ⟨fun i r o hi hr hlow => ?_, fun hfit hroom => ?_⟩
    · have hfind := find?_leaves_some (q := fun l => l.isRemnant && !remnantFits m l.rect) hi
        ((tooSmall_iff _).mpr ⟨rfl, fun hf => (hsmall' r).mpr hf hr⟩) fun j r o d hj hx => by
          rw [← Bool.not_eq_true, tooSmall_iff]
          rintro ⟨rfl, hno⟩
          exact hno ((hsmall' r).mp (hlow j r o hj hx))
      rw [leFields_single]
      exact exec_error hs rfl rfl (lockPlan_tooSmall hk ho hc (designated_find? hd) hmat hfind)
    · have hh := lockPlan_fits hk ho hc (designated_find? hd) hmat
        (fits_find? fun i r o hi => (hsmall' r).mp (hfit i r o hi))
      have hroom : 512 < s.liveSlabs + s.stock.reserved + p.remnantCount := hroom
      rw [if_pos hroom] at hh
      exact exec_refuse hs rfl rfl hh

/-! UNLOCK_PLAN and DROP_PLAN -/

theorem unlockPlan_locked (hk : s.plan k = some p) (hl : p.state = .locked) : unlockPlan k.val s
    = done ((s.giveBack p).setPlan k (some
        { p with
          state := .opened
          reservedRemnants := 0
          snapshot := none
          yields := none
          remainingTravel := none
          passCount := none })) [] := by
  rw [unlockPlan, planCheck_takes hk, if_pos (isLocked_iff.mpr hl)]

theorem dropPlan_free (hk : s.plan k = some p) (hb : p.state ≠ .bound) : dropPlan k.val s
    = done ((((s.releaseParts p).giveBack p).releaseSlab p.slabTag).setPlan k none) (leBytes 3 p.slabTag) := by
  rw [dropPlan, planCheck_takes hk, if_pos (by simpa [PlanState.isBound] using hb)]

theorem slabOf_congr {t : State} (h : t.stock.slabs = s.stock.slabs) (tag : Nat) : t.slabOf tag = s.slabOf tag := by
  unfold State.slabOf State.findTag State.slab
  rw [h]

theorem updateJobLine_overhead (s : State) (a : Nat) (b : Fin 8) (f : JobLine → JobLine) :
    (s.updateJobLine a b f).overhead = s.overhead := by
  obtain ⟨-, e⟩ | ⟨_, _, _, -, -, e⟩ := updateJobLine_cases s a b f
  · rw [e]
  · rw [e]; rfl

theorem releaseParts_overhead (s : State) (p : Plan) : (s.releaseParts p).overhead = s.overhead := by
  unfold State.releaseParts
  induction p.leaves generalizing s with
  | nil => rfl
  | cons l ls ih =>
    refine (ih _).trans ?_
    unfold State.releaseDesignation
    dsimp only
    split
    · exact updateJobLine_overhead ..
    · rfl

/-- A slab let go by its tag, the record and the page (R20). -/
theorem releaseSlab_found {tag : Nat} (h : s.slabOf tag = some (n, x)) :
    s.releaseSlab tag = s.rewriteSlab n { x with state := .available, holder := none } := by
  unfold State.releaseSlab
  split
  · next h' => rw [h] at h'; cases h'
  · next h' => rw [h] at h'; cases h'; rfl

/-- Settles O11: the checks of LOCK_PLAN one behind the other over the leaves in piece order; the lines a DROP_PLAN
releases, leaf by leaf. -/
theorem plansAreLockedUnlockedAndDropped : Obligations.PlansAreLockedUnlockedAndDropped := by
  refine ⟨?_, lock_refusals, ?_, ?_⟩
  case refine_1 =>
    intro s echo k p n x m a y remnants hs hk ho hc hd hx hm hfit hrem hroom ha h1 h2 h3 h4 h5
    have hh := lockPlan_fits hk ho hc (designated_find? hd) (planMaterial_eq hx hm)
      (fits_find? fun i r o hi => (remnantFits_iff m r).mpr (hfit i r o hi))
    rw [show p.remnantCount = remnants from hrem.symm, if_neg (by omega),
      computeYield_eq ha h1 h2 h3 h4 h5] at hh
    exact exec_done hs rfl rfl hh
  case refine_2 =>
    intro s echo k p hs hk hl
    exact exec_done hs rfl rfl (unlockPlan_locked hk hl)
  case refine_3 =>
    intro s echo k p n x hs hk hb hn
    have booked := booked_releaseParts s p
    have hfound : ((s.releaseParts p).giveBack p).slabOf p.slabTag = some (n, x) :=
      (slabOf_congr (congrArg Stock.slabs booked.stock) _).trans (slabOf_names hn)
    have hh := dropPlan_free hk hb
    rw [releaseSlab_found hfound] at hh
    have hpre : s.retention.queue <+: (s.releaseParts p).retention.queue := booked.queue
    have heq : s.releaseParts p = { s with
        jobs := (s.releaseParts p).jobs
        retention := { s.retention with queue := (s.releaseParts p).retention.queue } } := by
      have := booked.eq
      rw [releaseParts_overhead] at this
      exact this
    have hjl := jobLine_releaseParts s p
    have hjb := job_releaseParts_bare s p
    generalize s.releaseParts p = b at hh hpre heq hjl hjb
    refine ⟨_, exec_done hs rfl rfl hh, (plan_setPlan ..).trans (if_pos rfl), fun j hj => ?_, ?_, fun j hj => ?_, ?_,
      hjl, hjb, ?_, ?_, ?_⟩
    · refine (plan_setPlan ..).trans ((if_neg hj.symm).trans ?_)
      rw [heq]; rfl
    · exact (slab_rewriteSlab ..).trans (if_pos rfl)
    · refine (slab_rewriteSlab ..).trans ((if_neg hj.symm).trans ?_)
      rw [heq]; rfl
    · rw [heq]; rfl
    · exact mem_queueWith.mpr (.inr rfl)
    · exact hpre.trans (queueWith_prefix ..)
    · rw [heq, leFields_single]; rfl

end Lock

end Sys2Proof.Machine

namespace Sys2Proof.Machine

/-! ### ABANDON_PLAN (R44, R97, R151, R152) -/

section Abandon

variable {s : State} {k : Fin 12} {p : Plan} {i : Fin 4} {n : Fin 512} {x : Slab}

/-- A station that is not wet keeps its supply valve as a plan leaves it (R69, R96, R97). -/
theorem unbind_dry (h : (s.station i).state.wet = false) : s.unbind i
    = { s with
        stations := put s.stations i (s.station i).unbound
        lines := put s.lines (s.stationLine i)
          { s.line (s.stationLine i) with
            queue := (s.line (s.stationLine i)).queue.filter (fun f => !f.message.withdrawable) } } := by
  obtain ⟨y, hy⟩ : ∃ y : Station, y = { (s.station i).stopTimers with
      plan := none, orderOutstanding := false, toggle := !(s.station i).toggle, loadedSinceStaging := false
      passesTaken := 0, progressCount := 0, condition := .none } := ⟨_, rfl⟩
  have hst : ((s.setStation i y).withdrawFrames i).station i = y := by
    rw [State.station]; exact slot_put_same ..
  have hwet : y.state.wet = StationState.wet .ready := by rw [hy]; exact h
  rw [State.unbind, ← hy, State.enterState]
  dsimp only
  rw [hst, if_pos hwet]
  have hu : ({ y with state := .ready } : Station) = (s.station i).unbound := by rw [hy]; rfl
  rw [hu]
  have hput := put_put_same s.stations i y (s.station i).unbound
  simp only [State.setStation, State.withdrawFrames, State.setLine, hput]
  rfl

/-- The account behind an abandon (R132 to R134, R151, R152). -/
theorem abandonBooked_overhead (hx : s.slabOf p.slabTag = some (n, x)) : (s.abandonBooked p).overhead
    = { materialTotal := if p.touched then min 999999999 (s.overhead.materialTotal + x.cost)
          else s.overhead.materialTotal
        processTotal := min 999999999 (s.overhead.processTotal + (s.overhead.carry + p.pool) / 1000)
        carry := (s.overhead.carry + p.pool) % 1000
        saturated := s.overhead.saturated
          || decide (999999999 < s.overhead.processTotal + (s.overhead.carry + p.pool) / 1000)
          || p.poolSaturated
          || (p.touched && decide (999999999 < s.overhead.materialTotal + x.cost)) } := by
  rw [State.abandonBooked, hx, releaseParts_overhead]
  have pool : (s.bookPool p).overhead = (s.overhead.bookProcess p.pool).markSaturated p.poolSaturated :=
    congrArg State.overhead (bookOverhead_eq ..)
  cases ht : p.touched with
  | true =>
    rw [if_pos rfl, bookOverhead_eq]
    dsimp only
    rw [pool]
    rfl
  | false =>
    rw [if_neg (by decide), pool, Bool.false_and, Bool.or_false]
    rfl

theorem jobLine_congr {t u : State} (h : u.jobs = t.jobs) (a : Nat) (b : Fin 8) : u.jobLine a b = t.jobLine a b := by
  unfold State.jobLine State.jobOf State.findJob State.job
  rw [h]

/-- The lines behind an abandon (R33, R44). -/
theorem abandonBooked_jobs (s : State) (p : Plan) :
    (∀ a b, (s.abandonBooked p).jobLine a b = (s.jobLine a b).map fun y =>
      { y with designated := y.designated - p.partsOf a b })
    ∧ ∀ m, ((s.abandonBooked p).job m).map Job.bare = (s.job m).map Job.bare := by
  have jobs (t : State) (f : Overhead → Overhead) : (t.bookOverhead f).jobs = t.jobs := by rw [bookOverhead_eq]
  rw [State.abandonBooked]
  generalize hu : (if p.touched then (s.bookPool p).bookOverhead _ else s.bookPool p) = u
  have hjobs : u.jobs = s.jobs := by
    rw [← hu]
    split
    · exact (jobs ..).trans (jobs ..)
    · exact jobs ..
  refine ⟨fun a b => ?_, fun m => ?_⟩
  · rw [jobLine_releaseParts, jobLine_congr hjobs]
  · rw [job_releaseParts_bare]
    unfold State.job
    rw [hjobs]

/-- A slab retired by its tag, the record (R21). -/
theorem retireTag_found {tag : Nat} (h : s.slabOf tag = some (n, x)) : s.retireTag tag = s.retireSlab n x := by
  unfold State.retireTag
  split
  · next h' => rw [h] at h'; cases h'
  · next h' => rw [h] at h'; cases h'; rfl

/-- The records of an abandon whose slab is found. -/
theorem abandonRecords_found (hx : s.slabOf p.slabTag = some (n, x)) : s.abandonRecords k p
    = (if p.touched then ((s.abandonBooked p).giveBack p).retireSlab n x
        else ((s.abandonBooked p).giveBack p).rewriteSlab n { x with state := .available, holder := none }).setPlan k
          none := by
  have hfound : ((s.abandonBooked p).giveBack p).slabOf p.slabTag = some (n, x) :=
    (slabOf_congr (congrArg Stock.slabs (booked_abandon s p).stock) _).trans hx
  exact (abandonRecords_eq s k p).trans (congrArg (State.setPlan · k none)
    (ite_congr rfl (fun _ => retireTag_found hfound) fun _ => releaseSlab_found hfound))

/-- What an abandon's records are, table by table. -/
theorem abandonRecords_tables (hx : s.slabOf p.slabTag = some (n, x)) (c : State) (hc : c = s.abandonRecords k p) :
    (∀ j, c.plan j = if k = j then none else s.plan j)
    ∧ (∀ j, c.slab j = if n = j then (if p.touched then none else some { x with state := .available, holder := none })
        else s.slab j)
    ∧ (∀ q, slot c.stock.rackMap q = if p.touched = true ∧ x.rack = some q then none else slot s.stock.rackMap q)
    ∧ c.jobs = (s.abandonBooked p).jobs ∧ c.overhead = (s.abandonBooked p).overhead
    ∧ slabPage n ∈ c.retention.queue ∧ s.retention.queue <+: c.retention.queue
    ∧ c = { s with
        plans := c.plans, jobs := c.jobs, overhead := c.overhead
        stock := { s.stock with
          slabs := c.stock.slabs, rackMap := c.stock.rackMap, reserved := s.stock.reserved - p.reservedRemnants }
        retention := { s.retention with queue := c.retention.queue } } := by
  have booked := booked_abandon s p
  have heq := booked.eq
  have hpre := booked.queue
  rw [abandonRecords_found hx] at hc
  generalize s.abandonBooked p = b at *
  rw [hc]
  have hplan (u : State) (hu : u.plans = b.plans) (j : Fin 12) :
      (u.setPlan k none).plan j = if k = j then none else s.plan j := by
    rw [plan_setPlan, State.plan, hu, booked.plans]; rfl
  have hslab (j : Fin 512) : b.slab j = s.slab j := by rw [heq]; rfl
  have hmap (q : Fin 120) : slot b.stock.rackMap q = slot s.stock.rackMap q := by rw [heq]
  cases p.touched with
  | true =>
    simp only [if_true, true_and]
    refine ⟨hplan _ (rackAt_plans ..), fun j => (slab_retireSlab ..).trans (by rw [← hslab]; rfl),
      fun q => (rackAt_rackMap ..).trans (by rw [← hmap]; rfl), ?_⟩
    have hretired : ((b.giveBack p).retireSlab n x) = (((b.giveBack p).rackAt x.rack none).setSlab n none).enqueue
        (slabPage n) := rfl
    rw [hretired, rackAt_eq]
    refine ⟨rfl, rfl, mem_queueWith.mpr (.inr rfl), hpre.trans (queueWith_prefix ..), ?_⟩
    rw [heq]; rfl
  | false =>
    simp only [Bool.false_eq_true, if_false, false_and]
    refine ⟨hplan _ rfl, fun j => (slab_rewriteSlab ..).trans (by rw [← hslab]; rfl), fun q => hmap q, rfl, rfl,
      mem_queueWith.mpr (.inr rfl), hpre.trans (queueWith_prefix ..), ?_⟩
    rw [heq]; rfl

theorem wet_eq_false_iff (x : StationState) : x.wet = false ↔ x ≠ .cutting ∧ x ≠ .holding := by
  cases x <;> simp [StationState.wet]

theorem abandonPlan_bound (hk : s.plan k = some p) (hb : p.state = .bound) (hi : p.station = some i) :
    abandonPlan k.val s = if s.mayAbandon i then done ((s.abandonRecords k p).unbind i)
        (leFields [(3, p.slabTag), (1, flagCode p.touched), (5, p.pool)]) else refuse .wrongState := by
  rw [abandonPlan, planCheck_takes hk, if_pos (isBound_iff.mpr hb)]
  dsimp only
  rw [hi]

/-- Settles O29: the bookings, the tables of the slab and the plan, and the station behind its plan. -/
theorem abandonPlanBooksAndLetsGo : Obligations.AbandonPlanBooksAndLetsGo := by
  intro s echo k p i n x hs hk hb hi hn
  have hh := abandonPlan_bound hk hb hi
  refine ⟨fun hwet => ?_, fun hcut hhold => ?_⟩
  · have : s.mayAbandon i = false := by
      rcases hwet with h | h <;> rw [State.mayAbandon, h] <;> rfl
    rw [this, if_neg (by decide)] at hh
    exact exec_refuse hs rfl rfl hh
  · have hdry : (s.station i).state.wet = false :=
      (wet_eq_false_iff _).mpr ⟨hcut, hhold⟩
    have hmay : s.mayAbandon i = true := by rw [State.mayAbandon, hdry]; rfl
    rw [hmay, if_pos rfl] at hh
    obtain ⟨c, hc⟩ : ∃ c, c = s.abandonRecords k p := ⟨_, rfl⟩
    obtain ⟨hplan, hslab, hmap, hjobs, hover, hpage, hpre, heq⟩ := abandonRecords_tables (slabOf_names hn) c hc
    obtain ⟨hlines, hbare⟩ := abandonBooked_jobs s p
    have hdryc : (c.station i).state.wet = false := by rw [heq]; exact hdry
    rw [← hc, unbind_dry hdryc] at hh
    refine ⟨_, exec_done hs rfl rfl hh, (hplan k).trans (if_pos rfl), fun j hj => (hplan j).trans (if_neg hj.symm),
      (hslab n).trans (if_pos rfl), fun j hj => (hslab j).trans (if_neg hj.symm), hmap, ?_, fun a b => ?_, fun m => ?_,
      hover.trans (abandonBooked_overhead (slabOf_names hn)), ?_, fun j hj => ?_, ?_, hpage, hpre, ?_⟩
    · rw [heq]; rfl
    · exact (jobLine_congr (t := s.abandonBooked p) hjobs a b).trans (hlines a b)
    · exact (congrArg (fun v => (slot v m).map Job.bare) hjobs).trans (hbare m)
    · refine (slot_put_same ..).trans ?_
      rw [heq]; rfl
    · refine (slot_put_ne _ _ hj.symm).trans ?_
      rw [heq]; rfl
    · rw [heq]; rfl
    · rw [heq]; rfl

end Abandon

end Sys2Proof.Machine

namespace Sys2Proof.Machine

/-! ### What the pages give back (R164, R165) -/

section Restored

variable {s : State} {pages : Vector Page 648}

theorem pageSlab_iff {x : Page} {r : Slab} : x.slab = some r ↔ x = .valid (.slab r) := by
  unfold Page.slab
  split
  · simp
  · next h => exact ⟨by rintro ⟨⟩, fun e => absurd e (h r)⟩

theorem pageJob_iff {x : Page} {j : Job} : x.job = some j ↔ x = .valid (.job j) := by
  unfold Page.job
  split
  · simp
  · next h => exact ⟨by rintro ⟨⟩, fun e => absurd e (h j)⟩

/-- A record as it comes back: free, off its rack where it was CUTTING, and flagged then (R23). -/
theorem restored_eq (r : Slab) : r.restored =
    { r with
      rack := if r.state = .cutting then none else r.rack, state := .available, holder := none
      interrupted := r.interrupted || decide (r.state = .cutting) } := by
  obtain ⟨tag, kind, material, length, width, thickness, cost, parent, rack, state, holder, interrupted⟩ := r
  cases state with
  | available => simp [Slab.restored]
  | held => simp [Slab.restored]
  | cutting => simp [Slab.restored]

theorem readSlabs_iff {n : Fin 512} {a : Slab} : slot (readSlabs pages) n = some a
    ↔ ∃ r, slot pages (slabPage n) = .valid (.slab r) ∧ r.restored = a := by
  simp only [slot_readSlabs, Option.map_eq_some_iff, pageSlab_iff]

theorem readSlabs_none {n : Fin 512} (h : ∀ r, slot pages (slabPage n) ≠ .valid (.slab r)) :
    slot (readSlabs pages) n = none := by
  rw [slot_readSlabs, Option.map_eq_none_iff, Option.eq_none_iff_forall_ne_some]
  exact fun r hr => h r (pageSlab_iff.mp hr)

theorem restored_tag (r : Slab) : r.restored.tag = r.tag := by rw [restored_eq]

theorem restored_with_rack (r : Slab) (rack : Option (Fin 120)) : { r.restored with rack := rack } =
    { r with
      rack := rack, state := .available, holder := none
      interrupted := r.interrupted || decide (r.state = .cutting) } := by rw [restored_eq]

theorem restored_rack (r : Slab) : r.restored.rack = if r.state = .cutting then none else r.rack := by
  rw [restored_eq]

/-! The slab records settled, by what the pages of the lower slots give (R23, R165) -/

theorem restoredSlabs_absent {n : Fin 512} (h : slot (uniqueSlabs pages) n = none) :
    slot (restoredSlabs pages) n = none := by
  rw [restoredSlabs_eq]
  exact settleLower_none h

theorem uniqueSlabs_none {n : Fin 512} (h : ∀ r, slot pages (slabPage n) ≠ .valid (.slab r)) :
    slot (uniqueSlabs pages) n = none := settleLower_none (readSlabs_none h)

section OfRecord

variable {n : Fin 512} {r : Slab} (hr : slot pages (slabPage n) = .valid (.slab r))
include hr

theorem uniqueSlabs_dropped {m : Fin 512} {x : Slab} (hm : m < n) (hx : slot pages (slabPage m) = .valid (.slab x))
    (e : x.tag = r.tag) : slot (uniqueSlabs pages) n = none := by
  refine settleLower_lost (readSlabs_iff.mpr ⟨r, hr, rfl⟩) hm (readSlabs_iff.mpr ⟨x, hx, rfl⟩) ?_
  rw [restored_tag, restored_tag, beq_iff_eq, e]

theorem uniqueSlabs_kept
    (h : ∀ m x, m < n → slot pages (slabPage m) = .valid (.slab x) → x.tag ≠ r.tag) :
    slot (uniqueSlabs pages) n = some r.restored := by
  refine settleLower_kept (readSlabs_iff.mpr ⟨r, hr, rfl⟩) fun m y hm hy => ?_
  obtain ⟨x, hx, rfl⟩ := readSlabs_iff.mp hy
  rw [restored_tag, restored_tag, beq_eq_false_iff_ne]
  exact (h m x hm hx).symm

end OfRecord

/-- A record that stands behind the settling was read, under its tag, from its page. -/
theorem uniqueSlabs_of_restored {m : Fin 512} {x y : Slab} (hx : slot pages (slabPage m) = .valid (.slab x))
    (hy : slot (restoredSlabs pages) m = some y) : slot (uniqueSlabs pages) m = some x.restored := by
  obtain ⟨z, hz, -⟩ := restoredSlabs_fields hy
  obtain ⟨x', hx', rfl⟩ := readSlabs_iff.mp (uniqueSlabs_back hz).1
  rw [hx] at hx'
  cases hx'
  exact hz

theorem restoredSlabs_of_unique {m : Fin 512} {z : Slab} (hz : slot (uniqueSlabs pages) m = some z) :
    (slot (restoredSlabs pages) m).isSome := by
  rw [restoredSlabs_eq]
  rcases settleLower_cases (v := uniqueSlabs pages) (clash := fun a b => a.rack.isSome && a.rack == b.rack) (i := m) z
    with ⟨j, x, hj, hx, hc⟩ | hno
  · rw [settleLower_lost hz hj hx hc]; rfl
  · rw [settleLower_kept hz hno]; rfl

/-- A position no record of a lower slot holds is kept (R165). -/
theorem restoredSlabs_kept {n : Fin 512} {r : Slab} (hr : slot (uniqueSlabs pages) n = some r)
    (h : ∀ m x q, m < n → slot (uniqueSlabs pages) m = some x → r.rack = some q → x.rack ≠ some q) :
    slot (restoredSlabs pages) n = some r := by
  rw [restoredSlabs_eq]
  refine settleLower_kept hr fun m x hm hx => ?_
  cases hq : r.rack with
  | none => rfl
  | some q => simpa using fun e : some q = x.rack => h m x q hm hx hq e.symm

/-- Of one tag the lower slot keeps its record (R23, R165). -/
theorem restoredSlab_dropped {n m : Fin 512} {r x : Slab} (hr : slot pages (slabPage n) = .valid (.slab r))
    (hm : m < n) (hx : slot pages (slabPage m) = .valid (.slab x)) (e : x.tag = r.tag) :
    slot (restoredSlabs pages) n = none := restoredSlabs_absent (uniqueSlabs_dropped hr hm hx e)

/-- The position a record comes back with: none where it was CUTTING or a lower slot's record has it, else its own
(R165). -/
theorem restoredSlab_settled {n : Fin 512} {r : Slab} (hr : slot pages (slabPage n) = .valid (.slab r))
    (hfirst : ∀ m x, m < n → slot pages (slabPage m) = .valid (.slab x) → x.tag ≠ r.tag) :
    ∃ rack, slot (restoredSlabs pages) n = some
          { r with
            rack := rack, state := .available, holder := none
            interrupted := r.interrupted || decide (r.state = .cutting) }
      ∧ (r.state = .cutting → rack = none)
      ∧ ((∃ m x y, m < n ∧ slot pages (slabPage m) = .valid (.slab x) ∧ slot (restoredSlabs pages) m = some y
          ∧ x.state ≠ .cutting ∧ x.rack = r.rack) → rack = none)
      ∧ (r.state ≠ .cutting → (∀ m x y, m < n → slot pages (slabPage m) = .valid (.slab x) →
          slot (restoredSlabs pages) m = some y → x.state ≠ .cutting → x.rack ≠ r.rack) → rack = r.rack) := by
  have hu := uniqueSlabs_kept hr hfirst
  obtain ⟨y, hy⟩ := Option.isSome_iff_exists.mp (restoredSlabs_of_unique hu)
  obtain ⟨z, hz, hback⟩ := restoredSlabs_back hy
  cases hu.symm.trans hz
  refine ⟨y.rack, ?_, fun hcut => ?_, ?_, fun hcut hno => ?_⟩
  · rw [hy, ← restored_with_rack]
    rcases hback with rfl | ⟨rfl, -⟩
    · rfl
    · rfl
  · rcases hback with rfl | ⟨rfl, -⟩
    · rfl
    · rw [restored_rack, if_pos hcut]
  · rintro ⟨m, x, w, hm, hx, hw, hxcut, e⟩
    rcases hback with rfl | ⟨rfl, hlower⟩
    · rfl
    · have hxu := hlower m _ hm (uniqueSlabs_of_restored hx hw)
      rw [restored_rack x, if_neg hxcut, e, restored_rack] at hxu
      rw [restored_rack]
      split at hxu
      · next hc => rw [if_pos hc]
      · next hc =>
        rw [if_neg hc]
        simpa using hxu
  · have hkept : slot (restoredSlabs pages) n = some r.restored := by
      refine restoredSlabs_kept hu fun m z q hm hz hq hzq => ?_
      obtain ⟨x, hx, rfl⟩ := readSlabs_iff.mp (uniqueSlabs_back hz).1
      obtain ⟨w, hw⟩ := Option.isSome_iff_exists.mp (restoredSlabs_of_unique hz)
      rw [restored_rack] at hzq hq
      rw [if_neg hcut] at hq
      split at hzq
      · cases hzq
      · next hx' => exact hno m x w hm hx hw hx' (hzq.trans hq.symm)
    cases hy.symm.trans hkept
    rw [restored_rack, if_neg hcut]

/-! The job records settled (R153, R165) -/

theorem restoredJob_absent {n : Fin 96} (h : ∀ j, slot pages (jobPage n) ≠ .valid (.job j)) :
    slot (restoredJobs pages) n = none := by
  refine settleLower_none ?_
  rw [slot_ofFn, Option.map_eq_none_iff, Option.eq_none_iff_forall_ne_some]
  exact fun j hj => h j (pageJob_iff.mp hj)

theorem readJobs_iff {n : Fin 96} {a : Job} :
    slot (Vector.ofFn fun n => (slot pages (jobPage n)).job.map Job.restored) n = some a
      ↔ ∃ j, slot pages (jobPage n) = .valid (.job j) ∧ j.restored = a := by
  simp only [slot_ofFn, Option.map_eq_some_iff, pageJob_iff]

theorem restoredJob_dropped {n m : Fin 96} {j x : Job} (hj : slot pages (jobPage n) = .valid (.job j))
    (hm : m < n) (hx : slot pages (jobPage m) = .valid (.job x)) (e : x.number = j.number) :
    slot (restoredJobs pages) n = none :=
  settleLower_lost (readJobs_iff.mpr ⟨j, hj, rfl⟩) hm (readJobs_iff.mpr ⟨x, hx, rfl⟩)
    (beq_iff_eq.mpr e.symm)

theorem restoredJob_settled {n : Fin 96} {j : Job} (hj : slot pages (jobPage n) = .valid (.job j))
    (hfirst : ∀ m x, m < n → slot pages (jobPage m) = .valid (.job x) → x.number ≠ j.number) :
    slot (restoredJobs pages) n
      = some { j with lines := j.lines.map fun x => x.map fun y => { y with designated := 0 } } := by
  refine settleLower_kept (readJobs_iff.mpr ⟨j, hj, rfl⟩) fun m y hm hy => ?_
  obtain ⟨x, hx, rfl⟩ := readJobs_iff.mp hy
  exact beq_eq_false_iff_ne.mpr (hfirst m x hm hx).symm

/-! The pages enqueued and the records counted (R164 to R166) -/

theorem restoreEnqueues_iff (s : State) (p : Fin 648) : s.restoreEnqueues p = true ↔ s.page p = .torn
    ∨ ∃ im, s.page p = .valid im ∧ s.imageOf p ≠ some im ∧ ((∃ r, im = .slab r) ∨ ∃ j, im = .job j) := by
  unfold State.restoreEnqueues
  split
  · next h => simp [h]
  · next h => simp [h]
  · next im h =>
    rw [h]
    cases im <;> simp

theorem torn_count (pages : Vector Page 648) : countWhere pages (fun x => decide (x = .torn))
    = (List.finRange 648).countP fun p => decide (slot pages p = .torn) := by
  rw [countWhere, toList_eq_map, List.countP_map]
  rfl

theorem interrupted_count (pages : Vector Page 648) : interruptedSlabs pages
    = (List.finRange 512).countP fun n => match slot pages (slabPage n) with
        | .valid (.slab r) => r.interrupted || decide (r.state = .cutting)
        | _ => false := by
  rw [interruptedSlabs, countWhere, toList_eq_map, List.countP_map]
  refine List.countP_congr fun n _ => ?_
  simp only [Function.comp, slot_readSlabs]
  split
  · next r h => rw [h]; simp [Page.slab, restored_eq]
  · next h =>
    have hn : (slot pages (slabPage n)).slab = none := by
      rw [Option.eq_none_iff_forall_ne_some]
      exact fun r hr => h r (pageSlab_iff.mp hr)
    simp [hn]

end Restored

end Sys2Proof.Machine

namespace Sys2Proof.Machine

/-! ### The end of the start-up restore (R163 to R166) -/

theorem pageOverhead_eq (x : Page) : x.overhead = match x with
    | .valid (.overhead o) => o
    | _ => State.reset.overhead := rfl

theorem pageSettings_eq (x : Page) : x.settings = (match x with
    | .valid (.settings r _) => r
    | _ => State.reset.settings, match x with
    | .valid (.settings _ m) => m
    | _ => State.reset.lineMap) := by
  cases x with
  | blank => rfl
  | torn => rfl
  | valid im => cases im <;> rfl

/-- All that the restore does not read from a page stands as after a device reset (assumption 19). -/
theorem restoreEnds_eq (s : State) : s.restoreEnds = { State.reset with
    supply := s.supply
    port := { State.reset.port with
      status := .idle, before := some .starting, resetCause := s.port.resetCause, sdo := s.port.sdo }
    notices := { State.reset.notices with
      sources := put State.reset.notices.sources startUpSource
        ((slot State.reset.notices.sources startUpSource).raised
          (.startUp s.port.resetCause (countWhere s.retention.pages fun x => decide (x = .torn))
            (interruptedSlabs s.retention.pages) (duplicatesDropped s.retention.pages s.restoreRecords))) }
    stock := s.restoreRecords.stock
    jobs := s.restoreRecords.jobs
    overhead := (s.page overheadPage).overhead
    blades := s.restoreRecords.blades
    settings := (s.page settingsPage).settings.1
    lineMap := (s.page settingsPage).settings.2
    water := s.restoreRecords.water
    retention := { State.reset.retention with
      pages := s.retention.pages, queue := (List.finRange 648).filter s.restoreRecords.restoreEnqueues }
    freeUses := s.freeUses
    pending := s.pending } := rfl

theorem exec_startUpRestoreEnd {s : State} (hs : s.supply = .running) (hp : s.port.status = .starting) :
    exec .startUpRestoreEnd s = .next s.restoreEnds :=
  congrArg Host.Outcome.next (if_pos ⟨hs, hp⟩)

theorem restoreEnds_stock (s : State) : s.restoreRecords.stock = { s.restoreEnds.stock with
    reserved := 0
    tagCounter := match s.page countersPage with
      | .valid (.counters c) => c
      | _ => 8388608 } := by
  have e : s.restoreEnds.stock = s.restoreRecords.stock := rfl
  have hc : s.restoreRecords.stock.tagCounter = match s.page countersPage with
      | .valid (.counters c) => c
      | _ => 8388608 := rfl
  have hz : s.restoreRecords.stock.reserved = 0 := rfl
  rw [e, ← hc, ← hz]

theorem restoreEnds_water (s : State) : s.restoreRecords.water = { State.reset.water with
    kept := match s.page waterPage with
      | .valid (.water k) => k
      | _ => State.reset.water.kept
    allowanceReached := s.restoreEnds.water.kept.atAllowance }.withFactors := by
  have e : s.restoreEnds.water = s.restoreRecords.water := rfl
  rw [e]
  rfl

theorem restoreEnds_queue (s : State) :
    s.restoreEnds.retention.queue = (List.finRange 648).filter s.restoreRecords.restoreEnqueues := by
  simp only [restoreEnds_eq]

/-- The same with what is read from single pages written out, and the records as they stand then. -/
theorem restoreEnds_eq_reset (s : State) : s.restoreEnds = { State.reset with
    supply := s.supply
    port := { State.reset.port with
      status := .idle, before := some .starting, resetCause := s.port.resetCause, sdo := s.port.sdo }
    notices := { State.reset.notices with
      sources := put State.reset.notices.sources startUpSource
        ((slot State.reset.notices.sources startUpSource).raised
          (.startUp s.port.resetCause (countWhere s.retention.pages fun x => decide (x = .torn))
            (interruptedSlabs s.retention.pages) (duplicatesDropped s.retention.pages s.restoreRecords))) }
    stock := { s.restoreEnds.stock with
      reserved := 0
      tagCounter := match s.page countersPage with
        | .valid (.counters c) => c
        | _ => 8388608 }
    jobs := s.restoreEnds.jobs
    overhead := match s.page overheadPage with
      | .valid (.overhead o) => o
      | _ => State.reset.overhead
    blades := s.restoreEnds.blades
    settings := match s.page settingsPage with
      | .valid (.settings r _) => r
      | _ => State.reset.settings
    lineMap := match s.page settingsPage with
      | .valid (.settings _ m) => m
      | _ => State.reset.lineMap
    water := { State.reset.water with
      kept := match s.page waterPage with
        | .valid (.water k) => k
        | _ => State.reset.water.kept
      allowanceReached := s.restoreEnds.water.kept.atAllowance }.withFactors
    retention := { State.reset.retention with
      pages := s.retention.pages, queue := s.restoreEnds.retention.queue }
    freeUses := s.freeUses
    pending := s.pending } := by
  have hjobs : s.restoreEnds.jobs = s.restoreRecords.jobs := rfl
  have hblades : s.restoreEnds.blades = s.restoreRecords.blades := rfl
  rw [← restoreEnds_stock, ← restoreEnds_water, hjobs, hblades, restoreEnds_queue, ← pageOverhead_eq]
  refine (restoreEnds_eq s).trans ?_
  rw [pageSettings_eq]

/-- Settles O43: the settled records, each by what the pages of the lower slots give. -/
theorem restoreSettlesTheRecordsAndOpensThePort : Obligations.RestoreSettlesTheRecordsAndOpensThePort := by
  intro s hs hp
  have hmap : s.restoreEnds.stock.rackMap = rackMapOf (restoredSlabs s.retention.pages) := by
    have e : s.restoreEnds.stock = s.restoreRecords.stock := rfl
    rw [e, State.restoreRecords]
  refine ⟨s.restoreEnds, countWhere s.retention.pages fun x => decide (x = .torn),
    interruptedSlabs s.retention.pages, duplicatesDropped s.retention.pages s.restoreRecords,
    exec_startUpRestoreEnd hs hp,
    fun n h => restoredSlabs_absent (uniqueSlabs_none h),
    fun n r hr => ⟨fun ⟨m, x, hm, hx, e⟩ => restoredSlab_dropped hr hm hx e, restoredSlab_settled hr⟩,
    fun q tag => hmap ▸ slot_rackMapOf (fun _ _ _ _ _ => restoredSlabs_racks) q tag,
    fun n => restoredJob_absent,
    fun n j hj => ⟨fun ⟨m, x, hm, hx, e⟩ => restoredJob_dropped hj hm hx e, restoredJob_settled hj⟩,
    fun c => ?_, fun i => ?_, fun p => ?_, ?_, torn_count _, interrupted_count _, rfl, restoreEnds_eq_reset s⟩
  · exact slot_ofFn ..
  · exact slot_ofFn ..
  · rw [restoreEnds_queue, List.mem_filter, restoreEnqueues_iff]
    simp only [List.mem_finRange, true_and]
    rfl
  · rw [restoreEnds_queue]
    exact (List.sortedLT_finRange 648).pairwise.filter _

end Sys2Proof.Machine

namespace Sys2Proof.Machine

/-! ### Frames handed and valves commanded, as whole states (R62, R123, R124) -/

section Commands

variable {s : State} {i : Fin 4} {v : Fin 5} {b : Bool}

/-- A line with a frame handed to it; a disabled line drops it (R62). -/
def Line.handed (x : Line) (f : TxFrame) : Line :=
  { x with queue := if x.enabled then queueFrame x.queue f else x.queue }

theorem handFrame_eq (s : State) (l : Fin 5) (f : TxFrame) : s.handFrame l f = s.setLine l ((s.line l).handed f) := by
  unfold State.handFrame Line.handed
  split
  · rfl
  · exact (congrArg (fun ls => { s with lines := ls }) (put_slot s.lines l)).symm

theorem settleTest_eq (s : State) (v : Fin 5) : s.settleTest v = s.onWater fun w => { w with
    settle := match w.link, w.reported with
      | .live, some r => put w.settle v (if slot w.commanded v = slot r v then .stopped
          else match slot w.settle v with
            | .stopped => .running s.settings.valveSettleTime
            | x => x)
      | _, _ => w.settle } := by
  unfold State.settleTest State.onWater
  split
  · next r hl hr => simp only [hl, hr] <;> rfl
  · next hno =>
    dsimp only
    split
    · next r hl hr => exact absurd hr (hno r hl)
    · rfl

/-- A valve that stands as commanded keeps its settle timer (R124). -/
theorem settleOnCommand_same (w : Water) (period : Nat) (h : slot w.commanded v = b) :
    w.settleOnCommand v b period = w.settle := by
  unfold Water.settleOnCommand
  split
  · exact if_pos h
  · rfl

/-- What the line of the plant is after a valve command: VALVES where the command is a change (R123). -/
def State.plantLineTold (s : State) (v : Fin 5) (b : Bool) : Line :=
  if slot s.water.commanded v = b then s.line s.plantLine
  else (s.line s.plantLine).handed { toggle := false, message := .valves (put s.water.commanded v b) }

/-- A valve command in one equation: the command, its settle timer and the plant's line, nothing else. -/
theorem commandValve_eq (s : State) (v : Fin 5) (b : Bool) : s.commandValve v b =
    { s with
      water := { s.water with
        commanded := put s.water.commanded v b
        settle := s.water.settleOnCommand v b s.settings.valveSettleTime }
      lines := put s.lines s.plantLine (s.plantLineTold v b) } := by
  unfold State.commandValve State.plantLineTold
  split
  · next h =>
    rw [settleOnCommand_same _ _ h, ← h, put_slot]
    exact (congrArg (fun ls => { s with lines := ls }) (put_slot s.lines s.plantLine)).symm
  · next h =>
    dsimp only
    rw [settleTest_eq, State.handPlant, handFrame_eq]
    simp only [State.onWater, State.setLine, Water.settleOnCommand, if_neg h, slot_put_same]
    have (r : Vector Bool 5) : (b = slot r v) = (slot r v = b) := propext eq_comm
    simp only [this] <;> rfl

/-- A state entered, in one equation (R69, R123). -/
theorem enterState_eq (s : State) (i : Fin 4) (x : StationState) : s.enterState i x =
    if (s.station i).state.wet = x.wet then s.setStation i { s.station i with state := x }
    else (s.setStation i { s.station i with state := x }).commandValve (supplyValve i) x.wet := rfl

theorem put_eq_self_iff {α : Type} {n : Nat} (w : Vector α n) (j : Fin n) (x : α) : put w j x = w ↔ slot w j = x :=
  ⟨fun h => by rw [← h, slot_put_same], fun h => by rw [← h, put_slot]⟩

/-- The line of the plant behind a command is what R123 says it is sent. -/
theorem plantLineTold_eq (s : State) (v : Fin 5) (b : Bool) : s.plantLineTold v b =
    { s.line s.plantLine with
      queue := if put s.water.commanded v b ≠ s.water.commanded ∧ (s.line s.plantLine).enabled then
          queueFrame (s.line s.plantLine).queue { toggle := false, message := .valves (put s.water.commanded v b) }
        else (s.line s.plantLine).queue } := by
  unfold State.plantLineTold Line.handed
  by_cases h : slot s.water.commanded v = b
  · simp [h, put_eq_self_iff]
  · simp [h, put_eq_self_iff]

/-! ### A position released and an order sent (R19, R77) -/

/-- The first order of a plan, its slab found HELD (R19). -/
theorem firstOrder_held {tag : Nat} {n : Fin 512} {x : Slab} (hx : s.slabOf tag = some (n, x)) (hs : x.state = .held) :
    s.firstOrder tag = (s.rackAt x.rack none).rewriteSlab n { x with state := .cutting, rack := none } := by
  unfold State.firstOrder
  split
  · next h => rw [hx] at h; cases h
  · next h => rw [hx] at h; cases h; exact if_pos hs

/-- A later order changes no record (R19). -/
theorem firstOrder_later {tag : Nat} {n : Fin 512} {x : Slab} (hx : s.slabOf tag = some (n, x)) (hs : x.state ≠ .held) :
    s.firstOrder tag = s := by
  unfold State.firstOrder
  split
  · rfl
  · next h => rw [hx] at h; cases h; exact if_neg hs

/-- The station behind an order it sent with feed limit `limit` (R77). -/
def Station.ordered (st : Station) (limit silence : Nat) : Station :=
  { st with
    toggle := !st.toggle, orderOutstanding := true, lastFeedLimit := some limit
    silenceTimer := some silence, queryTimer := some (silence / 2) }

/-- An order sent: station and line, then the slab (R77). -/
theorem dispatch_eq {k : Fin 12} {p : Plan} {c : Cut} (hb : s.boundPlan i = some (k, p))
    (hc : p.currentCut = some c) : s.dispatch i =
    State.firstOrder
      { s with
        stations := put s.stations i ((s.station i).ordered (s.planFeedLimit p) s.settings.silenceLimit)
        lines := put s.lines (s.stationLine i) ((s.line (s.stationLine i)).handed
          { toggle := !(s.station i).toggle, message := .order (s.orderFor i k p c) }) } p.slabTag := by
  unfold State.dispatch
  rw [hb]
  dsimp only
  rw [hc]
  simp only [State.handSaw, handFrame_eq]
  refine congrArg (State.firstOrder · p.slabTag) ?_
  obtain ⟨y, hy⟩ : ∃ y : Station, y = { s.station i with toggle := !(s.station i).toggle } := ⟨_, rfl⟩
  rw [← hy]
  have hst : (s.setStation i y).station i = y := slot_put_same ..
  have hst' (l : Fin 5) (z : Line) : ((s.setStation i y).setLine l z).station i = y := hst
  rw [hst', hst]
  simp only [State.setStation, State.setLine, put_put_same]
  rw [hy]
  rfl

end Commands

end Sys2Proof.Machine

namespace Sys2Proof.Machine

/-! ### The loaded edge of a STAGED station (R75 to R77, R19) -/

section LoadedEdge

variable {s t : State} {i : Fin 4} {l : Fin 5} {k : Fin 12} {p : Plan} {c : Cut} {n : Fin 512} {x : Slab}

theorem handed_enabled {y : Line} {f : TxFrame} (h : y.enabled = true) :
    y.handed f = { y with queue := queueFrame y.queue f } := by
  rw [Line.handed, if_pos h]

/-- A frame of right kind and toggle whose report is taken (R57, R58). -/
theorem receive_taken {noise toggle : Bool} {m : Message} (he : (s.line l).enabled = true)
    (hb : (s.line l).inBreak = false) (hu : s.userOf l = .station i)
    (hm : m.fromSaw = true ∧ m.codedFieldsDefined = true)
    (ht : m.answersOrder = true → toggle = (s.station i).toggle) (hr : s.sawReport i m = some t) :
    s.receive l noise toggle m = (t.superviseAgain i).takenFrame l noise := by
  have hline : ¬(¬(s.line l).enabled = true ∨ (s.line l).inBreak = true) := by simp [he, hb]
  have hcode : ¬¬(m.fromSaw = true ∧ m.codedFieldsDefined = true) := not_not_intro hm
  have hfresh : ¬(m.answersOrder = true ∧ toggle ≠ (s.station i).toggle) := fun h => h.2 (ht h.1)
  unfold State.receive
  rw [if_neg hline, hu]
  dsimp only
  rw [if_neg hcode, if_neg hfresh, hr]

theorem takenFrame_eq (s : State) (l : Fin 5) (noise : Bool) :
    s.takenFrame l noise = s.setLine l ((s.line l).counted noise) := rfl

/-- The stock once the slab `x` in slot `n` is CUTTING, off its position (R9, R19). -/
def Stock.startCutting (k : Stock) (n : Fin 512) (x : Slab) : Stock :=
  { k with
    slabs := put k.slabs n (some { x with state := .cutting, rack := none })
    rackMap := x.rack.elim k.rackMap fun q => put k.rackMap q none }

theorem startCutting_rackMap (k : Stock) (n : Fin 512) (x : Slab) (q : Fin 120) :
    slot (k.startCutting n x).rackMap q = if x.rack = some q then none else slot k.rackMap q := by
  unfold Stock.startCutting
  cases h : x.rack with
  | none => rfl
  | some r => simp [slot_put]

/-- The slab as its first order is sent, whole state (R19, R22). -/
theorem firstOrder_eq {tag : Nat} (hx : s.slabOf tag = some (n, x)) (hs : x.state = .held) : s.firstOrder tag =
    { s with
      stock := s.stock.startCutting n x
      retention := { s.retention with queue := queueWith s.retention.queue (slabPage n) } } := by
  rw [firstOrder_held hx hs]
  unfold State.rackAt Stock.startCutting
  cases x.rack <;> rfl

/-- A station that was not wet enters CUTTING with condition NONE, and its supply valve opens (R69, R70, R123). -/
theorem enterCutting_dry (u : State) (h : (u.station i).state.wet = false) :
    (u.setCondition i .none).enterState i .cutting =
    { u with
      stations := put u.stations i { u.station i with state := .cutting, condition := .none }
      lines := put u.lines u.plantLine (u.plantLineTold (supplyValve i) true)
      water := { u.water with
        commanded := put u.water.commanded (supplyValve i) true
        settle := u.water.settleOnCommand (supplyValve i) true u.settings.valveSettleTime } } := by
  have hst : (u.setCondition i .none).station i = { u.station i with condition := .none } := slot_put_same ..
  have hdry : ¬((u.setCondition i .none).station i).state.wet = StationState.wet .cutting := by
    rw [hst, h]
    decide
  rw [enterState_eq, if_neg hdry, hst, commandValve_eq]
  simp only [State.setCondition, State.setStation, put_put_same]
  rfl

/-- The first order of a plan sent by a station that was not wet, and CUTTING entered (R19, R75, R77). -/
theorem dispatchAndCut_first (hb : s.boundPlan i = some (k, p)) (hc : p.currentCut = some c)
    (hx : s.slabOf p.slabTag = some (n, x)) (hs : x.state = .held) (hdry : (s.station i).state.wet = false)
    (hl : s.plantLine ≠ s.stationLine i) : s.dispatchAndCut i =
    { s with
      stations := put s.stations i
        { (s.station i).ordered (s.planFeedLimit p) s.settings.silenceLimit with
          state := .cutting, condition := .none }
      lines := put (put s.lines (s.stationLine i) ((s.line (s.stationLine i)).handed
          { toggle := !(s.station i).toggle, message := .order (s.orderFor i k p c) }))
        s.plantLine (s.plantLineTold (supplyValve i) true)
      stock := s.stock.startCutting n x
      water := { s.water with
        commanded := put s.water.commanded (supplyValve i) true
        settle := s.water.settleOnCommand (supplyValve i) true s.settings.valveSettleTime }
      retention := { s.retention with queue := queueWith s.retention.queue (slabPage n) } } := by
  obtain ⟨st, hst⟩ : ∃ st, st = (s.station i).ordered (s.planFeedLimit p) s.settings.silenceLimit := ⟨_, rfl⟩
  obtain ⟨ln, hln⟩ : ∃ ln, ln = (s.line (s.stationLine i)).handed
      { toggle := !(s.station i).toggle, message := .order (s.orderFor i k p c) } := ⟨_, rfl⟩
  obtain ⟨u, hu⟩ : ∃ u : State, u = { s with
      stations := put s.stations i st, lines := put s.lines (s.stationLine i) ln
      stock := s.stock.startCutting n x
      retention := { s.retention with queue := queueWith s.retention.queue (slabPage n) } } := ⟨_, rfl⟩
  have hdispatch : s.dispatch i = u := by
    rw [dispatch_eq hb hc, firstOrder_eq (by exact hx) hs, hu, hst, hln]
  have hust : u.station i = st := by rw [hu]; exact slot_put_same ..
  have hplant : u.line u.plantLine = s.line s.plantLine := by rw [hu]; exact slot_put_ne _ _ hl.symm
  have htold : u.plantLineTold (supplyValve i) true = s.plantLineTold (supplyValve i) true := by
    rw [State.plantLineTold, hplant, hu]; rfl
  rw [State.dispatchAndCut, hdispatch, enterCutting_dry u (by rw [hust, hst]; exact hdry), hust, htold,
    ← hst, ← hln, hu]
  simp only [put_put_same]
  rfl

/-- The station behind a STATE that brings the loaded edge (R75, R83). -/
def Station.loadedEdge (st : Station) (m : SawMode) (passesDone : Nat) : Station :=
  { st with sawMode := some m, tableLoaded := true, sawPassesDone := passesDone, loadedSinceStaging := true }

theorem takeState_loadedEdge {m : SawMode} {passesDone : Nat} (hm : m = .idle ∨ m = .held)
    (hst : (s.station i).state = .staged) (hk : (s.station i).plan = some k) (hload : (s.station i).tableLoaded = false)
    (hf : s.thresholds.resume ≤ s.water.factor) : s.takeState i m true passesDone
      = (s.setStation i ((s.station i).loadedEdge m passesDone)).dispatchAndCut i := by
  have hedge : ((s.station i).plan.isSome && true && !(s.station i).tableLoaded) = true := by simp [hk, hload]
  unfold State.takeState
  simp only [hedge, Bool.or_true]
  obtain ⟨u, hu⟩ : ∃ u, u = s.setStation i ((s.station i).loadedEdge m passesDone) := ⟨_, rfl⟩
  have hust : u.station i = (s.station i).loadedEdge m passesDone := by rw [hu]; exact slot_put_same ..
  have hstaged : (u.station i).state = .staged := by rw [hust]; exact hst
  have htry : u.tryStaged i = u.dispatchAndCut i :=
    if_pos ⟨by rw [hust]; rfl, by rw [hu]; exact hf⟩
  have hact : u.actOnMode i m true = u.tryStaged i := by
    unfold State.actOnMode
    rcases hm with rfl | rfl <;> simp only [hstaged, if_true]
  rw [← hu, ← htry, ← hact, hu]
  rfl

/-- A frame taken in CUTTING whose timers have just been started starts them so again (R84). -/
theorem superviseAgain_same (u : State) (h : (u.station i).state = .cutting)
    (h1 : (u.station i).silenceTimer = some u.settings.silenceLimit)
    (h2 : (u.station i).queryTimer = some (u.settings.silenceLimit / 2)) : u.superviseAgain i = u := by
  have e : ({ u.station i with
      silenceTimer := some u.settings.silenceLimit, queryTimer := some (u.settings.silenceLimit / 2) } : Station)
      = u.station i := by rw [← h2, ← h1]
  unfold State.superviseAgain
  dsimp only
  split
  · rw [e]
    exact congrArg (fun v => { u with stations := v }) (put_slot u.stations i)
  · next h' => rw [h] at h'; cases h'
  · rfl

/-- Settles O20: the report of the loaded edge sends the first order; the frame's own line is not the plant's. -/
theorem loadedEdgeSendsTheFirstOrder : Obligations.LoadedEdgeSendsTheFirstOrder := by
  intro s l i noise toggle mode passesDone k p c sn n x he hb hu hl hpl hmode hst hk hp hc hsn hn hheld hload hf
  obtain ⟨m, hm, hmi, hmm⟩ : ∃ m, m = (if mode = 0 then SawMode.idle else .held) ∧ (m = .idle ∨ m = .held)
      ∧ sawModeOf mode = some m := by
    rcases hmode with rfl | rfl
    · exact ⟨_, rfl, .inl rfl, rfl⟩
    · exact ⟨_, rfl, .inr rfl, rfl⟩
  obtain ⟨a, ha⟩ : ∃ a, a = s.setStation i ((s.station i).loadedEdge m passesDone) := ⟨_, rfl⟩
  have hast : a.station i = (s.station i).loadedEdge m passesDone := by rw [ha]; exact slot_put_same ..
  have hbound : a.boundPlan i = some (k, p) := by
    have hap : a.plan k = some p := by rw [ha]; exact hp
    rw [State.boundPlan, hast]
    simp only [Station.loadedEdge, hk, Option.bind_some, hap, Option.map_some]
  have hslab : a.slabOf p.slabTag = some (n, x) := by rw [ha]; exact slabOf_names hn
  have hline : a.stationLine i = l := by rw [ha]; exact hl
  have hfirst := dispatchAndCut_first hbound hc hslab hheld (by rw [hast]; exact congrArg StationState.wet hst)
    (by rw [hline, ha]; exact hpl)
  have hlimit : a.planFeedLimit p = max sn.entry.minFeed (sn.entry.baseFeed * s.water.factor / 1000) := by
    rw [State.planFeedLimit, hsn, ha]; rfl
  have hreport : s.sawReport i (.state mode 1 passesDone) = some (a.dispatchAndCut i) := by
    have hdet : ¬(s.station i).state = .detached := by rw [hst]; decide
    unfold State.sawReport
    rw [if_neg hdet]
    simp only [hmm, Option.map_some, decide_true, takeState_loadedEdge hmi hst hk hload hf, ha]
  rw [hline, hast, hlimit] at hfirst
  obtain ⟨u, hu'⟩ : ∃ u, u = a.dispatchAndCut i := ⟨_, rfl⟩
  rw [← hu'] at hfirst hreport
  have hust : u.station i = { ((s.station i).loadedEdge m passesDone).ordered
        (max sn.entry.minFeed (sn.entry.baseFeed * s.water.factor / 1000)) s.settings.silenceLimit with
      state := .cutting, condition := .none } := by
    rw [hfirst, State.station, ha]
    exact slot_put_same ..
  have hagain : u.superviseAgain i = u :=
    superviseAgain_same u (by rw [hust]) (by rw [hust, hfirst, ha]; rfl) (by rw [hust, hfirst, ha]; rfl)
  have hexec : exec (.state l noise toggle mode 1 passesDone) s = .next (u.setLine l ((u.line l).counted noise)) := by
    refine congrArg Host.Outcome.next ((receive_taken he hb hu ⟨rfl, ?_⟩ (by rintro ⟨⟩) hreport).trans ?_)
    · have : mode ≤ 3 := by omega
      simp [Message.codedFieldsDefined, this]
    · rw [hagain, takenFrame_eq]
  have hlineu : u.line l = (s.line l).handed
      { toggle := !(s.station i).toggle, message := .order (a.orderFor i k p c) } := by
    rw [hfirst, State.line, ha]
    exact (slot_put_ne _ _ hpl).trans (slot_put_same ..)
  have horder : a.orderFor i k p c =
      { plan := k, cut := p.cutsDone, axis := c.axis, startX := c.startX, startY := c.startY
        travel := c.travel, totalDepth := x.thickness, passCount := p.passCount.getD 0
        firstPass := (s.station i).passesTaken + 1, passDepth := p.passDepth.getD 0
        feedLimit := max sn.entry.minFeed (sn.entry.baseFeed * s.water.factor / 1000) } := by
    have hthick : a.slabThickness p.slabTag = x.thickness := by rw [State.slabThickness, hslab]; rfl
    rw [State.orderFor, hthick, hast, hlimit]
    rfl
  have hother (j : Fin 5) (hj : j ≠ l) (x : Line) : (u.setLine l x).line j = u.line j := slot_put_ne _ _ hj.symm
  refine ⟨_, _, hexec, rfl, ?_, fun j hj => ?_, ?_, fun j hj hjp => ?_, ?_, ?_, fun j hj => ?_, fun q => ?_,
    fun v => ?_, ?_, ?_⟩
  · exact hust.trans (by rw [hm]; rfl)
  · rw [hfirst, ha]
    exact (slot_put_ne _ _ hj.symm).trans (slot_put_ne _ _ hj.symm)
  · refine (slot_put_same ..).trans ?_
    rw [hlineu, horder, handed_enabled he]
    rfl
  · rw [hother j hj, hfirst, ha]
    exact (slot_put_ne _ _ hjp.symm).trans (slot_put_ne _ _ hj.symm)
  · rw [State.valvesSent, hother _ hpl, hfirst, ha]
    exact (slot_put_same ..).trans (plantLineTold_eq s _ _)
  · rw [hfirst, ha]
    exact slot_put_same ..
  · rw [hfirst, ha]
    exact slot_put_ne _ _ hj.symm
  · rw [hfirst, ha]
    exact startCutting_rackMap ..
  · rw [hfirst, ha]
    exact (slot_put ..).trans (if_congr eq_comm rfl rfl)
  · refine enqueuedOnly_of ?_
    rw [hfirst, ha]
    rfl
  · rw [hfirst, ha]
    rfl

end LoadedEdge

end Sys2Proof.Machine

namespace Sys2Proof.Machine

/-! ### Remnants: their tags, records and shares (R8, R21, R146, R150) -/

section Remnants

variable {s : State}

theorem findTag_some {tag : Nat} {n : Fin 512} (h : s.findTag tag = some n) : ∃ r, s.slab n = some r ∧ r.tag = tag := by
  have hp := (lowest_some h).1
  change (s.slab n).any _ = true at hp
  cases hx : s.slab n with
  | none => rw [hx] at hp; cases hp
  | some r =>
    rw [hx] at hp
    exact ⟨r, rfl, by simpa using hp⟩

/-- The tag found was reached past taken tags alone (R8). -/
theorem freeTag_reached (s : State) (fuel c : Nat) : ∃ i, i ≤ fuel ∧ s.freeTag fuel c = nextTag^[i] c
    ∧ ∀ j, j < i → ∃ n r, s.slab n = some r ∧ r.tag = nextTag^[j] c := by
  induction fuel generalizing c with
  | zero => exact ⟨0, le_rfl, rfl, fun j hj => absurd hj (Nat.not_lt_zero j)⟩
  | succ fuel ih =>
    rw [State.freeTag]
    split
    · next htaken =>
      obtain ⟨i, hi, e, hbelow⟩ := ih (nextTag c)
      refine ⟨i + 1, Nat.succ_le_succ hi, e, fun j hj => ?_⟩
      cases j with
      | zero =>
        obtain ⟨n, hn⟩ := Option.isSome_iff_exists.mp htaken
        obtain ⟨r, hr, e⟩ := findTag_some hn
        exact ⟨n, r, hr, e⟩
      | succ j => exact hbelow j (by omega)
    · exact ⟨0, Nat.zero_le _, rfl, fun j hj => absurd hj (Nat.not_lt_zero j)⟩

/-- The first tag from the counter on, in the order of R8, that no record holds. -/
theorem freeTag_eq {c tag : Nat} (hc1 : 8388608 ≤ c) (hc2 : c ≤ 16777215) (h1 : 8388608 ≤ tag) (h2 : tag ≤ 16777215)
    (hfree : ∀ m r, s.slab m = some r → r.tag ≠ tag)
    (hbefore : ∀ u, 8388608 ≤ u → u ≤ 16777215 →
      (u + 8388608 - c) % 8388608 < (tag + 8388608 - c) % 8388608 → ∃ m r, s.slab m = some r ∧ r.tag = u) :
    s.freeTag 512 c = tag := by
  obtain ⟨i, hi, e, htaken⟩ := freeTag_reached s 512 c
  have hnot := freeTag_free s c
  rw [e, nextTag_iterate c i hi] at hnot
  rw [e, nextTag_iterate c i hi]
  rcases lt_trichotomy ((tag + 8388608 - c) % 8388608) i with hlt | heq | hgt
  · obtain ⟨m, r, hr, ht⟩ := htaken _ hlt
    rw [nextTag_iterate c _ (by omega)] at ht
    refine absurd (ht.trans ?_) (hfree m r hr)
    split <;> omega
  · split <;> omega
  · obtain ⟨m, r, hr, ht⟩ := hbefore (if c ≤ 16777215 ∧ 16777215 < c + i then c + i - 8388608 else c + i)
      (by split <;> omega) (by split <;> omega) (by split <;> omega)
    exact absurd ht (hnot m r hr)

/-- The REMNANT leaves in piece order, each with its share of the basis (R146). -/
theorem remnants_eq {p : Plan} (basis : Nat) {sn : Snapshot} (h : p.snapshot = some sn) :
    p.remnants basis = p.pieces.toList.filterMap fun
      | .leaf r _ (some .remnant) =>
        some (r, basis * (r.length * r.width) * sn.entry.valueFactor / (p.slabArea * 256))
      | _ => none := by
  have hv : (p.snapshot.map fun x => x.entry.valueFactor).getD 0 = sn.entry.valueFactor := by rw [h]; rfl
  rw [Plan.remnants, leaves_eq, toList_eq_map, List.filterMap_map, List.filter_filterMap, List.map_filterMap, hv]
  refine List.filterMap_congr fun i _ => ?_
  simp only [Function.comp]
  cases slot p.pieces i with
  | unused => rfl
  | split r o => rfl
  | leaf r o d =>
    cases d with
    | none => rfl
    | some d => cases d <;> rfl

/-- The remnant filed, whole state (R8, R21, R150). -/
theorem createRemnant_eq {parent : Slab} {rect : Rect} {basis : Nat} {n : Fin 512} (hn : s.slab n = none)
    (hlow : ∀ m, m < n → s.slab m ≠ none) : ∃ t, s.createRemnant parent rect basis = t
      ∧ s.enqueuedOnly t [slabPage n, countersPage]
      ∧ t = { s with
          stock := { s.stock with
            slabs := put s.stock.slabs n (some (s.remnantRecord parent rect basis))
            reserved := s.stock.reserved - 1
            tagCounter := nextTag (s.freeTag 512 s.stock.tagCounter) }
          retention := { s.retention with queue := t.retention.queue } } := by
  have hslot := liveSlot hn hlow
  obtain ⟨hno, -⟩ | ⟨m, y, hm, -, hy, e⟩ := createRemnant_cases s parent rect basis
  · rw [hslot] at hno; cases hno
  · rw [hslot] at hm
    cases hm
    have htag : y.tag = s.freeTag 512 s.stock.tagCounter := by simp only [hy, State.remnantRecord]
    refine ⟨_, e, enqueuedOnly_of rfl, ?_⟩
    rw [← htag, ← hy]
    rfl

end Remnants

end Sys2Proof.Machine

namespace Sys2Proof.Machine

/-! ### An unreported pass, booked by geometry (R47, R104, R105, R117, R143) -/

section Unreported

variable {s : State} {i : Fin 4} {k : Fin 12} {p q : Plan} {b : Blade}

/-- The blade behind a pass and its low test (R104, R105). -/
def Blade.passed (b : Blade) (travel depth hardness : Nat) : Blade :=
  { b.worn travel depth hardness with
    lowRaised := b.lowRaised
      || decide ((b.worn travel depth hardness).wearRemaining ≤ b.lowMark * b.fittedLife / 1000) }

/-- The notices behind it: BLADE_LOW where the blade is low and was not reported yet (R105). -/
def State.lowNotices (s : State) (i : Fin 4) (b : Blade) (left : Nat) : Vector NoticeSource 24 :=
  if b.lowRaised = false ∧ left ≤ b.lowMark * b.fittedLife / 1000 then
    put s.notices.sources bladeLowSource ((slot s.notices.sources bladeLowSource).raised (.bladeLow i b.serial left))
  else s.notices.sources

/-- The wear of a pass, whole state (R104, R105). -/
theorem passWear_eq (hb : s.blade i = some b) (travel depth hard : Nat) : s.passWear i travel depth hard =
    ({ s with
      blades := put s.blades i (some (b.passed travel depth hard))
      notices := { s.notices with sources := s.lowNotices i b (b.worn travel depth hard).wearRemaining }
      retention := { s.retention with queue := queueWith s.retention.queue (bladePage i) } },
    b.wearUnits travel depth hard * b.costPerUnit) := by
  have hlow : (b.worn travel depth hard).turnsLow = (!b.lowRaised
      && decide ((b.worn travel depth hard).wearRemaining ≤ b.lowMark * b.fittedLife / 1000)) := rfl
  have hraised : (b.worn travel depth hard).lowRaised = b.lowRaised := rfl
  have hserial : (b.worn travel depth hard).serial = b.serial := rfl
  unfold State.passWear State.lowNotices Blade.passed
  simp only [hb, hlow, ← hserial]
  generalize b.worn travel depth hard = w at hraised hserial ⊢
  have same (c : Bool) (hc : b.lowRaised = c) : ({ w with lowRaised := c } : Blade) = w := by
    rw [← hc, ← hraised]
  cases hl : b.lowRaised with
  | true =>
    simp only [Bool.true_or, same true hl, Bool.not_true, Bool.false_and, Bool.false_eq_true, Bool.true_eq_false,
      false_and, if_false]
    rfl
  | false =>
    by_cases hd : w.wearRemaining ≤ b.lowMark * b.fittedLife / 1000
    · simp only [hd, decide_true, Bool.false_or, Bool.not_false, Bool.and_self, true_and, if_true]
      rfl
    · simp only [hd, decide_false, Bool.false_or, same false hl, Bool.and_false, Bool.false_eq_true, and_false,
      if_false]
      rfl

theorem updatePlan_eq (h : s.plan k = some q) (f : Plan → Plan) : s.updatePlan k f = s.setPlan k (some (f q)) := by
  rw [State.updatePlan, h, Option.map_some]

/-- The automatic request for the press, whole state (R117, R127). -/
theorem autoPress_eq (s : State) (requested : Bool) (h : requested = decide (s.water.press = .idle
      ∧ s.thresholds.autoPress = true ∧ s.water.link ≠ .detached ∧ s.thresholds.press ≤ s.water.kept.solids)) :
    s.autoPress =
    { s with
      water := { s.water with
        press := if requested then .requested else s.water.press
        pressTimer := if requested then some s.settings.pressStartTimeout else s.water.pressTimer }
      lines := put s.lines s.plantLine
        { s.line s.plantLine with
          queue := if requested ∧ (s.line s.plantLine).enabled then
              queueFrame (s.line s.plantLine).queue { toggle := false, message := .press }
            else (s.line s.plantLine).queue } } := by
  unfold State.autoPress
  split
  · next hc =>
    have hr : requested = true := by rw [h]; exact decide_eq_true hc
    rw [State.requestPress, State.handPlant, handFrame_eq, hr]
    simp only [true_and, if_true]
    rfl
  · next hc =>
    have hr : requested = false := by rw [h]; exact decide_eq_false hc
    rw [hr]
    simp only [Bool.false_eq_true, false_and, if_false]
    exact (congrArg (fun ls => { s with lines := ls }) (put_slot s.lines s.plantLine)).symm

/-- The water record behind the solids of a pass (R117). -/
def WaterRetained.booked (w : WaterRetained) (solid : Nat) : WaterRetained :=
  { w with
    solids := min 999999 (w.solids + (solid + w.solidsCarry) / 100000000)
    solidsCarry := (solid + w.solidsCarry) % 100000000 }

/-- Whether solids of `solid` more have the press requested (R117, R127). -/
def State.pressRequested (s : State) (solid : Nat) : Bool :=
  decide (s.water.press = .idle ∧ (s.water.kept.booked solid).thresholds.autoPress = true ∧ s.water.link ≠ .detached
    ∧ (s.water.kept.booked solid).thresholds.press ≤ (s.water.kept.booked solid).solids)

/-- The state behind the solids of a pass, before its factor is told (R117). -/
def State.solidsBooked (s : State) (solid : Nat) (requested : Bool) : State :=
  { s with
    water := { s.water with
      kept := s.water.kept.booked solid
      press := if requested then .requested else s.water.press
      pressTimer := if requested then some s.settings.pressStartTimeout else s.water.pressTimer }.withFactors
    lines := put s.lines s.plantLine
      { s.line s.plantLine with
        queue := if requested ∧ (s.line s.plantLine).enabled then
            queueFrame (s.line s.plantLine).queue { toggle := false, message := .press }
          else (s.line s.plantLine).queue }
    retention := { s.retention with queue := queueWith s.retention.queue waterPage } }

theorem addSolids_eq (s : State) (travel kerf depth density : Nat) : s.addSolids travel kerf depth density =
    (s.solidsBooked (travel * kerf * depth * density) (s.pressRequested (travel * kerf * depth * density))).factorTold
      s.water.factor s.thresholds.resume false := by
  obtain ⟨u, hu⟩ : ∃ u, u = (s.setKept (s.water.kept.booked (travel * kerf * depth * density))).enqueue waterPage :=
    ⟨_, rfl⟩
  have hadd : s.addSolids travel kerf depth density = u.autoPress.recompute := by rw [hu]; rfl
  rw [hadd, recompute_eq_factorTold, autoPress_eq u (s.pressRequested (travel * kerf * depth * density))
    (by rw [hu]; rfl), hu]
  rfl

/-- The state behind an unreported pass, before its factor is told (R47, R104, R117). -/
def State.unreported (s : State) (i : Fin 4) (k : Fin 12) (p q : Plan) (b : Blade) (travel depth : Nat)
    (requested : Bool) : State :=
  State.solidsBooked
    { s with
      plans := put s.plans k (some (q.addPool (b.wearUnits travel depth p.hardness * b.costPerUnit)))
      blades := put s.blades i (some (b.passed travel depth p.hardness))
      notices := { s.notices with sources := s.lowNotices i b (b.worn travel depth p.hardness).wearRemaining }
      retention := { s.retention with queue := queueWith s.retention.queue (bladePage i) } }
    (travel * p.kerf * depth * p.density) requested

/-- An unreported pass books wear, cost and solids, and tells the factor (R47, R104, R117, R126). -/
theorem bookUnreported_eq (hk : s.plan k = some q) (hb : s.blade i = some b) (travel depth : Nat) :
    s.bookUnreported i k p travel depth =
      (s.unreported i k p q b travel depth (s.pressRequested (travel * p.kerf * depth * p.density))).factorTold
        s.water.factor s.thresholds.resume false := by
  obtain ⟨u, hu⟩ : ∃ u : State, u = { s with
      blades := put s.blades i (some (b.passed travel depth p.hardness))
      notices := { s.notices with sources := s.lowNotices i b (b.worn travel depth p.hardness).wearRemaining }
      retention := { s.retention with queue := queueWith s.retention.queue (bladePage i) } } := ⟨_, rfl⟩
  have hwear : s.passWear i travel depth p.hardness = (u, b.wearUnits travel depth p.hardness * b.costPerUnit) := by
    rw [hu]
    exact passWear_eq hb travel depth p.hardness
  have hku : u.plan k = some q := by rw [hu]; exact hk
  unfold State.bookUnreported
  dsimp only
  rw [hwear, updatePlan_eq hku, addSolids_eq, hu]
  rfl

end Unreported

end Sys2Proof.Machine

namespace Sys2Proof.Machine

/-! ### What the stations and their plans leave of blades, water and lines (R48, R77, R81, R86, R92, R126) -/

/-- From `s` to `t` the blades stand, and of the water record all but the valves and their settle timers; no line is
enabled or disabled; where `c` holds no WATER is raised. -/
structure Apart (c : Prop) (s t : State) : Prop where
  blades : t.blades = s.blades
  water : t.water = { s.water with commanded := t.water.commanded, settle := t.water.settle }
  enabled : ∀ l, (t.line l).enabled = (s.line l).enabled
  notice : c → slot t.notices.sources waterSource = slot s.notices.sources waterSource

section Apart

variable {c : Prop} {s t u : State}

theorem Apart.refl (s : State) : Apart c s s := ⟨rfl, rfl, fun _ => rfl, fun _ => rfl⟩

theorem Apart.trans (h : Apart c s t) (g : Apart c t u) : Apart c s u where
  blades := g.blades.trans h.blades
  water := by rw [g.water, h.water]
  enabled l := (g.enabled l).trans (h.enabled l)
  notice hc := (g.notice hc).trans (h.notice hc)

theorem Apart.ite {d : Prop} [Decidable d] (h : Apart c s t) (g : Apart c s u) : Apart c s (if d then t else u) := by
  split
  · exact h
  · exact g

theorem Apart.foldl {α : Type} {f : State → α → State} (h : ∀ s a, Apart c s (f s a)) (xs : List α) (s : State) :
    Apart c s (xs.foldl f s) := by
  induction xs generalizing s with
  | nil => exact .refl s
  | cons a as ih => exact (h s a).trans (ih (f s a))

theorem Apart.of_fields (h1 : t.blades = s.blades) (h2 : t.water = s.water) (h3 : t.notices = s.notices)
    (h4 : t.lines = s.lines) : Apart c s t :=
  ⟨h1, by rw [h2], fun l => by rw [State.line, h4]; rfl, fun _ => by rw [h3]⟩

theorem Apart.kept (h : Apart c s t) : t.water.kept = s.water.kept := by rw [h.water]

theorem apart_setStation (s : State) (i : Fin 4) (x : Station) : Apart c s (s.setStation i x) :=
  .of_fields rfl rfl rfl rfl

theorem apart_setLine (s : State) (l : Fin 5) {x : Line} (h : x.enabled = (s.line l).enabled) :
    Apart c s (s.setLine l x) := by
  refine ⟨rfl, rfl, fun j => ?_, fun _ => rfl⟩
  rw [State.line, State.setLine_lines, slot_put]
  split
  · next e => rw [← e]; exact h
  · rfl

theorem apart_setPlan (s : State) (k : Fin 12) (p : Option Plan) : Apart c s (s.setPlan k p) :=
  .of_fields rfl rfl rfl rfl

theorem apart_rewriteSlab (s : State) (n : Fin 512) (r : Slab) : Apart c s (s.rewriteSlab n r) :=
  .of_fields rfl rfl rfl rfl

theorem apart_rackAt (s : State) (p : Option (Fin 120)) (x : Option Nat) : Apart c s (s.rackAt p x) := by
  cases p <;> exact .of_fields rfl rfl rfl rfl

/-- A notice of another source. -/
theorem apart_raise (s : State) {src : Fin 24} (d : Detail) (h : src ≠ waterSource) : Apart c s (s.raise src d) :=
  ⟨rfl, rfl, fun _ => rfl, fun _ => slot_put_ne _ _ h⟩

theorem apart_handFrame (s : State) (l : Fin 5) (f : TxFrame) : Apart c s (s.handFrame l f) := by
  rw [handFrame_eq]
  exact apart_setLine _ _ rfl

theorem apart_handHold (s : State) (i : Fin 4) : Apart c s (s.handHold i) :=
  .ite ((apart_handFrame ..).trans (apart_setStation ..)) (apart_handFrame ..)

theorem apart_commandValve (s : State) (v : Fin 5) (b : Bool) : Apart c s (s.commandValve v b) := by
  rw [commandValve_eq, plantLineTold_eq]
  have h := apart_setLine (c := c) s s.plantLine (x := { s.line s.plantLine with
    queue := if put s.water.commanded v b ≠ s.water.commanded ∧ (s.line s.plantLine).enabled then
        queueFrame (s.line s.plantLine).queue { toggle := false, message := .valves (put s.water.commanded v b) }
      else (s.line s.plantLine).queue }) rfl
  exact ⟨rfl, rfl, h.enabled, fun _ => rfl⟩

theorem apart_enterState (s : State) (i : Fin 4) (x : StationState) : Apart c s (s.enterState i x) :=
  .ite (apart_setStation ..) ((apart_setStation ..).trans (apart_commandValve ..))

theorem apart_booked (h : Booked s t) : Apart c s t := by
  rw [h.eq]
  exact .of_fields rfl rfl rfl rfl

/-! The notices of stations are not the water's -/

theorem haltSource_ne (i : Fin 4) : haltSource i ≠ waterSource := by revert i; decide
theorem estopSource_ne (i : Fin 4) : estopSource i ≠ waterSource := by revert i; decide
theorem planDoneSource_ne (i : Fin 4) : planDoneSource i ≠ waterSource := by revert i; decide

theorem apart_raiseStop (s : State) (i : Fin 4) : Apart c s (s.raiseStop i) := by
  unfold State.raiseStop
  dsimp only
  split
  · exact apart_raise _ _ (estopSource_ne i)
  · exact .refl s
  · exact apart_raise _ _ (haltSource_ne i)

/-! Orders, holds and resumes -/

theorem apart_firstOrder (s : State) (tag : Nat) : Apart c s (s.firstOrder tag) := by
  unfold State.firstOrder
  split
  · exact .refl s
  · exact .ite ((apart_rackAt ..).trans (apart_rewriteSlab ..)) (.refl s)

theorem apart_dispatch (s : State) (i : Fin 4) : Apart c s (s.dispatch i) := by
  unfold State.dispatch
  split
  · exact .refl s
  · split
    · exact .refl s
    · exact (((apart_setStation ..).trans (apart_handFrame ..)).trans (apart_setStation ..)).trans (apart_firstOrder ..)

theorem apart_dispatchAndCut (s : State) (i : Fin 4) : Apart c s (s.dispatchAndCut i) :=
  ((apart_dispatch ..).trans (apart_setStation ..)).trans (apart_enterState ..)

theorem apart_tryStaged (s : State) (i : Fin 4) : Apart c s (s.tryStaged i) := .ite (apart_dispatchAndCut ..) (.refl s)

theorem apart_retireTag (s : State) (tag : Nat) : Apart c s (s.retireTag tag) := by
  unfold State.retireTag
  split
  · exact .refl s
  · exact (apart_rackAt ..).trans (.of_fields rfl rfl rfl rfl)

theorem apart_createRemnant (s : State) (parent : Slab) (rect : Rect) (basis : Nat) :
    Apart c s (s.createRemnant parent rect basis) := by
  obtain ⟨-, e⟩ | ⟨n, y, -, -, -, e⟩ := createRemnant_cases s parent rect basis
  · rw [e]; exact .refl s
  · rw [e]; exact .of_fields rfl rfl rfl rfl

theorem apart_closeRecords (s : State) (k : Fin 12) (p : Plan) : Apart c s (s.closeRecords k p) := by
  unfold State.closeRecords
  split
  · exact apart_setPlan ..
  · exact (((apart_booked (booked_bookClose ..)).trans (.foldl (fun _ _ => apart_createRemnant ..) _ _)).trans
      (apart_retireTag ..)).trans (apart_setPlan ..)

theorem apart_unbind (s : State) (i : Fin 4) : Apart c s (s.unbind i) :=
  ((apart_setStation ..).trans (apart_setLine _ _ (by rfl))).trans (apart_enterState ..)

theorem apart_closePlan (s : State) (i : Fin 4) (k : Fin 12) : Apart c s (s.closePlan i k) := by
  unfold State.closePlan
  split
  · exact .refl s
  · exact ((apart_closeRecords ..).trans (apart_unbind ..)).trans (apart_raise _ _ (planDoneSource_ne i))

theorem apart_markCutDone (s : State) (i : Fin 4) (k : Fin 12) (a b : Nat) : Apart c s (s.markCutDone i k a b) :=
  (apart_setPlan ..).trans (apart_setStation ..)

theorem apart_holdStation (s : State) (i : Fin 4) (x : Condition) : Apart c s (s.holdStation i x) := by
  unfold State.holdStation
  split
  · exact ((apart_handHold ..).trans (apart_setStation ..)).trans (apart_enterState ..)
  · exact .ite (apart_setStation ..) (.refl s)
  · exact .refl s

theorem apart_resumeStation (s : State) (i : Fin 4) : Apart c s (s.resumeStation i) := by
  unfold State.resumeStation
  split
  · exact .refl s
  · exact .ite (((apart_setStation ..).trans (apart_enterState ..)).trans (apart_tryStaged ..))
      (.ite (.ite ((apart_markCutDone ..).trans (apart_closePlan ..))
        ((apart_markCutDone ..).trans (apart_dispatchAndCut ..))) (apart_dispatchAndCut ..))

theorem apart_tryWaterHeld (s : State) (i : Fin 4) : Apart c s (s.tryWaterHeld i) :=
  .ite (.ite (apart_resumeStation ..) ((apart_setStation ..).trans (apart_raiseStop ..))) (.refl s)

theorem apart_updateFeed (s : State) (i : Fin 4) : Apart c s (s.updateFeed i) := by
  unfold State.updateFeed
  split
  · exact .refl s
  · exact .ite ((apart_handFrame ..).trans (apart_setStation ..)) (.refl s)

theorem apart_reportFactor (s : State) (b : Bool) (i : Fin 4) : Apart c s (s.reportFactor b i) := by
  unfold State.reportFactor
  split
  · exact .ite (.ite (apart_holdStation ..) (apart_updateFeed ..)) (.refl s)
  · exact apart_tryStaged ..
  · exact .ite (apart_tryWaterHeld ..) (.refl s)
  · exact .refl s

/-- A factor told leaves the record it was computed of (R126). -/
theorem apart_factorTold (s : State) (old oldResume : Nat) (always : Bool) :
    Apart False s (s.factorTold old oldResume always) := by
  have told (b : Bool) : Apart False s
      ((((s.reportFactor b 0).reportFactor b 1).reportFactor b 2).reportFactor b 3) :=
    (((apart_reportFactor ..).trans (apart_reportFactor ..)).trans (apart_reportFactor ..)).trans
      (apart_reportFactor ..)
  have raised (t : State) (x : Crossing) : Apart False t (t.raiseWater x) := ⟨rfl, rfl, fun _ => rfl, False.elim⟩
  unfold State.factorTold
  dsimp only
  split
  · refine .trans ?_ (raised ..)
    split
    · exact .trans (.ite (told _) (.refl s)) (raised ..)
    · exact .ite (told _) (.refl s)
  · split
    · exact .trans (.ite (told _) (.refl s)) (raised ..)
    · exact .ite (told _) (.refl s)

/-! What follows a FINISH (R81) -/

theorem apart_pauseWorn (s : State) (i : Fin 4) : Apart c s (s.pauseWorn i) :=
  ((apart_setStation ..).trans (apart_enterState ..)).trans (apart_raiseStop ..)

theorem apart_afterFinish (s : State) (i : Fin 4) (k : Fin 12) : Apart c s (s.afterFinish i k) :=
  .ite (apart_closePlan ..) (.ite (.ite (apart_dispatch ..) (apart_pauseWorn ..)) (.refl s))

theorem apart_superviseAgain (s : State) (i : Fin 4) : Apart c s (s.superviseAgain i) := by
  unfold State.superviseAgain
  dsimp only
  split
  · exact apart_setStation ..
  · exact apart_setStation ..
  · exact .refl s

end Apart

end Sys2Proof.Machine

namespace Sys2Proof.Machine

/-! ### The bookings of a FINISH leave its plan's cuts (R47, R81, R92, R126) -/

section CutsLeft

variable {s t : State} {k m : Fin 12} {i j : Fin 4} {p : Plan}

/-- Cuts remain of plan `k`, where it stands, and no station but `i` names it. -/
def State.cutsLeft (s : State) (k : Fin 12) (i : Fin 4) : Prop :=
  (∀ q, s.plan k = some q → q.cutsDone < q.cuts.length) ∧ ∀ j, j ≠ i → (s.station j).plan ≠ some k

theorem Undisturbed.cutsLeft (h : Undisturbed s t) (hs : s.cutsLeft k i) : t.cutsLeft k i := by
  refine ⟨fun q hq => ?_, fun j hj hjk => hs.2 j hj ((h.stations j).1.symm.trans hjk)⟩
  obtain ⟨q', hq', e⟩ := h.plan_back hq
  have hdone := congrArg Plan.cutsDone e
  have hcuts := congrArg Plan.cuts e
  simp only [Plan.course] at hdone hcuts
  rw [← hdone, ← hcuts]
  exact hs.1 q' hq'

theorem closeRecords_plans (s : State) (k : Fin 12) (p : Plan) : (s.closeRecords k p).plans = put s.plans k none := by
  unfold State.closeRecords
  split
  · rfl
  · refine congrArg (put · k none) ?_
    rw [retireTag_plans, (Filed.foldl (fun _ _ => filed_createRemnant ..) _ _).plans, (booked_bookClose ..).plans]

theorem closePlan_plans (hk : s.plan k = some p) (i : Fin 4) : (s.closePlan i k).plans = put s.plans k none := by
  rw [closePlan_eq hk, State.raise_plans, unbind_plans, closeRecords_plans]

/-- A plan closed takes its own cuts along and no other's. -/
theorem cutsLeft_closePlan (hm : s.plan m = some p) (hs : m ≠ k → ∀ q, s.plan k = some q → q.cutsDone < q.cuts.length)
    (hst : ∀ a, a ≠ i → (s.station a).plan ≠ some k) (j : Fin 4) : (s.closePlan j m).cutsLeft k i := by
  refine ⟨fun q hq => ?_, fun a ha hak => ?_⟩
  · rw [State.plan, closePlan_plans hm, slot_put] at hq
    split at hq
    · cases hq
    · next hne => exact hs hne q hq
  · rw [closePlan_station hm] at hak
    split at hak
    · cases hak
    · exact hst a ha hak

/-- A resume that marks a cut DONE closes the plan where that was the last (R92). -/
theorem cutsLeft_resume (hs : s.cutsLeft k i) (j : Fin 4) : (s.resumeStation j).cutsLeft k i := by
  unfold State.resumeStation
  split
  · exact hs
  · next m p hb =>
    obtain ⟨-, hm⟩ := boundPlan_some hb
    split
    · exact (((undisturbed_setCondition ..).trans (undisturbed_enterState ..)).trans
        (undisturbed_tryStaged ..)).cutsLeft hs
    · split
      · obtain ⟨v, hv⟩ : ∃ v, v = s.markCutDone j m ((p.currentCut.map (·.travel)).getD 0) 0 := ⟨_, rfl⟩
        have hplan (a : Fin 12) : v.plan a = if m = a then
            some (p.finishCut ((p.currentCut.map (·.travel)).getD 0) 0) else s.plan a := by
          rw [hv, State.markCutDone, updatePlan_eq hm]
          exact plan_setPlan ..
        have hstation (a : Fin 4) : (v.station a).plan = (s.station a).plan := by
          rw [hv, State.markCutDone, station_setStation]
          split
          · next e => rw [← e]; rfl
          · rfl
        have hst (a : Fin 4) (ha : a ≠ i) : (v.station a).plan ≠ some k := by
          rw [hstation]
          exact hs.2 a ha
        have hother (hne : m ≠ k) (q : Plan) (hq : v.plan k = some q) : q.cutsDone < q.cuts.length := by
          rw [hplan, if_neg hne] at hq
          exact hs.1 q hq
        dsimp only
        rw [← hv]
        split
        · exact cutsLeft_closePlan (by rw [hplan, if_pos rfl]) hother hst j
        · next hall =>
          refine (undisturbed_dispatchAndCut ..).cutsLeft ⟨fun q hq => ?_, hst⟩
          by_cases hne : m = k
          · subst hne
            rw [State.allCutsDone, hq] at hall
            rw [hplan, if_pos rfl] at hq
            cases hq
            have hlen : (p.finishCut ((p.currentCut.map (·.travel)).getD 0) 0).cuts.length = p.cuts.length :=
              List.length_modify ..
            have hlt := hs.1 p hm
            have hdone : (p.finishCut ((p.currentCut.map (·.travel)).getD 0) 0).cutsDone = p.cutsDone + 1 := rfl
            simp only [Option.any_some, decide_eq_true_eq] at hall
            omega
          · exact hother hne q hq
      · exact (undisturbed_dispatchAndCut ..).cutsLeft hs

theorem cutsLeft_reportFactor (hs : s.cutsLeft k i) (b : Bool) (j : Fin 4) : (s.reportFactor b j).cutsLeft k i := by
  unfold State.reportFactor
  split
  · split
    · split
      · exact (undisturbed_holdStation ..).cutsLeft hs
      · exact (undisturbed_updateFeed ..).cutsLeft hs
    · exact hs
  · exact (undisturbed_tryStaged ..).cutsLeft hs
  · split
    · unfold State.tryWaterHeld
      split
      · split
        · exact cutsLeft_resume hs j
        · exact ((undisturbed_setCondition ..).trans (undisturbed_raiseStop ..)).cutsLeft hs
      · exact hs
    · exact hs
  · exact hs

theorem cutsLeft_factorTold (hs : s.cutsLeft k i) (old oldResume : Nat) (always : Bool) :
    (s.factorTold old oldResume always).cutsLeft k i := by
  have told (b c : Bool) : (if c = true then
      (((s.reportFactor b 0).reportFactor b 1).reportFactor b 2).reportFactor b 3 else s).cutsLeft k i := by
    split
    · exact cutsLeft_reportFactor (cutsLeft_reportFactor (cutsLeft_reportFactor (cutsLeft_reportFactor hs ..) ..) ..) ..
    · exact hs
  have raised (t : State) (x : Crossing) (h : t.cutsLeft k i) : (t.raiseWater x).cutsLeft k i := h
  unfold State.factorTold
  dsimp only
  split
  · refine raised _ _ ?_
    split
    · exact raised _ _ (told ..)
    · exact told ..
  · split
    · exact raised _ _ (told ..)
    · exact told ..

theorem cutsLeft_addSolids (hs : s.cutsLeft k i) (a b d e : Nat) : (s.addSolids a b d e).cutsLeft k i := by
  rw [addSolids_eq]
  have booked (solid : Nat) (r : Bool) : (s.solidsBooked solid r).cutsLeft k i := hs
  exact cutsLeft_factorTold (booked ..) ..

theorem cutsLeft_bookUnreported (hs : s.cutsLeft k i) (p : Plan) (travel depth : Nat) :
    (s.bookUnreported i k p travel depth).cutsLeft k i := by
  exact cutsLeft_addSolids (((undisturbed_passWear ..).trans (undisturbed_addPool ..)).cutsLeft hs) ..

theorem cutsLeft_bookings (hs : s.cutsLeft k i) (p : Plan) (travel : Nat) (depths : List Nat) :
    (depths.foldl (fun y h => y.bookUnreported i k p travel h) s).cutsLeft k i := by
  induction depths generalizing s with
  | nil => exact hs
  | cons d depths ih => exact ih (cutsLeft_bookUnreported hs p travel d)

end CutsLeft

/-! ### Blade and solids behind the bookings of a FINISH (R47, R104, R117) -/

section Bookings

variable {s : State} {i : Fin 4} {k : Fin 12} {b c : Blade}

/-- The wear of a blade goes by what it had left and its carry (R104). -/
theorem worn_congr (h1 : c.wearRemaining = b.wearRemaining) (h2 : c.wearCarry = b.wearCarry) (travel depth hard : Nat) :
    (c.passed travel depth hard).wearRemaining = (b.worn travel depth hard).wearRemaining
      ∧ (c.passed travel depth hard).wearCarry = (b.worn travel depth hard).wearCarry := by
  simp only [Blade.passed, Blade.worn, Blade.wearUnits, Blade.wearSum, h1, h2, and_self]

theorem addSolids_kept (s : State) (travel kerf depth density : Nat) :
    (s.addSolids travel kerf depth density).blades = s.blades
      ∧ (s.addSolids travel kerf depth density).water.kept = s.water.kept.booked (travel * kerf * depth * density) := by
  rw [addSolids_eq]
  exact ⟨(apart_factorTold ..).blades, (apart_factorTold ..).kept⟩

/-- What one booking leaves of blades and solids, whatever becomes of plan and stations (R104, R117). -/
theorem bookUnreported_worn (hb : s.blade i = some b) (p : Plan) (travel depth : Nat) :
    (s.bookUnreported i k p travel depth).blades = put s.blades i (some (b.passed travel depth p.hardness))
      ∧ (s.bookUnreported i k p travel depth).water.kept
        = s.water.kept.booked (travel * p.kerf * depth * p.density) := by
  unfold State.bookUnreported
  dsimp only
  rw [passWear_eq hb]
  exact addSolids_kept ..

theorem bookings_worn (hb : s.blade i = some c) (h1 : c.wearRemaining = b.wearRemaining)
    (h2 : c.wearCarry = b.wearCarry) (p : Plan) (travel : Nat) (depths : List Nat) :
    ∃ e, (depths.foldl (fun y h => y.bookUnreported i k p travel h) s).blade i = some e
      ∧ e.wearRemaining = (depths.foldl (fun y h => y.worn travel h p.hardness) b).wearRemaining
      ∧ e.wearCarry = (depths.foldl (fun y h => y.worn travel h p.hardness) b).wearCarry
      ∧ (∀ j, j ≠ i → (depths.foldl (fun y h => y.bookUnreported i k p travel h) s).blade j = s.blade j)
      ∧ (depths.foldl (fun y h => y.bookUnreported i k p travel h) s).water.kept
        = depths.foldl (fun y h => y.booked (travel * p.kerf * h * p.density)) s.water.kept := by
  induction depths generalizing s b c with
  | nil => exact ⟨c, hb, h1, h2, fun _ _ => rfl, rfl⟩
  | cons d depths ih =>
    obtain ⟨hblades, hkept⟩ := bookUnreported_worn (k := k) hb p travel d
    obtain ⟨hleft, hcarry⟩ := worn_congr h1 h2 travel d p.hardness
    have hblade : (s.bookUnreported i k p travel d).blade i = some (c.passed travel d p.hardness) := by
      rw [State.blade, hblades, slot_put_same]
    obtain ⟨e, he, heleft, hecarry, hothers, hk⟩ := ih hblade hleft hcarry
    refine ⟨e, he, heleft, hecarry, fun j hj => (hothers j hj).trans ?_, hk.trans ?_⟩
    · rw [State.blade, hblades, slot_put_ne _ _ hj.symm]; rfl
    · rw [hkept]; rfl

theorem passWear_lines (s : State) (i : Fin 4) (travel depth hard : Nat) :
    (s.passWear i travel depth hard).1.lines = s.lines := by
  unfold State.passWear
  split
  · rfl
  · dsimp only
    split <;> rfl

/-- The bookings neither enable nor disable a line. -/
theorem bookings_enabled (s : State) (p : Plan) (travel : Nat) (depths : List Nat) (l : Fin 5) :
    ((depths.foldl (fun y h => y.bookUnreported i k p travel h) s).line l).enabled = (s.line l).enabled := by
  have solids (t : State) (solid : Nat) (r : Bool) : ((t.solidsBooked solid r).line l).enabled = (t.line l).enabled :=
    (apart_setLine (c := True) t t.plantLine (x := { t.line t.plantLine with
      queue := if r ∧ (t.line t.plantLine).enabled then
          queueFrame (t.line t.plantLine).queue { toggle := false, message := .press }
        else (t.line t.plantLine).queue }) rfl).enabled l
  induction depths generalizing s with
  | nil => rfl
  | cons d depths ih =>
    rw [List.foldl_cons, ih, State.bookUnreported, addSolids_eq, (apart_factorTold ..).enabled, solids]
    exact congrArg (fun ls => (slot ls l).enabled) (passWear_lines ..)

end Bookings

end Sys2Proof.Machine

namespace Sys2Proof.Machine

/-! ### A FINISH taken (R47, R78, R81) -/

section Finish

variable {s : State} {l : Fin 5} {i : Fin 4} {k : Fin 12} {p : Plan} {c : Cut} {cut : Nat}

theorem orderInHand_eq (hst : (s.station i).state = .cutting ∨ (s.station i).state = .holding
      ∨ (s.station i).state = .paused ∨ (s.station i).state = .faulted)
    (hout : (s.station i).orderOutstanding = true) (hik : (s.station i).plan = some k) (hk : s.plan k = some p)
    (hcut : p.cutsDone = cut) (hc : p.cuts[cut]? = some c) : s.orderInHand i cut = some (k, p, c) := by
  have hbound : s.boundPlan i = some (k, p) := by
    rw [State.boundPlan, hik, Option.bind_some, hk, Option.map_some]
  have hcur : p.currentCut = some c := by rw [Plan.currentCut, hcut]; exact hc
  have key : (if (s.station i).orderOutstanding = true then (s.boundPlan i).bind fun x =>
      if x.2.cutsDone = cut then x.2.currentCut.map fun c => (x.1, x.2, c) else none else none) = some (k, p, c) := by
    rw [if_pos hout, hbound, Option.bind_some, if_pos hcut, hcur, Option.map_some]
  unfold State.orderInHand
  rcases hst with h | h | h | h <;> simp only [h] <;> exact key

theorem stopAcceptWait_eq (s : State) (i : Fin 4) : s.stopAcceptWait i = s.setStation i
    { s.station i with replyTimer := if (s.station i).state = .cutting then none else (s.station i).replyTimer } := by
  unfold State.stopAcceptWait
  dsimp only
  split
  · rfl
  · exact (congrArg (fun v => { s with stations := v }) (put_slot s.stations i)).symm

/-- Plan and station as a FINISH of the current cut `c` comes, before what it books (R47, R79). -/
def State.finishing (s : State) (i : Fin 4) (k : Fin 12) (p : Plan) (c : Cut) (cut : Nat) (u : Nat) : State :=
  (s.setPlan k (some
    { p with
      remainingTravel := p.remainingTravel.map (· - c.travel * u)
      cuts := p.cuts.set cut { c with state := .done }, cutsDone := cut + 1, passesReported := 0
      touched := true })).setStation i
    { s.station i with replyTimer := if (s.station i).state = .cutting then none else (s.station i).replyTimer }

theorem finishCut_eq (hcut : p.cutsDone = cut) (hc : p.cuts[cut]? = some c) (u : Nat) : p.finishCut c.travel u =
    { p with
      remainingTravel := p.remainingTravel.map (· - c.travel * u)
      cuts := p.cuts.set cut { c with state := .done }, cutsDone := cut + 1, passesReported := 0
      touched := true } := by
  obtain ⟨hlt, hget⟩ := List.getElem?_eq_some_iff.mp hc
  rw [Plan.finishCut, hcut, List.modify_eq_set_getElem?, hc]
  rfl

theorem finishing_eq (hk : s.plan k = some p) (hcut : p.cutsDone = cut) (hc : p.cuts[cut]? = some c) (u : Nat) :
    (s.stopAcceptWait i).updatePlan k (fun q => q.finishCut c.travel u) = s.finishing i k p c cut u := by
  have hk' : (s.stopAcceptWait i).plan k = some p := by rw [State.plan, stopAcceptWait_plans]; exact hk
  rw [updatePlan_eq hk', finishCut_eq hcut hc, stopAcceptWait_eq]
  rfl

/-- The order over at station `i`, the passes of the cut taken (R47, R81). -/
def State.orderOver (s : State) (i : Fin 4) : State :=
  s.setStation i { s.station i with passesTaken := 0, orderOutstanding := false }

/-- A FINISH of the order in hand: what it books, the order over, and what follows (R81). -/
theorem exec_finish (he : (s.line l).enabled = true) (hb : (s.line l).inBreak = false) (hu : s.userOf l = .station i)
    (hst : (s.station i).state = .cutting ∨ (s.station i).state = .holding
      ∨ (s.station i).state = .paused ∨ (s.station i).state = .faulted)
    (hout : (s.station i).orderOutstanding = true) (hik : (s.station i).plan = some k) (hk : s.plan k = some p)
    (hcut : p.cutsDone = cut) (hc : p.cuts[cut]? = some c) (noise : Bool) {depths : List Nat}
    (hd : depths = (List.range (p.passCount.getD 0 - p.passesReported)).map fun j =>
      s.planPassDepth p (p.passesReported + j + 1)) {z : State}
    (hz : z = depths.foldl (fun y h => y.bookUnreported i k p c.travel h)
      (s.finishing i k p c cut (p.passCount.getD 0 - p.passesReported))) :
    exec (.finish l noise (s.station i).toggle cut) s
      = .next ((((z.orderOver i).afterFinish i k).superviseAgain i).takenFrame l noise) := by
  have hreport : s.sawReport i (.finish cut) = some ((z.orderOver i).afterFinish i k) := by
    have hdet : ¬(s.station i).state = .detached := by
      rcases hst with h | h | h | h <;> rw [h] <;> decide
    unfold State.sawReport
    rw [if_neg hdet]
    dsimp only
    unfold State.takeFinish
    rw [orderInHand_eq hst hout hik hk hcut hc]
    dsimp only
    rw [finishing_eq hk hcut hc, ← hd, ← hz]
    rfl
  exact congrArg Host.Outcome.next (receive_taken he hb hu ⟨rfl, rfl⟩ (fun _ => rfl) hreport)

end Finish

end Sys2Proof.Machine

namespace Sys2Proof.Machine

/-! ### A station unbound, whole state (R69, R96, R97, R123) -/

section Unbound

variable {s : State} {i : Fin 4}

/-- A line without the ORDER and the FEED that waited (R96). -/
def Line.withdrawn (x : Line) : Line := { x with queue := x.queue.filter fun f => !f.message.withdrawable }

/-- A wet station closes its supply valve as a plan leaves it (R69, R96, R123). -/
theorem unbind_wet (h : (s.station i).state.wet = true) : s.unbind i = State.commandValve
    { s with
      stations := put s.stations i (s.station i).unbound
      lines := put s.lines (s.stationLine i) (s.line (s.stationLine i)).withdrawn } (supplyValve i) false := by
  obtain ⟨y, hy⟩ : ∃ y : Station, y = { (s.station i).stopTimers with
      plan := none, orderOutstanding := false, toggle := !(s.station i).toggle, loadedSinceStaging := false
      passesTaken := 0, progressCount := 0, condition := .none } := ⟨_, rfl⟩
  have hst : ((s.setStation i y).withdrawFrames i).station i = y := slot_put_same ..
  have hwet : ¬y.state.wet = StationState.wet .ready := by
    have : y.state.wet = true := by rw [hy]; exact h
    rw [this]
    decide
  have hu : ({ y with state := .ready } : Station) = (s.station i).unbound := by rw [hy]; rfl
  rw [State.unbind, ← hy, enterState_eq, hst, if_neg hwet, hu]
  refine congrArg (State.commandValve · (supplyValve i) false) ?_
  have hput := put_put_same s.stations i y (s.station i).unbound
  simp only [State.setStation, State.withdrawFrames, State.setLine, hput]
  rfl

/-- What a plan's leaving does at the station, at its line and at the valve of a wet station (R96, R123). -/
theorem unbind_tables (hl : s.plantLine ≠ s.stationLine i) (t : State) (ht : t = s.unbind i) :
    t.stations = put s.stations i (s.station i).unbound
    ∧ t.water.commanded = put s.water.commanded (supplyValve i)
        (slot s.water.commanded (supplyValve i) && !(s.station i).state.wet)
    ∧ t.water.settle = (if (s.station i).state.wet then
          s.water.settleOnCommand (supplyValve i) false s.settings.valveSettleTime
        else s.water.settle)
    ∧ t.line (s.stationLine i) = (s.line (s.stationLine i)).withdrawn
    ∧ (∀ j, j ≠ s.stationLine i → j ≠ s.plantLine → t.line j = s.line j) ∧ s.valvesSent t
    ∧ t = { s with
        stations := t.stations, lines := t.lines
        water := { s.water with commanded := t.water.commanded, settle := t.water.settle } } := by
  cases hw : (s.station i).state.wet with
  | false =>
    rw [unbind_dry hw] at ht
    rw [Bool.not_false, Bool.and_true, put_slot, if_neg Bool.false_ne_true, ht]
    refine ⟨rfl, rfl, rfl, slot_put_same .., fun j hj _ => slot_put_ne _ _ hj.symm, ?_, rfl⟩
    rw [State.valvesSent, if_neg fun h => h.1 rfl]
    exact slot_put_ne _ _ hl.symm
  | true =>
    obtain ⟨u, hu⟩ : ∃ u : State, u = { s with
        stations := put s.stations i (s.station i).unbound
        lines := put s.lines (s.stationLine i) (s.line (s.stationLine i)).withdrawn } := ⟨_, rfl⟩
    have hplant : u.line u.plantLine = s.line s.plantLine := by rw [hu]; exact slot_put_ne _ _ hl.symm
    rw [unbind_wet hw, ← hu, commandValve_eq, plantLineTold_eq, hplant, hu] at ht
    rw [Bool.not_true, Bool.and_false, if_pos rfl, ht]
    refine ⟨rfl, rfl, rfl, (slot_put_ne _ _ hl).trans (slot_put_same ..),
      fun j hj hjp => (slot_put_ne _ _ hjp.symm).trans (slot_put_ne _ _ hj.symm), slot_put_same .., rfl⟩

end Unbound

/-! ### The records of a close (R21, R48, R145 to R150) -/

section Close

variable {s t : State} {i : Fin 4} {k : Fin 12} {p : Plan} {n : Fin 512} {x : Slab}

theorem freeTag_congr (h : t.stock = s.stock) (fuel c : Nat) : t.freeTag fuel c = s.freeTag fuel c := by
  induction fuel generalizing c with
  | zero => rfl
  | succ fuel ih =>
    have hfind : t.findTag c = s.findTag c := by unfold State.findTag; rw [h]
    rw [State.freeTag, State.freeTag, hfind, ih]

/-- What a remnant record does of the stock rests on the stock alone. -/
theorem createRemnant_stock (h : t.stock = s.stock) (parent : Slab) (rect : Rect) (basis : Nat) :
    (t.createRemnant parent rect basis).stock = (s.createRemnant parent rect basis).stock := by
  have htag := freeTag_congr h 512 s.stock.tagCounter
  unfold State.createRemnant
  rw [h, htag]
  split
  · exact h
  · simp only [State.rewriteSlab, State.setReserved, State.setSlab, State.enqueue, h]

theorem createRemnants_stock (h : t.stock = s.stock) (parent : Slab) (xs : List (Rect × Nat)) :
    (xs.foldl (fun y a => y.createRemnant parent a.1 a.2) t).stock
      = (xs.foldl (fun y a => y.createRemnant parent a.1 a.2) s).stock := by
  induction xs generalizing s t with
  | nil => exact h
  | cons a xs ih =>
    rw [List.foldl_cons, List.foldl_cons]
    exact ih (createRemnant_stock h ..)

/-- Remnants filed change the stock and enqueue pages, and leave the rack. -/
structure Remnants (s t : State) : Prop where
  eq : t = { s with stock := t.stock, retention := { s.retention with queue := t.retention.queue } }
  queue : s.retention.queue <+: t.retention.queue
  names : ∀ tag n r, s.tagNames tag n r → t.tagNames tag n r

theorem Remnants.refl (s : State) : Remnants s s := ⟨rfl, List.prefix_refl _, fun _ _ _ => id⟩

theorem Remnants.trans {u : State} (h : Remnants s t) (g : Remnants t u) : Remnants s u where
  eq := by rw [g.eq, h.eq]
  queue := h.queue.trans g.queue
  names tag n r hr := g.names tag n r (h.names tag n r hr)

/-- A remnant's tag is new, so every tag names what it named (R8). -/
theorem remnants_createRemnant (s : State) (parent : Slab) (rect : Rect) (basis : Nat) :
    Remnants s (s.createRemnant parent rect basis) := by
  obtain ⟨-, e⟩ | ⟨m, y, -, hm, hy, e⟩ := createRemnant_cases s parent rect basis
  · rw [e]; exact .refl s
  · rw [e]
    have hs (a : Fin 512) := slab_setSlab s m a (some y)
    have htag : y.tag = s.freeTag 512 s.stock.tagCounter := by simp only [hy, State.remnantRecord]
    refine ⟨rfl, (queueWith_prefix ..).trans (queueWith_prefix ..), ?_⟩
    rintro tag n r ⟨h1, h2, hr, hrt, hone⟩
    refine ⟨h1, h2, (hs n).trans ((if_neg ?_).trans hr), hrt, fun a z hz hzt => ?_⟩
    · rintro rfl
      rw [hm] at hr; cases hr
    · replace hz := (hs a).symm.trans hz
      split at hz
      · cases hz
        exact absurd (hrt.trans (hzt.symm.trans htag)) (freeTag_free s _ n r hr)
      · exact hone a z hz hzt

theorem remnants_fold (parent : Slab) (xs : List (Rect × Nat)) (s : State) :
    Remnants s (xs.foldl (fun y a => y.createRemnant parent a.1 a.2) s) := by
  induction xs generalizing s with
  | nil => exact .refl s
  | cons a xs ih =>
    rw [List.foldl_cons]
    exact (remnants_createRemnant ..).trans (ih _)

/-- The records of a close whose slab stands off the rack (R48, R147 to R150). -/
theorem closeRecords_tables (hn : s.tagNames p.slabTag n x) (hrack : x.rack = none) (c : State)
    (hc : c = s.closeRecords k p) :
    c.plans = put s.plans k none
    ∧ c.stock = { ((p.remnants x.cost).foldl (fun y a => y.createRemnant x a.1 a.2) s).stock with
        slabs := put ((p.remnants x.cost).foldl (fun y a => y.createRemnant x a.1 a.2) s).stock.slabs n none }
    ∧ c.jobs = (s.bookClose p (x.cost - ((p.remnants x.cost).map (·.2)).sum)).jobs
    ∧ c.overhead = (s.bookClose p (x.cost - ((p.remnants x.cost).map (·.2)).sum)).overhead
    ∧ slabPage n ∈ c.retention.queue ∧ s.retention.queue <+: c.retention.queue
    ∧ c = { s with
        plans := c.plans, stock := c.stock, jobs := c.jobs, overhead := c.overhead
        retention := { s.retention with queue := c.retention.queue } } := by
  obtain ⟨b, hb⟩ : ∃ b, b = s.bookClose p (x.cost - ((p.remnants x.cost).map (·.2)).sum) := ⟨_, rfl⟩
  obtain ⟨r, hr⟩ : ∃ r, r = (p.remnants x.cost).foldl (fun y a => y.createRemnant x a.1 a.2) b := ⟨_, rfl⟩
  have hbooked : Booked s b := hb ▸ booked_bookClose ..
  have hmade : Remnants b r := hr ▸ remnants_fold ..
  have hstock : r.stock = ((p.remnants x.cost).foldl (fun y a => y.createRemnant x a.1 a.2) s).stock := by
    rw [hr]
    exact createRemnants_stock hbooked.stock ..
  have hnames : r.tagNames p.slabTag n x := by
    refine hmade.names _ _ _ ?_
    unfold State.tagNames State.slab at hn ⊢
    rw [hbooked.stock]
    exact hn
  have hclose : s.closeRecords k p = (r.retireTag p.slabTag).setPlan k none := by
    unfold State.closeRecords
    split
    · next h => rw [slabOf_names hn] at h; cases h
    · next h => rw [slabOf_names hn] at h; cases h; rw [hr, hb]
  have hretire : r.retireSlab n x = (r.setSlab n none).enqueue (slabPage n) := by
    rw [State.retireSlab, hrack]; rfl
  rw [hclose, retireTag_found (slabOf_names hnames), hretire] at hc
  have heq := hmade.eq
  have hbeq := hbooked.eq
  have hqueue := hbooked.queue.trans hmade.queue
  rw [← hb, ← hstock, hc]
  refine ⟨?_, rfl, ?_, ?_, mem_queueWith.mpr (.inr rfl), hqueue.trans (queueWith_prefix ..), ?_⟩
  · have : r.plans = s.plans := by rw [heq, hbeq]
    exact congrArg (put · k none) this
  · rw [heq]; rfl
  · rw [heq]; rfl
  · rw [heq, hbeq]; rfl

/-- A close is as the word `closesPlan` says; the station's line loses ORDER and FEED, and the port stands
(R48, R96). -/
theorem closePlan_closes (hk : s.plan k = some p) (hn : s.tagNames p.slabTag n x) (hrack : x.rack = none)
    (hl : s.plantLine ≠ s.stationLine i) : s.closesPlan (s.closePlan i k) i k p n x
      ∧ (s.closePlan i k).port = s.port
      ∧ (s.closePlan i k).line (s.stationLine i) = (s.line (s.stationLine i)).withdrawn := by
  obtain ⟨c, hc⟩ : ∃ c, c = s.closeRecords k p := ⟨_, rfl⟩
  obtain ⟨hplans, hstock, hjobs, hover, hpage, hpre, hceq⟩ := closeRecords_tables hn hrack c hc
  obtain ⟨u, hu⟩ : ∃ u, u = c.unbind i := ⟨_, rfl⟩
  have hline (j : Fin 5) : c.line j = s.line j := by rw [hceq]; rfl
  have hst : c.station i = s.station i := by rw [hceq]; rfl
  have hplant : c.plantLine = s.plantLine := by rw [hceq]; rfl
  have hown : c.stationLine i = s.stationLine i := by rw [hceq]; rfl
  have hwater : c.water = s.water := by rw [hceq]
  obtain ⟨hstations, hcmd, hsettle, hwithdrawn, hothers, hsent, hueq⟩ :=
    unbind_tables (by rw [hplant, hown]; exact hl) u hu
  rw [hst] at hstations hcmd hsettle
  rw [hwater] at hcmd hsettle
  rw [hown, hline] at hwithdrawn
  rw [hown, hplant] at hothers
  rw [State.valvesSent, hplant, hline, hwater] at hsent
  obtain ⟨t, ht⟩ : ∃ t, t = s.closePlan i k := ⟨_, rfl⟩
  have hclose : t = u.raise (planDoneSource i) (.planDone k p.slabTag) := by rw [ht, closePlan_eq hk, hu, hc]
  have hnotices : u.notices = s.notices := by rw [hueq, hceq]
  have hsettings : c.settings = s.settings := by rw [hceq]
  rw [← ht, hclose]
  refine ⟨⟨_, rfl, ?_, ?_, ?_, ?_, ?_, ?_, hcmd, ?_, fun j h1 h2 => (hothers j h1 h2).trans (hline j), hsent, ?_, ?_,
    ?_⟩, ?_, hwithdrawn⟩
  · rw [← hplans, State.raise_plans, hueq]
  · rw [← hstock, State.raise_stock, hueq]
  · have : u.jobs = c.jobs := by rw [hueq]
    exact this.trans hjobs
  · have : u.overhead = c.overhead := by rw [hueq]
    exact this.trans hover
  · refine hstations.trans ?_
    rw [hceq]
    rfl
  · rw [State.raise_notices, hnotices]
  · rw [← hsettings]
    exact hsettle
  · have : slabPage n ∈ u.retention.queue := by rw [hueq]; exact hpage
    exact this
  · have : s.retention.queue <+: u.retention.queue := by rw [hueq]; exact hpre
    exact this
  · rw [hueq, hceq]
    rfl
  · have : u.port = s.port := by rw [hueq, hceq]
    exact this

/-- Remnants filed where slots are reserved for them: one record and one reserved slot each (R7, R150). -/
theorem createRemnants_counts (parent : Slab) (xs : List (Rect × Nat)) (h1 : s.liveSlabs + s.stock.reserved ≤ 512)
    (h2 : xs.length ≤ s.stock.reserved) :
    (xs.foldl (fun y a => y.createRemnant parent a.1 a.2) s).liveSlabs = s.liveSlabs + xs.length
      ∧ (xs.foldl (fun y a => y.createRemnant parent a.1 a.2) s).stock.reserved = s.stock.reserved - xs.length := by
  induction xs generalizing s with
  | nil => exact ⟨rfl, rfl⟩
  | cons a xs ih =>
    rw [List.foldl_cons]
    rw [List.length_cons] at h2 ⊢
    obtain ⟨m, hm⟩ := exists_free (s := s) (by omega)
    obtain ⟨hno, -⟩ | ⟨m, y, -, hfree, -, e⟩ := createRemnant_cases s parent a.1 a.2
    · rw [hm] at hno; cases hno
    · have hlive : (s.createRemnant parent a.1 a.2).liveSlabs = s.liveSlabs + 1 := by
        rw [e]
        exact liveSlabs_setSlab_new s m y hfree
      have hres : (s.createRemnant parent a.1 a.2).stock.reserved = s.stock.reserved - 1 := by rw [e]; rfl
      obtain ⟨g1, g2⟩ := ih (s := s.createRemnant parent a.1 a.2) (by omega) (by omega)
      exact ⟨by omega, by omega⟩

theorem remnants_length (p : Plan) (basis : Nat) : (p.remnants basis).length = p.leaves.countP Leaf.isRemnant := by
  rw [Plan.remnants, List.length_map, List.countP_eq_length_filter]

/-- The records behind a close with its remnants reserved (R7, R21, R150). -/
theorem closed_counts (hx : s.slab n = some x) (h1 : s.liveSlabs + s.stock.reserved ≤ 512)
    (h2 : p.leaves.countP Leaf.isRemnant ≤ s.stock.reserved)
    (ht : t.stock = { ((p.remnants x.cost).foldl (fun y a => y.createRemnant x a.1 a.2) s).stock with
        slabs := put ((p.remnants x.cost).foldl (fun y a => y.createRemnant x a.1 a.2) s).stock.slabs n none }) :
    (∀ j r, j ≠ n → s.slab j = some r → t.slab j = some r)
      ∧ t.liveSlabs + 1 = s.liveSlabs + p.leaves.countP Leaf.isRemnant
      ∧ t.stock.reserved = s.stock.reserved - p.leaves.countP Leaf.isRemnant := by
  rw [← remnants_length p x.cost] at h2 ⊢
  obtain ⟨hlive, hres⟩ := createRemnants_counts x (p.remnants x.cost) h1 h2
  have hfiled : Filed s ((p.remnants x.cost).foldl (fun y a => y.createRemnant x a.1 a.2) s) :=
    .foldl (fun _ _ => filed_createRemnant ..) _ _
  generalize (p.remnants x.cost).foldl (fun y a => y.createRemnant x a.1 a.2) s = r at *
  refine ⟨fun j y hj hy => ?_, ?_, ?_⟩
  · rw [State.slab, ht]
    exact (slot_put_ne _ _ hj.symm).trans (hfiled.on j y hy)
  · have hput := countWhere_put r.stock.slabs (fun a => a.isSome) n none
    have hrn : slot r.stock.slabs n = some x := hfiled.on n x hx
    rw [hrn] at hput
    simp only [Option.isSome_some, Option.isSome_none, Bool.false_eq_true, if_true, if_false] at hput
    rw [← hlive, State.liveSlabs, ht]
    exact hput
  · rw [ht]
    exact hres

end Close

end Sys2Proof.Machine

namespace Sys2Proof.Machine

/-! ### What follows a FINISH with cuts remaining (R77, R81, R84, R87) -/

section After

variable {s t : State} {l : Fin 5} {i : Fin 4} {k : Fin 12} {q : Plan}

theorem allCutsDone_iff (hk : s.plan k = some q) : s.allCutsDone k = true ↔ q.cutsDone = q.cuts.length := by
  rw [State.allCutsDone, hk, Option.any_some, decide_eq_true_eq]

theorem afterFinish_last (hk : s.plan k = some q) (h : q.cutsDone = q.cuts.length) :
    s.afterFinish i k = s.closePlan i k := if_pos ((allCutsDone_iff hk).mpr h)

theorem afterFinish_more (h : s.allCutsDone k = false) : s.afterFinish i k =
    if (s.station i).state = .cutting then (if s.bladeSharp i then s.dispatch i else s.pauseWorn i) else s :=
  if_neg (by rw [h]; exact Bool.false_ne_true)

/-- A frame taken outside CUTTING restarts the timers of HOLDING alone (R84, R87). -/
theorem superviseAgain_eq (h : (s.station i).state ≠ .cutting) : s.superviseAgain i = s.setStation i
    { s.station i with
      silenceTimer := if (s.station i).state = .holding then some s.settings.silenceLimit
        else (s.station i).silenceTimer
      queryTimer := if (s.station i).state = .holding then some (s.settings.replyTimeout / 2)
        else (s.station i).queryTimer } := by
  unfold State.superviseAgain
  dsimp only
  split
  · next hc => exact absurd hc h
  · next hh => simp only [hh, if_true]
  · next hh =>
    rw [if_neg hh, if_neg hh]
    exact (congrArg (fun v => { s with stations := v }) (put_slot s.stations i)).symm

theorem superviseAgain_idle (h1 : (s.station i).state ≠ .cutting) (h2 : (s.station i).state ≠ .holding) :
    s.superviseAgain i = s := by
  rw [superviseAgain_eq h1, if_neg h2, if_neg h2]
  exact congrArg (fun v => { s with stations := v }) (put_slot s.stations i)

/-- The frame's own line is not spoken of where a station stops. -/
theorem stopsAt_setLine {st : Station} {src : Fin 24} {d : Detail} (h : s.stopsAt t i st src d)
    (hl : s.stationLine i = l) (x : Line) : s.stopsAt (t.setLine l x) i st src d := by
  obtain ⟨h1, h2, h3, h4, h5, h6, h7⟩ := h
  refine ⟨h1, h2, h3, h4, fun j hj hu hp => ?_, fun hu hp => ?_, ?_⟩
  · exact (slot_put_ne _ _ fun e => hj (e.symm.trans hl.symm)).trans (h5 j hj hu hp)
  · exact (slot_put_ne _ _ fun e => hp (e.symm.trans hl.symm)).trans (h6 hu hp)
  · rw [h7]; rfl

theorem closesPlan_setLine {p : Plan} {n : Fin 512} {y : Slab} (h : s.closesPlan t i k p n y)
    (hl : s.stationLine i = l) (hp : s.plantLine ≠ l) (x : Line) : s.closesPlan (t.setLine l x) i k p n y := by
  obtain ⟨r, h0, h1, h2, h3, h4, h5, h6, h7, h8, h9, h10, h11, h12, h13⟩ := h
  refine ⟨r, h0, h1, h2, h3, h4, h5, h6, h7, h8, fun j hj hjp => ?_, ?_, h11, h12, ?_⟩
  · exact (slot_put_ne _ _ fun e => hj (e.symm.trans hl.symm)).trans (h9 j hj hjp)
  · exact (slot_put_ne _ _ hp.symm).trans h10
  · rw [h13]; rfl

/-- A worn blade pauses the CUTTING station: its valve closes and HALT tells BLADE_WORN (R81, R106). -/
theorem pauseWorn_stops (hst : (s.station i).state = .cutting) (hik : (s.station i).plan = some k)
    (hk : s.plan k = some q) (hl : s.plantLine ≠ s.stationLine i) :
    s.stopsAt (s.pauseWorn i) i { (s.station i).stopTimers with state := .paused, condition := .bladeWorn }
        (haltSource i) (.halt .bladeWorn .paused none (some k) (some q.cutsDone) none)
      ∧ (s.pauseWorn i).line (s.stationLine i) = s.line (s.stationLine i)
      ∧ (s.pauseWorn i).station i = { (s.station i).stopTimers with state := .paused, condition := .bladeWorn } := by
  obtain ⟨y, hy⟩ : ∃ y : Station, y = { (s.station i).stopTimers with state := .paused, condition := .bladeWorn } :=
    ⟨_, rfl⟩
  obtain ⟨u, hu⟩ : ∃ u : State, u =
      State.commandValve { s with stations := put s.stations i y } (supplyValve i) false := ⟨_, rfl⟩
  have hwet : (s.station i).state.wet = true := by rw [hst]; rfl
  have hpause : s.pauseWorn i = u.raiseStop i := by
    have hown : (s.setStation i { (s.station i).stopTimers with condition := .bladeWorn }).station i
        = { (s.station i).stopTimers with condition := .bladeWorn } := slot_put_same ..
    have hne : ¬StationState.wet (s.station i).stopTimers.state = StationState.wet .paused := by
      have : StationState.wet (s.station i).stopTimers.state = true := hwet
      rw [this]
      decide
    rw [State.pauseWorn, enterState_eq, hown, if_neg hne, hu, hy]
    simp only [State.setStation, put_put_same]
    rfl
  have hueq := commandValve_eq { s with stations := put s.stations i y } (supplyValve i) false
  rw [← hu, plantLineTold_eq] at hueq
  have hust : u.station i = y := by
    rw [hueq, State.station]
    exact slot_put_same ..
  have hcut : u.currentCutNumber i = some q.cutsDone := by
    have huk : u.plan k = some q := by rw [hueq]; exact hk
    have hyk : y.plan = some k := by rw [hy]; exact hik
    rw [State.currentCutNumber, State.boundPlan, hust, hyk, Option.bind_some, huk]
    rfl
  have hraise : u.raiseStop i
      = u.raise (haltSource i) (.halt .bladeWorn .paused none (some k) (some q.cutsDone) none) := by
    have hcond : (u.station i).condition = .bladeWorn := by rw [hust, hy]
    unfold State.raiseStop
    dsimp only
    split
    · next h => rw [hcond] at h; cases h
    · next h => rw [hcond] at h; cases h
    · rw [hcond, State.raiseHalt, hcut, hust, hy, if_neg (by decide), if_neg (by decide)]
      exact congrArg (fun x => u.raise (haltSource i) (.halt .bladeWorn .paused none x (some q.cutsDone) none)) hik
  rw [hpause, hraise, ← hy]
  refine ⟨⟨?_, ?_, ?_, ?_, fun j h1 _ h3 => ?_, fun _ h => ?_, ?_⟩, ?_, ?_⟩
  · rw [State.raise_stations, hueq]
  · rw [hueq]; rfl
  · rw [hwet, if_pos rfl, hueq]; rfl
  · rw [hwet, if_pos rfl, hueq]; rfl
  · rw [hueq]; exact slot_put_ne _ _ h3.symm
  · rw [State.valvesSent, hueq]; exact slot_put_same ..
  · rw [hueq]; rfl
  · rw [hueq]; exact slot_put_ne _ _ hl
  · exact hust

end After

end Sys2Proof.Machine

namespace Sys2Proof.Machine

/-! ### The next order behind a FINISH (R77, R81) -/

section NextOrder

variable {s : State} {l : Fin 5} {i : Fin 4} {k : Fin 12} {q : Plan} {c : Cut} {sn : Snapshot} {m : Fin 512} {y : Slab}

/-- The order for a cut behind the first, its slab CUTTING already: station and line, and no record (R19, R77, R81). -/
theorem nextOrder_sent (hst : (s.station i).state = .cutting) (hik : (s.station i).plan = some k)
    (hk : s.plan k = some q) (hc : q.cuts[q.cutsDone]? = some c) (hsn : q.snapshot = some sn)
    (hy : s.slabOf q.slabTag = some (m, y)) (hcut : y.state = .cutting) (hl : s.stationLine i = l)
    (he : (s.line l).enabled = true) (hpass : (s.station i).passesTaken = 0) {limit : Nat}
    (hlimit : limit = max sn.entry.minFeed (sn.entry.baseFeed * s.water.factor / 1000)) (noise : Bool) :
    ((s.dispatch i).superviseAgain i).takenFrame l noise =
      (s.setStation i ((s.station i).ordered limit s.settings.silenceLimit)).setLine l
        { (s.line l).counted noise with
          queue := queueFrame (s.line l).queue
            { toggle := !(s.station i).toggle
              message := .order
                { plan := k, cut := q.cutsDone, axis := c.axis, startX := c.startX, startY := c.startY
                  travel := c.travel, totalDepth := y.thickness, passCount := q.passCount.getD 0, firstPass := 1
                  passDepth := q.passDepth.getD 0, feedLimit := limit } } } := by
  have hbound : s.boundPlan i = some (k, q) := by rw [State.boundPlan, hik, Option.bind_some, hk, Option.map_some]
  have hfeed : s.planFeedLimit q = limit := by rw [State.planFeedLimit, hsn, hlimit]; rfl
  have hthick : s.slabThickness q.slabTag = y.thickness := by rw [State.slabThickness, hy]; rfl
  obtain ⟨o, ho⟩ : ∃ o, o = s.orderFor i k q c := ⟨_, rfl⟩
  have hdispatch := dispatch_eq hbound hc
  rw [hfeed, hl, handed_enabled he, ← ho] at hdispatch
  obtain ⟨u, hu⟩ : ∃ u : State, u = { s with
      stations := put s.stations i ((s.station i).ordered limit s.settings.silenceLimit)
      lines := put s.lines l { s.line l with
        queue := queueFrame (s.line l).queue { toggle := !(s.station i).toggle, message := .order o } } } := ⟨_, rfl⟩
  have hslab : u.slabOf q.slabTag = some (m, y) := by rw [hu]; exact hy
  rw [← hu, firstOrder_later hslab (by rw [hcut]; decide)] at hdispatch
  have hust : u.station i = (s.station i).ordered limit s.settings.silenceLimit := by
    rw [hu]
    exact slot_put_same ..
  have hagain : u.superviseAgain i = u :=
    superviseAgain_same u (by rw [hust]; exact hst) (by rw [hust, hu]; rfl) (by rw [hust, hu]; rfl)
  have hline : u.line l = { s.line l with
      queue := queueFrame (s.line l).queue { toggle := !(s.station i).toggle, message := .order o } } := by
    rw [hu]
    exact slot_put_same ..
  rw [hdispatch, hagain, takenFrame_eq, hline, hu, ho, State.orderFor, hthick, hfeed, hpass]
  simp only [State.setLine, State.setStation, put_put_same]
  rfl

end NextOrder

/-! ### The words of `closesPlan` do not rest on plan and station of the cut just done (R47, R48) -/

section Transfer

variable {s t : State} {i : Fin 4} {k : Fin 12} {p q : Plan} {n : Fin 512} {x : Slab}

/-- What a close books of jobs and overhead rests on these alone (R147 to R149). -/
theorem bookClose_congr {u v : State} (h1 : v.jobs = u.jobs) (h2 : v.overhead = u.overhead) (p : Plan) (net : Nat) :
    (v.bookClose p net).jobs = (u.bookClose p net).jobs
      ∧ (v.bookClose p net).overhead = (u.bookClose p net).overhead := by
  have account (a b : State) (f : Overhead → Overhead) (h1 : b.jobs = a.jobs) (h2 : b.overhead = a.overhead) :
      (b.bookOverhead f).jobs = (a.bookOverhead f).jobs
        ∧ (b.bookOverhead f).overhead = (a.bookOverhead f).overhead := by
    rw [bookOverhead_eq, bookOverhead_eq a]
    exact ⟨h1, congrArg f h2⟩
  have part (a b : State) (j : Nat) (g : Fin 8) (m c : Nat) (e : Bool) (h1 : b.jobs = a.jobs)
      (h2 : b.overhead = a.overhead) : (b.bookPart j g m c e).jobs = (a.bookPart j g m c e).jobs
        ∧ (b.bookPart j g m c e).overhead = (a.bookPart j g m c e).overhead := by
    have hjob : b.jobOf j = a.jobOf j := by
      unfold State.jobOf State.findJob State.job
      rw [h1]
    unfold State.bookPart
    rw [hjob]
    split
    · exact ⟨h1, h2⟩
    · split
      · exact ⟨h1, h2⟩
      · exact ⟨congrArg (fun js => put js _ _) h1, h2⟩
  unfold State.bookClose
  split
  · obtain ⟨g1, g2⟩ := account u v (fun o => o.bookMaterial net) h1 h2
    exact account _ _ _ g1 g2
  · dsimp only
    generalize p.parts.zip _ = xs
    induction xs generalizing u v with
    | nil => exact ⟨h1, h2⟩
    | cons y xs ih =>
      obtain ⟨g1, g2⟩ := part u v y.1.1 y.1.2.1 y.2.1 y.2.2 p.poolSaturated h1 h2
      rw [List.foldl_cons, List.foldl_cons]
      exact ih g1 g2

/-- The plan of the cut just DONE, the order over at its station: it closes as the plan before did. -/
theorem closesPlan_finished {p' : Plan} {st : Station} {w : State}
    (hw : w = (s.setPlan k (some p')).setStation i st) (hp : p' = { p with
      remainingTravel := p'.remainingTravel, cuts := p'.cuts, cutsDone := p'.cutsDone
      passesReported := p'.passesReported, touched := p'.touched })
    (hst : st.unbound = (s.station i).unbound) (hwet : st.state = (s.station i).state)
    (h : w.closesPlan t i k p' n x) : s.closesPlan t i k p n x := by
  have hown : w.station i = st := by rw [hw]; exact slot_put_same ..
  have hrem : p'.remnants x.cost = p.remnants x.cost := by rw [hp]; rfl
  have htag : p'.slabTag = p.slabTag := by rw [hp]
  have hclose (net : Nat) : w.bookClose p' net = w.bookClose p net := by rw [hp]; rfl
  have hplans : put w.plans k none = put s.plans k none := by
    rw [hw]
    exact put_put_same ..
  have hstations (a : Station) : put w.stations i a = put s.stations i a := by
    rw [hw]
    exact put_put_same ..
  obtain ⟨net, hnet⟩ : ∃ net, net = x.cost - ((p.remnants x.cost).map (·.2)).sum := ⟨_, rfl⟩
  obtain ⟨hjobs, hover⟩ := bookClose_congr (u := s) (v := w) (by rw [hw]; rfl) (by rw [hw]; rfl) p net
  have hstock := createRemnants_stock (s := s) (t := w) (by rw [hw]; rfl) x (p.remnants x.cost)
  obtain ⟨r, h0, h1, h2, h3, h4, h5, h6, h7, h8, h9, h10, h11, h12, h13⟩ := h
  rw [hrem] at h0
  rw [h0, hstock] at h2
  rw [hrem, ← hnet, hclose, hjobs, hnet] at h3
  rw [hrem, ← hnet, hclose, hover, hnet] at h4
  rw [hown, hstations] at h5
  rw [htag] at h6
  rw [hown, hwet] at h7 h8
  rw [hw] at h6 h7 h8 h9 h10 h12 h13
  refine ⟨_, rfl, h1.trans hplans, h2, h3, h4, h5.trans (congrArg (put s.stations i) hst), h6, h7, h8, h9, h10, h11,
    h12, ?_⟩
  rw [h13]
  rfl

end Transfer

end Sys2Proof.Machine

namespace Sys2Proof.Machine

/-! ### A station that goes on alone (R77, R81) -/

/-- From `s` to `t` no plan changes, no station but `i`, and no line but that station's and the plant's. -/
structure Alone (s t : State) (i : Fin 4) : Prop where
  plans : t.plans = s.plans
  stations : ∀ j, j ≠ i → t.station j = s.station j
  lines : ∀ j, j ≠ s.stationLine i → j ≠ s.plantLine → t.line j = s.line j
  lineMap : t.lineMap = s.lineMap

section Alone

variable {s t u : State} {i : Fin 4}

theorem Alone.refl (s : State) (i : Fin 4) : Alone s s i := ⟨rfl, fun _ _ => rfl, fun _ _ _ => rfl, rfl⟩

theorem Alone.trans (h : Alone s t i) (g : Alone t u i) : Alone s u i where
  plans := g.plans.trans h.plans
  stations j hj := (g.stations j hj).trans (h.stations j hj)
  lines j h1 h2 := (g.lines j (by rw [State.stationLine, h.lineMap]; exact h1)
    (by rw [State.plantLine, h.lineMap]; exact h2)).trans (h.lines j h1 h2)
  lineMap := g.lineMap.trans h.lineMap

theorem alone_setStation (s : State) (i : Fin 4) (x : Station) : Alone s (s.setStation i x) i :=
  ⟨rfl, fun _ hj => slot_put_ne _ _ hj.symm, fun _ _ _ => rfl, rfl⟩

theorem alone_handSaw (s : State) (i : Fin 4) (m : TxMessage) : Alone s (s.handSaw i m) i := by
  rw [State.handSaw, handFrame_eq]
  exact ⟨rfl, fun _ _ => rfl, fun _ hj _ => slot_put_ne _ _ hj.symm, rfl⟩

theorem alone_firstOrder (s : State) (i : Fin 4) (tag : Nat) : Alone s (s.firstOrder tag) i := by
  unfold State.firstOrder
  split
  · exact .refl s i
  · next n r _ =>
    split
    · unfold State.rackAt
      cases r.rack <;> exact ⟨rfl, fun _ _ => rfl, fun _ _ _ => rfl, rfl⟩
    · exact .refl s i

theorem alone_dispatch (s : State) (i : Fin 4) : Alone s (s.dispatch i) i := by
  unfold State.dispatch
  split
  · exact .refl s i
  · split
    · exact .refl s i
    · exact (((alone_setStation ..).trans (alone_handSaw ..)).trans (alone_setStation ..)).trans (alone_firstOrder ..)

theorem alone_enterState (s : State) (i : Fin 4) (x : StationState) : Alone s (s.enterState i x) i := by
  rw [enterState_eq]
  split
  · exact alone_setStation ..
  · refine (alone_setStation s i { s.station i with state := x }).trans ?_
    rw [commandValve_eq]
    exact ⟨rfl, fun _ _ => rfl, fun _ _ hj => slot_put_ne _ _ hj.symm, rfl⟩

theorem alone_raiseStop (s : State) (i : Fin 4) : Alone s (s.raiseStop i) i := by
  have raised (src : Fin 24) (d : Detail) : Alone s (s.raise src d) i := ⟨rfl, fun _ _ => rfl, fun _ _ _ => rfl, rfl⟩
  unfold State.raiseStop
  dsimp only
  split
  · exact raised ..
  · exact .refl s i
  · exact raised ..

theorem alone_pauseWorn (s : State) (i : Fin 4) : Alone s (s.pauseWorn i) i :=
  ((alone_setStation ..).trans (alone_enterState ..)).trans (alone_raiseStop ..)

theorem alone_superviseAgain (s : State) (i : Fin 4) : Alone s (s.superviseAgain i) i := by
  unfold State.superviseAgain
  dsimp only
  split
  · exact alone_setStation ..
  · exact alone_setStation ..
  · exact .refl s i

/-- A FINISH with cuts remaining, behind its bookings. -/
theorem alone_afterFinish {k : Fin 12} (h : s.allCutsDone k = false) (i : Fin 4) : Alone s (s.afterFinish i k) i := by
  rw [afterFinish_more h]
  split
  · split
    · exact alone_dispatch ..
    · exact alone_pauseWorn ..
  · exact .refl s i

end Alone

/-! ### FINISH settled (R47, R48, R77, R81, R96) -/

section Settled

variable {s z w t : State} {l : Fin 5} {i : Fin 4} {k : Fin 12} {p q : Plan} {c : Cut} {cut : Nat} {n : Fin 512}
  {x : Slab}

/-- The depths of the passes a saw did not report (R80, R103). -/
theorem unreportedDepths_eq {count d : Nat} (hx : s.slabOf p.slabTag = some (n, x)) (hcount : p.passCount = some count)
    (hd : p.passDepth = some d) : (List.range (p.passCount.getD 0 - p.passesReported)).map
      (fun j => s.planPassDepth p (p.passesReported + j + 1))
    = (List.range (count - p.passesReported)).map fun j =>
      if p.passesReported + j + 1 < count then d else x.thickness - d * (count - 1) := by
  have hthick : s.slabThickness p.slabTag = x.thickness := by rw [State.slabThickness, hx]; rfl
  rw [hcount, Option.getD_some]
  refine List.map_congr_left fun j _ => ?_
  rw [State.planPassDepth, hthick, hcount, hd]
  rfl

theorem kept_bookings (s : State) (i : Fin 4) (k : Fin 12) (p : Plan) (travel : Nat) (depths : List Nat) :
    Kept s (depths.foldl (fun y h => y.bookUnreported i k p travel h) s) :=
  .foldl (fun _ _ => kept_bookUnreported ..) _ _

/-- A FINISH of the last cut closes the plan, its frame taken (R48, R81, R96). -/
theorem finish_closes (hk : s.plan k = some q) (hlast : q.cutsDone = q.cuts.length) (hn : s.tagNames q.slabTag n x)
    (hrack : x.rack = none) (hl : s.stationLine i = l) (hp : s.plantLine ≠ l) (noise : Bool)
    (ht : t = ((s.afterFinish i k).superviseAgain i).takenFrame l noise) :
    s.closesPlan t i k q n x ∧ t.port = s.port ∧ t.line l = (s.line l).withdrawn.counted noise := by
  obtain ⟨hcloses, hport, hline⟩ := closePlan_closes hk hn hrack (i := i) (by rw [hl]; exact hp)
  have hready : ((s.closePlan i k).station i).state = .ready := by
    rw [closePlan_station hk, if_pos rfl]
    rfl
  rw [afterFinish_last hk hlast, superviseAgain_idle (by rw [hready]; decide) (by rw [hready]; decide), takenFrame_eq]
    at ht
  rw [hl] at hline
  rw [ht]
  exact ⟨closesPlan_setLine hcloses hl hp _, hport, (slot_put_same ..).trans (congrArg (Line.counted · noise) hline)⟩

/-- A FINISH with cuts remaining at a station not CUTTING: the order is over, and no more (R81, R84, R87). -/
theorem finish_stays (h : s.allCutsDone k = false) (hst : (s.station i).state ≠ .cutting) (noise : Bool) :
    ((s.afterFinish i k).superviseAgain i).takenFrame l noise = (s.setStation i
      { s.station i with
        silenceTimer := if (s.station i).state = .holding then some s.settings.silenceLimit
          else (s.station i).silenceTimer
        queryTimer := if (s.station i).state = .holding then some (s.settings.replyTimeout / 2)
          else (s.station i).queryTimer }).setLine l ((s.line l).counted noise) := by
  rw [afterFinish_more h, if_neg hst, superviseAgain_eq hst]
  rfl

/-- A FINISH with cuts remaining on a worn blade (R81, R106). -/
theorem finish_pauses {b : Blade} (hk : s.plan k = some q) (h : s.allCutsDone k = false)
    (hst : (s.station i).state = .cutting) (hik : (s.station i).plan = some k) (hb : s.blade i = some b)
    (hworn : b.wearRemaining = 0) (hl : s.stationLine i = l) (hp : s.plantLine ≠ l) (noise : Bool)
    (ht : t = ((s.afterFinish i k).superviseAgain i).takenFrame l noise) :
    s.stopsAt t i { (s.station i).stopTimers with state := .paused, condition := .bladeWorn }
        (haltSource i) (.halt .bladeWorn .paused none (some k) (some q.cutsDone) none)
      ∧ t.line l = (s.line l).counted noise := by
  have hdull : s.bladeSharp i = false := by rw [State.bladeSharp, hb, Option.any_some, hworn]; rfl
  obtain ⟨hstops, hline, hst'⟩ := pauseWorn_stops hst hik hk (i := i) (by rw [hl]; exact hp)
  have hpaused : ((s.pauseWorn i).station i).state = .paused := by rw [hst']
  rw [afterFinish_more h, if_pos hst, hdull, if_neg Bool.false_ne_true,
    superviseAgain_idle (by rw [hpaused]; decide) (by rw [hpaused]; decide), takenFrame_eq] at ht
  rw [hl] at hline
  rw [ht]
  exact ⟨stopsAt_setLine hstops hl _, (slot_put_same ..).trans (congrArg (Line.counted · noise) hline)⟩

/-- A FINISH with cuts remaining and wear left: the next order (R77, R81). -/
theorem finish_orders {b : Blade} (h : s.allCutsDone k = false) (hst : (s.station i).state = .cutting)
    (hb : s.blade i = some b) (hsharp : 0 < b.wearRemaining) :
    s.afterFinish i k = s.dispatch i := by
  have hs : s.bladeSharp i = true := by rw [State.bladeSharp, hb, Option.any_some]; exact decide_eq_true hsharp
  rw [afterFinish_more h, if_pos hst, if_pos hs]

/-- Blade, water and the water's notice stand as the bookings left them (R104, R117). -/
theorem finish_apart (z : State) (noise : Bool) :
    Apart True z ((((z.orderOver i).afterFinish i k).superviseAgain i).takenFrame l noise) :=
  (((apart_setStation ..).trans (apart_afterFinish ..)).trans (apart_superviseAgain ..)).trans (apart_setLine _ _ rfl)

/-- With cuts remaining behind the bookings, plans and the other stations stand so too, and the other lines
(R47, R81). -/
theorem finish_alone (h : z.cutsLeft k i) (noise : Bool) (ht : t =
      (((z.orderOver i).afterFinish i k).superviseAgain i).takenFrame l noise) :
    t.plans = z.plans ∧ t.stations = put z.stations i (t.station i)
      ∧ ∀ j, j ≠ l → j ≠ z.plantLine → j ≠ z.stationLine i → t.line j = z.line j := by
  have hmore : (z.orderOver i).allCutsDone k = false := by
    rw [State.allCutsDone, Option.any_eq_false]
    intro q hq
    have := h.1 q hq
    rw [decide_eq_false_iff_not]
    omega
  have halone : Alone z (((z.orderOver i).afterFinish i k).superviseAgain i) i :=
    ((alone_setStation ..).trans (alone_afterFinish hmore i)).trans (alone_superviseAgain ..)
  rw [takenFrame_eq] at ht
  rw [ht]
  refine ⟨halone.plans, slot_ext fun j => ?_, fun j hj hp hs => (slot_put_ne _ _ hj.symm).trans (halone.lines j hs hp)⟩
  rw [slot_put]
  split
  · next e => rw [← e]; rfl
  · next e => exact halone.stations j fun e' => e e'.symm

end Settled

end Sys2Proof.Machine

namespace Sys2Proof.Machine

/-- A FINISH of the last cut, every pass reported: nothing is booked and the plan closes (R47, R48, R81, R96). -/
theorem exec_lastFinish {s : State} {l : Fin 5} {i : Fin 4} {k : Fin 12} {p : Plan} {cut : Nat} {n : Fin 512} {x : Slab}
    (he : (s.line l).enabled = true) (hbr : (s.line l).inBreak = false) (hu : s.userOf l = .station i)
    (hl : s.stationLine i = l) (hp : s.plantLine ≠ l)
    (hst : (s.station i).state = .cutting ∨ (s.station i).state = .holding
      ∨ (s.station i).state = .paused ∨ (s.station i).state = .faulted)
    (hout : (s.station i).orderOutstanding = true) (hik : (s.station i).plan = some k) (hk : s.plan k = some p)
    (hcut : p.cutsDone = cut) (hlast : cut + 1 = p.cuts.length) (hall : p.passCount.getD 0 ≤ p.passesReported)
    (hn : s.tagNames p.slabTag n x) (hrack : x.rack = none) (noise : Bool) :
    ∃ t, exec (.finish l noise (s.station i).toggle cut) s = .next t ∧ s.closesPlan t i k p n x ∧ t.port = s.port
      ∧ t.line l = (s.line l).withdrawn.counted noise := by
  obtain ⟨c, hc⟩ : ∃ c, p.cuts[cut]? = some c := ⟨_, List.getElem?_eq_getElem (by omega)⟩
  have hnone : p.passCount.getD 0 - p.passesReported = 0 := Nat.sub_eq_zero_of_le hall
  have hexec := exec_finish he hbr hu hst hout hik hk hcut hc noise rfl rfl
  rw [hnone, List.range_zero, List.map_nil, List.foldl_nil] at hexec
  obtain ⟨q, hq⟩ : ∃ q : Plan, q = { p with
      remainingTravel := p.remainingTravel.map (· - c.travel * 0)
      cuts := p.cuts.set cut { c with state := .done }, cutsDone := cut + 1, passesReported := 0
      touched := true } := ⟨_, rfl⟩
  obtain ⟨st, hst'⟩ : ∃ st : Station, st = { s.station i with
      replyTimer := if (s.station i).state = .cutting then none else (s.station i).replyTimer
      passesTaken := 0, orderOutstanding := false } := ⟨_, rfl⟩
  obtain ⟨w, hw⟩ : ∃ w, w = (s.setPlan k (some q)).setStation i st := ⟨_, rfl⟩
  have hover : (s.finishing i k p c cut 0).orderOver i = w := by
    have hown (y : Station) : ((s.setPlan k (some q)).setStation i y).station i = y := slot_put_same ..
    rw [State.orderOver, State.finishing, ← hq, hown, hw, hst']
    simp only [State.setStation, put_put_same]
  rw [hover] at hexec
  have hwk : w.plan k = some q := by rw [hw]; exact slot_put_same ..
  have hdone : q.cutsDone = q.cuts.length := by
    rw [hq]
    exact hlast.trans (List.length_set ..).symm
  have htag : q.slabTag = p.slabTag := by rw [hq]
  have hwn : w.tagNames q.slabTag n x := by rw [htag, hw]; exact hn
  have hwl : w.stationLine i = l := by rw [hw]; exact hl
  have hwp : w.plantLine ≠ l := by rw [hw]; exact hp
  obtain ⟨hcloses, hport, hline⟩ := finish_closes hwk hdone hwn hrack hwl hwp noise rfl
  have hunbound : st.unbound = (s.station i).unbound := by rw [hst']; rfl
  have hstate : st.state = (s.station i).state := by rw [hst']
  refine ⟨_, hexec, closesPlan_finished hw (by rw [hq]) hunbound hstate hcloses, ?_, ?_⟩
  · rw [hport, hw]; rfl
  · rw [hline, hw]; rfl

/-- A FINISH as the statements give it, its depths by pass count, pass depth and thickness (R47, R80, R81). -/
theorem exec_finish_stated {s : State} {l : Fin 5} {i : Fin 4} {k : Fin 12} {p : Plan} {c : Cut} {n : Fin 512}
    {x : Slab}
    {z : State} {depths : List Nat} {cut count d : Nat} (he : (s.line l).enabled = true)
    (hbr : (s.line l).inBreak = false) (hu : s.userOf l = .station i)
    (hst : (s.station i).state = .cutting ∨ (s.station i).state = .holding
      ∨ (s.station i).state = .paused ∨ (s.station i).state = .faulted)
    (hout : (s.station i).orderOutstanding = true) (hik : (s.station i).plan = some k) (hk : s.plan k = some p)
    (hcut : p.cutsDone = cut) (hc : p.cuts[cut]? = some c) (hx : s.slabOf p.slabTag = some (n, x))
    (hcount : p.passCount = some count) (hd : p.passDepth = some d)
    (hdepths : depths = (List.range (count - p.passesReported)).map fun j =>
      if p.passesReported + j + 1 < count then d else x.thickness - d * (count - 1))
    (hz : z = depths.foldl (fun y h => y.bookUnreported i k p c.travel h)
      (s.finishing i k p c cut (count - p.passesReported))) (noise : Bool) :
    exec (.finish l noise (s.station i).toggle cut) s
      = .next ((((z.orderOver i).afterFinish i k).superviseAgain i).takenFrame l noise) := by
  rw [← unreportedDepths_eq hx hcount hd] at hdepths
  refine exec_finish he hbr hu hst hout hik hk hcut hc noise hdepths ?_
  rw [hz, hcount, Option.getD_some]

/-- Cuts remain behind a cut just DONE that was not the last, its plan named by its station alone (R47). -/
theorem cutsLeft_finishing {s : State} {i : Fin 4} {k : Fin 12} {p : Plan} {cut : Nat} (hmore : cut + 1 < p.cuts.length)
    (hnamed : ∀ j, j ≠ i → (s.station j).plan ≠ some k) (c : Cut) (u : Nat) :
    (s.finishing i k p c cut u).cutsLeft k i := by
  refine ⟨fun q hq => ?_, fun j hj => ?_⟩
  · have hq' : some _ = some q := (slot_put_same s.plans k _).symm.trans hq
    cases hq'
    rw [List.length_set]
    exact hmore
  · have : (s.finishing i k p c cut u).station j = s.station j := slot_put_ne _ _ hj.symm
    rw [this]
    exact hnamed j hj

/-- Settles O25: an unreported pass by `bookUnreported_eq`; a FINISH by its bookings and what follows them, one lemma a
course; the close by `closePlan_closes`; remnants by `createRemnant_eq` and `freeTag_eq`. -/
theorem lastFinishBooksTheRestAndClosesThePlan : Obligations.LastFinishBooksTheRestAndClosesThePlan := by
  refine ⟨?_, ?_, ?_, ?_, fun p basis sn hsn => remnants_eq basis hsn, ?_⟩
  · intro s i k p q travel depth sum sn b kept hk hb hsn hsum hkept
    have hhard : p.hardness = sn.entry.hardness := by rw [Plan.hardness, hsn]; rfl
    have hdens : p.density = sn.entry.density := by rw [Plan.density, hsn]; rfl
    refine ⟨_, s.pressRequested (travel * p.kerf * depth * p.density), bookUnreported_eq hk hb travel depth, ?_,
      enqueuedOnly_of rfl, ?_⟩
    · rw [hkept, ← hdens]
      rfl
    · rw [hkept, hsum, ← hdens, ← hhard]
      rfl
  · intro s l i noise cut count d k p c n x sn b depths z he hbr hu hst hout hik hk hcut hc hx hsn hb hcount hd
      hdepths hz
    have hhard : p.hardness = sn.entry.hardness := by rw [Plan.hardness, hsn]; rfl
    have hdens : p.density = sn.entry.density := by rw [Plan.density, hsn]; rfl
    obtain ⟨f, hf⟩ : ∃ f, f = s.finishing i k p c cut (count - p.passesReported) := ⟨_, rfl⟩
    have hzf : z = depths.foldl (fun y h => y.bookUnreported i k p c.travel h) f := by rw [hz, hf]; rfl
    have hexec := exec_finish_stated he hbr hu hst hout hik hk hcut hc hx hcount hd hdepths (hf ▸ hzf) noise
    obtain ⟨e, heb, hleft, hcarry, hothers, hkept⟩ :=
      bookings_worn (s := f) (i := i) (k := k) (by rw [hf]; exact hb) rfl rfl p c.travel depths
    rw [← hzf] at heb hothers hkept
    rw [hhard] at hleft hcarry
    rw [hdens] at hkept
    have hfs : f.blades = s.blades ∧ f.water = s.water ∧ f.lineMap = s.lineMap := by rw [hf]; exact ⟨rfl, rfl, rfl⟩
    obtain ⟨hfb, hfw, hfm⟩ := hfs
    have hmap : z.lineMap = s.lineMap := by rw [hzf, (kept_bookings ..).lineMap, hfm]
    have hap := finish_apart (l := l) (i := i) (k := k) z noise
    refine ⟨_, e, hexec, (congrArg (slot · i) hap.blades).trans heb, hleft, hcarry, fun j hj => ?_,
      hap.kept.trans (hkept.trans (by rw [hfw]; rfl)), hap.blades, hap.water, hap.notice trivial,
      fun hmore hnamed _ _ => ?_⟩
    · refine (congrArg (slot · j) hap.blades).trans ((hothers j hj).trans ?_)
      rw [State.blade, hfb]; rfl
    · have hcuts : z.cutsLeft k i := by
        rw [hzf]
        exact cutsLeft_bookings (hf ▸ cutsLeft_finishing hmore hnamed c _) ..
      obtain ⟨h1, h2, h3⟩ := finish_alone hcuts noise (l := l) rfl
      refine ⟨h1, h2, fun j hj hp hs => h3 j hj ?_ ?_⟩
      · rw [State.plantLine, hmap]; exact hp
      · rw [State.stationLine, hmap]; exact hs
  · intro s l i noise cut count d k p c n x depths z w st q he hbr hu hl hpl hst hout hik hk hcut hc hx hcount hd
      hdepths hz hw hwst hstk hwk
    obtain ⟨f, hf⟩ : ∃ f, f = s.finishing i k p c cut (count - p.passesReported) := ⟨_, rfl⟩
    have hzf : z = depths.foldl (fun y h => y.bookUnreported i k p c.travel h) f := by rw [hz, hf]; rfl
    have hexec := exec_finish_stated he hbr hu hst hout hik hk hcut hc hx hcount hd hdepths (hf ▸ hzf) noise
    have hover : z.orderOver i = w := hw.symm
    rw [hover] at hexec
    have hkz : Kept f z := by rw [hzf]; exact kept_bookings ..
    have hkw : w.lineMap = s.lineMap ∧ w.settings = s.settings ∧ w.port = s.port := by
      rw [hw]
      refine ⟨hkz.lineMap.trans ?_, hkz.settings.trans ?_, hkz.port.trans ?_⟩ <;> rw [hf] <;> rfl
    obtain ⟨hmap, hset, hport⟩ := hkw
    have hwl : w.stationLine i = l := by rw [State.stationLine, hmap]; exact hl
    have hwp : w.plantLine ≠ l := by rw [State.plantLine, hmap]; exact hpl
    have hline : w.line l = z.line l := by rw [hw]; rfl
    rw [hwst] at hstk
    refine ⟨fun hlast m y hm hrack => ?_, fun hne => ?_⟩
    · obtain ⟨hcloses, hport', hline'⟩ := finish_closes hwk hlast hm hrack hwl hwp noise rfl
      exact ⟨_, hexec, hcloses, hport'.trans hport, hline'.trans (by rw [hline]; rfl)⟩
    · have hmore : w.allCutsDone k = false := by
        rw [Bool.eq_false_iff, ne_eq, allCutsDone_iff hwk]
        exact hne
      refine ⟨fun hcutting => ?_, fun b hcutting hb => ⟨fun hworn => ?_, fun hsharp next sn m y limit hnext hsn hy hyc
        hlimit => ?_⟩⟩
      · rw [hexec, finish_stays hmore (by rw [← hwst]; exact hcutting), hwst, hset, hline]
      · obtain ⟨hstops, hline'⟩ := finish_pauses hwk hmore (by rw [← hwst]; exact hcutting) hstk hb hworn hwl
          hwp noise rfl
        rw [hwst]
        exact ⟨_, hexec, hstops, hline'.trans (by rw [hline])⟩
      · have hen : (w.line l).enabled = true := by
          rw [hline, hzf, bookings_enabled, hf]
          exact he
        have hpass : (w.station i).passesTaken = 0 := by
          rw [hw]
          exact congrArg Station.passesTaken (slot_put_same ..)
        have hcw : (w.station i).state = .cutting := by rw [← hwst]; exact hcutting
        rw [hexec, finish_orders hmore hcw hb hsharp,
          nextOrder_sent hcw hstk hwk hnext hsn hy hyc hwl hen hpass hlimit, hwst, hset, hline]
        rfl
  · intro s l i noise cut k p n x he hbr hu hl hpl hst hout hik hk hcut hlast hall hn hrack
    obtain ⟨t, hexec, hcloses, hport, hline⟩ :=
      exec_lastFinish he hbr hu hl hpl hst hout hik hk hcut hlast hall hn hrack noise
    refine ⟨t, hexec, hcloses, hport, hline, fun h1 h2 => ?_⟩
    obtain ⟨stocked, hstocked, -, hstock, -⟩ := hcloses
    obtain ⟨-, -, hnx, -⟩ := hn
    rw [hstocked] at hstock
    exact closed_counts hnx h1 h2 hstock
  · intro s parent rect basis n tag hn hlow hc1 hc2 h1 h2 hfree hbefore
    obtain ⟨t, ht, hqueue, heq⟩ := createRemnant_eq (parent := parent) (rect := rect) (basis := basis) hn
      fun m hm => hlow m hm
    rw [State.remnantRecord, freeTag_eq hc1 hc2 h1 h2 hfree hbefore] at heq
    exact ⟨t, ht, hqueue, heq⟩

end Sys2Proof.Machine

namespace Sys2Proof.Machine

/-! ### Lines, stations and jobs: what each step keeps (R33, R50, R62, R69, R77, R93, R131, R140) -/

section Orderliness

variable {e w : Fin 4 → Prop} {s t u : State} {i : Fin 4} {l : Fin 5}

/-- One line of the transmit law: a frame of each kind at most, and silence while disabled (R50, R62). -/
def Line.silentOrSingle (x : Line) : Prop :=
  (x.queue.map fun f => f.message.kindCode).Nodup ∧ (x.enabled = false → x.queue = [] ∧ x.transmitter = .off)

/-- The third clause of the order law at one station (R77). -/
def State.orderedAt (s : State) (i : Fin 4) : Prop :=
  (s.station i).orderOutstanding = true → ∃ k p, (s.station i).plan = some k ∧ s.plan k = some p
    ∧ p.cutsDone < p.cuts.length
    ∧ ∀ f o, f ∈ (s.line (s.stationLine i)).queue → f.message = .order o →
      o.plan = k ∧ o.cut = p.cutsDone ∧ f.toggle = (s.station i).toggle

/-- The first clause of the order law at one station (R77). -/
def State.flowsAt (s : State) (i : Fin 4) : Prop := (s.station i).state = .cutting → 0 < s.water.factor

/-- The second clause of the order law at one station (R93). -/
def State.heldAt (s : State) (i : Fin 4) : Prop :=
  (s.station i).state = .paused → (s.station i).condition = .waterHold → s.water.factor < s.thresholds.resume

theorem orderLaw_iff : s.orderLaw ↔ (∀ i, s.flowsAt i) ∧ (∀ i, s.heldAt i) ∧ ∀ i, s.orderedAt i := Iff.rfl

/-- What the order law rests on: sound queues and Line Map, and stations paired off with BOUND plans (R62, R64, R69,
R74, R109). -/
structure State.Paired (s : State) : Prop where
  transmit : s.transmitLaw
  lineMap : s.lineMap.toList.Nodup
  binding : s.bindingLaw
  named : ∀ i k, (s.station i).plan = some k → ∃ p, s.plan k = some p ∧ p.state = .bound ∧ p.station = some i
  resume : 0 < s.thresholds.resume

/-- The job line law of the records and the designation law (R33, R131). -/
structure State.JobsSound (s : State) : Prop where
  within : ∀ n j, s.job n = some j → j.withinTargets
  designations : s.designationLaw

/-- From `s` to `t` the laws of lines, stations and jobs are kept, each on its own. -/
structure LawsKept (s t : State) : Prop where
  stock : StockKept False s t
  lineMap : t.lineMap = s.lineMap
  images : ∀ P, s.everyImage P → t.everyImage P
  transmit : s.transmitLaw → t.transmitLaw
  binding : s.bindingLaw → t.bindingLaw
  closed : s.closedJobLaw → t.closedJobLaw
  jobs : s.tagLaw → s.holdingLaw → s.JobsSound → t.JobsSound
  names : ∀ i k, (t.station i).plan = some k → (s.station i).plan = some k
  resume : 0 < s.thresholds.resume → 0 < t.thresholds.resume

/-- From `s` to `t` those laws are kept, and of a paired state the order law: the clause of the orders for the stations
in `e`, that of the holds by water for those in `w`. -/
structure Orderly (e w : Fin 4 → Prop) (s t : State) : Prop extends LawsKept s t where
  named : s.Paired → ∀ i k, (t.station i).plan = some k →
    ∃ p, t.plan k = some p ∧ p.state = .bound ∧ p.station = some i
  ordered : s.Paired → ∀ i, e i → s.orderedAt i → t.orderedAt i
  flows : s.Paired → ∀ i, s.flowsAt i → t.flowsAt i
  held : s.Paired → ∀ i, w i → s.heldAt i → t.heldAt i

theorem LawsKept.trans (h : LawsKept s t) (g : LawsKept t u) : LawsKept s u where
  stock := h.stock.trans g.stock
  lineMap := g.lineMap.trans h.lineMap
  images P hp := g.images P (h.images P hp)
  transmit hl := g.transmit (h.transmit hl)
  binding hl := g.binding (h.binding hl)
  closed hl := g.closed (h.closed hl)
  jobs ht hh hj := g.jobs (h.stock.records.tag ht) (h.stock.holding ht hh) (h.jobs ht hh hj)
  names i k hk := h.names i k (g.names i k hk)
  resume hr := g.resume (h.resume hr)

/-- What a paired state shows is to be shown of paired states alone. -/
theorem LawsKept.orderly (h : LawsKept s t) (g : s.Paired → Orderly e w s t) : Orderly e w s t :=
  ⟨h, fun hs => (g hs).named hs, fun hs => (g hs).ordered hs, fun hs => (g hs).flows hs, fun hs => (g hs).held hs⟩

theorem Orderly.paired (h : Orderly e w s t) (hs : s.Paired) : t.Paired where
  transmit := h.transmit hs.transmit
  lineMap := h.lineMap ▸ hs.lineMap
  binding := h.binding hs.binding
  named := h.named hs
  resume := h.resume hs.resume

theorem Orderly.refl (s : State) : Orderly e w s s where
  stock := .refl s
  lineMap := rfl
  images _ := id
  transmit := id
  binding := id
  closed := id
  jobs _ _ := id
  names _ _ := id
  named hs := hs.named
  resume := id
  ordered _ _ _ := id
  flows _ _ := id
  held _ _ _ := id

theorem Orderly.trans (h : Orderly e w s t) (g : Orderly e w t u) : Orderly e w s u where
  toLawsKept := h.toLawsKept.trans g.toLawsKept
  named hs := g.named (h.paired hs)
  ordered hs i hi ho := g.ordered (h.paired hs) i hi (h.ordered hs i hi ho)
  flows hs i hf := g.flows (h.paired hs) i (h.flows hs i hf)
  held hs i hi hf := g.held (h.paired hs) i hi (h.held hs i hi hf)

theorem Orderly.mono {d v : Fin 4 → Prop} (h : Orderly e w s t) (hd : ∀ i, d i → e i) (hv : ∀ i, v i → w i) :
    Orderly d v s t :=
  { h with ordered := fun hs i hi => h.ordered hs i (hd i hi), held := fun hs i hi => h.held hs i (hv i hi) }

theorem Orderly.ite {c : Prop} [Decidable c] (h : Orderly e w s t) (g : Orderly e w s u) :
    Orderly e w s (if c then t else u) := by
  split
  · exact h
  · exact g

theorem Orderly.foldl {α : Type} {f : State → α → State} (h : ∀ s a, Orderly e w s (f s a)) (xs : List α)
    (s : State) : Orderly e w s (xs.foldl f s) := by
  induction xs generalizing s with
  | nil => exact .refl s
  | cons a as ih => exact (h s a).trans (ih (f s a))

/-- From `x` to `y` a station record takes up no order, plan or cutting and is not newly held back by water; a state
that demands a plan or its absence is entered only where the old one did, or where it is met. -/
structure Station.Eases (x y : Station) : Prop where
  plan : y.plan = x.plan
  order : y.orderOutstanding = true → x.orderOutstanding = true ∧ y.toggle = x.toggle
  demands : ∀ b, y.state.demandsPlan = some b → x.state.demandsPlan = some b ∨ x.plan.isSome = b
  cuts : y.state = .cutting → x.state = .cutting
  held : y.state = .paused → y.condition = .waterHold → x.state = .paused ∧ x.condition = .waterHold

theorem Station.Eases.refl (x : Station) : x.Eases x :=
  ⟨rfl, fun h => ⟨h, rfl⟩, fun _ => .inl, id, fun h g => ⟨h, g⟩⟩

/-- The state stays, and the condition, if it does not, is not WATER_HOLD. -/
theorem Station.Eases.stays {x y : Station} (hp : y.plan = x.plan)
    (ho : y.orderOutstanding = true → x.orderOutstanding = true) (ht : y.toggle = x.toggle) (hs : y.state = x.state)
    (hc : y.condition = .waterHold → x.condition = .waterHold ∨ x.state ≠ .paused) : x.Eases y where
  plan := hp
  order h := ⟨ho h, ht⟩
  demands _ hb := .inl (hs ▸ hb)
  cuts h := hs ▸ h
  held h g := ⟨hs ▸ h, (hc g).resolve_right fun hne => hne (hs ▸ h)⟩

/-- Another state entered, the rest as it was. -/
theorem Station.Eases.enters {x : Station} {new : StationState}
    (hd : ∀ b, new.demandsPlan = some b → x.state.demandsPlan = some b ∨ x.plan.isSome = b)
    (hc : new = .cutting → x.state = .cutting)
    (hh : new = .paused → x.condition = .waterHold → x.state = .paused) : x.Eases { x with state := new } where
  plan := rfl
  order h := ⟨h, rfl⟩
  demands := hd
  cuts := hc
  held h g := ⟨hh h g, g⟩

/-- From `s` to `t` no order is begun, no job changed, the factor stands, and stations at most ease off. -/
structure Quiet (s t : State) : Prop where
  stock : Undisturbed s t
  lineMap : t.lineMap = s.lineMap
  images : ∀ P, s.everyImage P → t.everyImage P
  jobs : t.jobs = s.jobs
  factor : t.water.factor = s.water.factor
  resume : t.thresholds.resume = s.thresholds.resume
  lines : ∀ l, (s.line l).silentOrSingle → (t.line l).silentOrSingle
  orders : ∀ l f o, f ∈ (t.line l).queue → f.message = .order o → f ∈ (s.line l).queue
  stations : ∀ i, (s.station i).Eases (t.station i)

theorem course_states {p q : Plan} (h : q.course = p.course) : q.state = p.state ∧ q.station = p.station
    ∧ q.pieces = p.pieces ∧ q.cutsDone = p.cutsDone ∧ q.cuts = p.cuts := by
  simp only [Plan.course, Plan.mk.injEq] at h
  tauto

theorem everyImage_congr {P : Image → Prop} (h1 : t.retention.pages = s.retention.pages)
    (h2 : t.retention.write = s.retention.write) (h : s.everyImage P) : t.everyImage P := by
  unfold State.everyImage State.page at h ⊢
  rw [h1, h2]
  exact h

theorem closedJobLaw_congr (h : t.jobs = s.jobs) (hl : s.closedJobLaw) : t.closedJobLaw := by
  unfold State.closedJobLaw State.job at hl ⊢
  rw [h]
  exact hl

theorem jobLine_of_jobs (h : t.jobs = s.jobs) (a : Nat) (b : Fin 8) : t.jobLine a b = s.jobLine a b := by
  unfold State.jobLine State.jobOf State.findJob State.job
  rw [h]

/-- With the same jobs and the same PART leaves in every plan the job laws stand. -/
theorem State.JobsSound.congr (h : t.jobs = s.jobs)
    (hp : ∀ k, (t.plan k).map Plan.pieces = (s.plan k).map Plan.pieces) (hj : s.JobsSound) : t.JobsSound := by
  obtain ⟨hwithin, hunique, hcount⟩ := hj
  have hjob (n : Fin 96) : t.job n = s.job n := by rw [State.job, h]; rfl
  refine ⟨fun n j hn => hwithin n j (hjob n ▸ hn), fun n m j x hn hm => ?_, fun a b => ?_⟩
  · exact hunique n m j x (hjob n ▸ hn) (hjob m ▸ hm)
  · rw [jobLine_of_jobs h, hcount]
    congr 1
    refine List.map_congr_left fun k _ => ?_
    have := congrArg (Option.map fun v : Vector Piece 64 => v.toList.countP fun
      | .leaf _ _ d => decide (d = some (.part a b))
      | _ => false) (hp k)
    rw [Option.map_map, Option.map_map] at this
    exact (congrArg (Option.getD · 0) this).symm

/-- The binding law read off the stations that eased. -/
theorem bindingLaw_of_eases (h : ∀ i, (s.station i).Eases (t.station i)) (hl : s.bindingLaw) : t.bindingLaw := by
  intro i b hb
  rw [(h i).plan]
  exact ((h i).demands b hb).elim (hl i b) id

theorem Quiet.orderly (h : Quiet s t) : Orderly e w s t where
  stock := h.stock.kept
  lineMap := h.lineMap
  images := h.images
  transmit hl l := h.lines l (hl l)
  binding := bindingLaw_of_eases h.stations
  closed := closedJobLaw_congr h.jobs
  jobs _ _ := State.JobsSound.congr h.jobs fun k => by
    have := congrArg (Option.map Plan.pieces) (h.stock.plans k)
    rwa [Option.map_map, Option.map_map] at this
  names i k hk := (h.stations i).plan ▸ hk
  named hs i k hk := by
    obtain ⟨p, hp, hb, hi⟩ := hs.named i k ((h.stations i).plan ▸ hk)
    obtain ⟨q, hq, hc⟩ := h.stock.plan_on hp
    obtain ⟨hstate, hstation, -⟩ := course_states hc
    exact ⟨q, hq, hstate.trans hb, hstation.trans hi⟩
  resume := h.resume ▸ id
  ordered _ i _ ho hout := by
    obtain ⟨hout, htog⟩ := (h.stations i).order hout
    obtain ⟨k, p, hk, hp, hlt, hq⟩ := ho hout
    obtain ⟨q, hq', hc⟩ := h.stock.plan_on hp
    obtain ⟨-, -, -, hdone, hcuts⟩ := course_states hc
    refine ⟨k, q, (h.stations i).plan.trans hk, hq', by rw [hdone, hcuts]; exact hlt, fun f o hf hfo => ?_⟩
    rw [State.stationLine, h.lineMap] at hf
    rw [hdone, htog]
    exact hq f o (h.orders _ f o hf hfo) hfo
  flows _ i hf hc := by rw [h.factor]; exact hf ((h.stations i).cuts hc)
  held _ i _ hh h1 h2 := by
    obtain ⟨h1, h2⟩ := (h.stations i).held h1 h2
    rw [h.factor, h.resume]
    exact hh h1 h2

/-! #### The operations that are quiet -/

theorem eases_refl (s : State) (i : Fin 4) : (s.station i).Eases (s.station i) := .refl _

/-- A state that differs in none of the fields these laws read. -/
theorem Quiet.of_fields (h1 : t.stock = s.stock) (h2 : t.plans = s.plans) (h3 : t.stations = s.stations)
    (h4 : t.lines = s.lines) (h5 : t.lineMap = s.lineMap) (h6 : t.water.factor = s.water.factor)
    (h7 : t.thresholds.resume = s.thresholds.resume) (h8 : t.jobs = s.jobs)
    (h9 : t.retention.pages = s.retention.pages) (h10 : t.retention.write = s.retention.write) : Quiet s t where
  stock := .of_fields h1 h2 h3
  lineMap := h5
  images _ := everyImage_congr h9 h10
  jobs := h8
  factor := h6
  resume := h7
  lines l h := by rw [State.line, h4]; exact h
  orders l f o h _ := by rw [State.line, h4] at h; exact h
  stations i := by
    have e : t.station i = s.station i := by rw [State.station, h3]; rfl
    rw [e]; exact .refl _

/-- So, too, it keeps the laws. -/
theorem Orderly.of_fields (h1 : t.stock = s.stock) (h2 : t.plans = s.plans) (h3 : t.stations = s.stations)
    (h4 : t.lines = s.lines) (h5 : t.lineMap = s.lineMap) (h6 : t.water.factor = s.water.factor)
    (h7 : t.water.kept.thresholds.resume = s.water.kept.thresholds.resume) (h8 : t.jobs = s.jobs)
    (h9 : t.retention.pages = s.retention.pages) (h10 : t.retention.write = s.retention.write) : Orderly e w s t :=
  (Quiet.of_fields h1 h2 h3 h4 h5 h6 h7 h8 h9 h10).orderly

theorem orderly_setBlade (s : State) (i : Fin 4) (b : Option Blade) : Orderly e w s (s.setBlade i b) :=
  .of_fields rfl rfl rfl rfl rfl rfl rfl rfl rfl rfl
theorem orderly_enqueue (s : State) (p : Fin 648) : Orderly e w s (s.enqueue p) :=
  .of_fields rfl rfl rfl rfl rfl rfl rfl rfl rfl rfl
theorem orderly_raise (s : State) (src : Fin 24) (d : Detail) : Orderly e w s (s.raise src d) :=
  .of_fields rfl rfl rfl rfl rfl rfl rfl rfl rfl rfl
theorem orderly_answer (s : State) (echo : Byte) (code : ReplyCode) (fs : List Byte) :
    Orderly e w s (s.answer echo code fs) :=
  .of_fields rfl rfl rfl rfl rfl rfl rfl rfl rfl rfl

/-- The water record changed but for F and the resume factor. -/
theorem orderly_onWater (s : State) {f : Water → Water} (h1 : (f s.water).factor = s.water.factor)
    (h2 : (f s.water).kept.thresholds.resume = s.water.kept.thresholds.resume) : Orderly e w s (s.onWater f) :=
  .of_fields rfl rfl rfl rfl rfl h1 h2 rfl rfl rfl

theorem orderly_bookOverhead (s : State) (f : Overhead → Overhead) : Orderly e w s (s.bookOverhead f) :=
  .ite (.refl s) (.of_fields rfl rfl rfl rfl rfl rfl rfl rfl rfl rfl)

theorem orderly_addPool (s : State) (k : Fin 12) (f : Plan → Plan) (h : ∀ p, (f p).course = p.course) :
    Orderly e w s (s.updatePlan k f) :=
  Quiet.orderly
    { stock := undisturbed_updatePlan h, lineMap := rfl, images := fun _ => id, jobs := rfl, factor := rfl
      resume := rfl, lines := fun _ => id, orders := fun _ _ _ hf _ => hf, stations := eases_refl s }

/-- Stock and plans read alike, the laws of them stand alike. -/
theorem StockKept.congr (h1 : t.stock = s.stock) (h2 : t.plans = s.plans) : StockKept False s t :=
  ⟨.of_stock h1, fun _ hl => holdingLaw_of_plans hl h1 fun _ => by rw [State.plan, h2]; rfl, False.elim⟩

theorem State.JobsSound.congr' (h1 : t.jobs = s.jobs) (h2 : t.plans = s.plans) (h : s.JobsSound) : t.JobsSound :=
  State.JobsSound.congr h1 (fun _ => by rw [State.plan, h2]; rfl) h

/-- A station record changed, with the order it may keep, and what each law asks of its state. -/
theorem orderly_setPost (s : State) (i : Fin 4) {x : Station} (hp : x.plan = (s.station i).plan)
    (ho : x.orderOutstanding = true → (s.station i).orderOutstanding = true ∧ x.toggle = (s.station i).toggle)
    (hb : s.bindingLaw → ∀ b, x.state.demandsPlan = some b → (s.station i).plan.isSome = b)
    (hf : s.Paired → s.flowsAt i → x.state = .cutting → 0 < s.water.factor)
    (hh : s.Paired → w i → s.heldAt i → x.state = .paused → x.condition = .waterHold →
      s.water.factor < s.thresholds.resume) : Orderly e w s (s.setStation i x) where
  stock := .congr rfl rfl
  lineMap := rfl
  images _ := id
  transmit := id
  binding hl j b hj := by
    rw [station_setStation] at hj ⊢
    split at hj
    · rw [if_pos ‹_›, hp]; exact hb hl b hj
    · rw [if_neg ‹_›]; exact hl j b hj
  closed := id
  jobs _ _ := State.JobsSound.congr rfl fun _ => rfl
  names j k hk := by
    rw [station_setStation] at hk
    split at hk
    · next hij => subst hij; exact hp ▸ hk
    · exact hk
  named hs j k hk := by
    rw [station_setStation] at hk
    split at hk
    · next hij => subst hij; exact hs.named i k (hp ▸ hk)
    · exact hs.named j k hk
  resume := id
  ordered _ j _ hj hout := by
    rw [station_setStation] at hout ⊢
    split at hout
    · next hij =>
      subst hij
      obtain ⟨hout, htog⟩ := ho hout
      obtain ⟨k, p, hk, hrest⟩ := hj hout
      rw [if_pos rfl, hp, htog]
      exact ⟨k, p, hk, hrest⟩
    · rw [if_neg ‹_›]; exact hj hout
  flows hs j hj hc := by
    rw [station_setStation] at hc
    split at hc
    · next hij => subst hij; exact hf hs hj hc
    · exact hj hc
  held hs j hw hj h1 h2 := by
    rw [station_setStation] at h1 h2
    split at h1
    · next hij => subst hij; rw [if_pos rfl] at h2; exact hh hs hw hj h1 h2
    · next hij => rw [if_neg hij] at h2; exact hj h1 h2

theorem orderly_setStation (s : State) (i : Fin 4) {x : Station} (h : (s.station i).Eases x) :
    Orderly e w s (s.setStation i x) :=
  orderly_setPost s i h.plan h.order (fun hl b hb => (h.demands b hb).elim (hl i b) id)
    (fun _ hf hc => hf (h.cuts hc)) fun _ _ hh h1 h2 => hh (h.held h1 h2).1 (h.held h1 h2).2

/-- What the laws of stations read of a record. -/
def Station.post (x : Station) : Option (Fin 12) × Bool × Bool × StationState × Condition :=
  (x.plan, x.orderOutstanding, x.toggle, x.state, x.condition)

theorem Station.Eases.of_post {x y : Station} (h : y.post = x.post) : x.Eases y := by
  simp only [Station.post, Prod.mk.injEq] at h
  obtain ⟨hp, ho, ht, hs, hc⟩ := h
  exact .stays hp (fun h => ho ▸ h) ht hs fun h => .inl (hc ▸ h)

/-- A record changed in none of that. -/
theorem orderly_touch (s : State) (i : Fin 4) {x : Station} (h : x.post = (s.station i).post) :
    Orderly e w s (s.setStation i x) := orderly_setStation s i (.of_post h)

theorem line_setLine (s : State) (l m : Fin 5) (x : Line) : (s.setLine l x).line m = if l = m then x else s.line m :=
  slot_put ..

theorem quiet_setLine (s : State) (l : Fin 5) {x : Line} (h1 : (s.line l).silentOrSingle → x.silentOrSingle)
    (h2 : ∀ f o, f ∈ x.queue → f.message = .order o → f ∈ (s.line l).queue) : Quiet s (s.setLine l x) where
  stock := undisturbed_setLine ..
  lineMap := rfl
  images _ := id
  jobs := rfl
  factor := rfl
  resume := rfl
  lines m h := by
    rw [line_setLine]
    split
    · next hlm => subst hlm; exact h1 h
    · exact h
  orders m f o hf ho := by
    rw [line_setLine] at hf
    split at hf
    · next hlm => subst hlm; exact h2 f o hf ho
    · exact hf
  stations := eases_refl s

theorem orderly_setLine (s : State) (l : Fin 5) {x : Line} (h1 : (s.line l).silentOrSingle → x.silentOrSingle)
    (h2 : ∀ f o, f ∈ x.queue → f.message = .order o → f ∈ (s.line l).queue) : Orderly e w s (s.setLine l x) :=
  (quiet_setLine s l h1 h2).orderly

/-- A line changed but for its queue, its transmitter and whether it is enabled. -/
theorem orderly_setLine_same (s : State) (l : Fin 5) {x : Line} (h1 : x.queue = (s.line l).queue)
    (h2 : x.enabled = (s.line l).enabled) (h3 : x.transmitter = (s.line l).transmitter) :
    Orderly e w s (s.setLine l x) := by
  refine orderly_setLine s l (fun h => ?_) fun f o hf _ => h1 ▸ hf
  unfold Line.silentOrSingle at h ⊢
  rw [h1, h2, h3]
  exact h

/-- An ORDER behind a frame handed over is that frame, or, where it is no ORDER, waited before (R62, R63). -/
theorem mem_queueFrame {q : List TxFrame} {f g : TxFrame} {o : OrderInfo} (hg : g ∈ queueFrame q f)
    (ho : g.message = .order o) : g = f ∨ ((∀ o', f.message ≠ .order o') ∧ g ∈ q) := by
  have hkind : g.message.kindCode = 1 := by rw [ho]; rfl
  unfold queueFrame at hg
  split at hg
  · next hf =>
    rw [List.mem_cons, List.mem_filter] at hg
    exact hg.imp_right fun h => ⟨fun o' h' => by (rw [hf] at h'; cases h'), h.1⟩
  · next m hm =>
    split at hg
    · obtain ⟨g', hg', e⟩ := List.mem_map.mp hg
      split at e
      · exact .inl e.symm
      · next hne =>
        subst e
        refine .inr ⟨fun o' h' => ?_, hg'⟩
        rw [h', hkind] at hne
        exact hne rfl
    · next hany =>
      rw [List.mem_append, List.mem_singleton] at hg
      refine hg.symm.imp_right fun h => ⟨fun o' h' => hany ?_, h⟩
      rw [List.any_eq_true]
      exact ⟨g, h, by rw [hkind, h']; rfl⟩

theorem handed_silentOrSingle {x : Line} (h : x.silentOrSingle) (f : TxFrame) : (x.handed f).silentOrSingle := by
  obtain ⟨hnodup, hoff⟩ := h
  unfold Line.handed
  split
  · next he => exact ⟨queueFrame_nodup hnodup f, fun h => absurd (he.symm.trans h) (by decide)⟩
  · exact ⟨hnodup, hoff⟩

theorem mem_handed {x : Line} {f g : TxFrame} {o : OrderInfo} (hg : g ∈ (x.handed f).queue)
    (ho : g.message = .order o) (hf : ∀ o', f.message ≠ .order o') : g ∈ x.queue := by
  unfold Line.handed at hg
  dsimp only at hg
  split at hg
  · obtain rfl | ⟨-, h⟩ := mem_queueFrame hg ho
    · exact absurd ho (hf o)
    · exact h
  · exact hg

theorem orderly_handFrame (s : State) (l : Fin 5) {f : TxFrame} (hf : ∀ o, f.message ≠ .order o) :
    Orderly e w s (s.handFrame l f) := by
  rw [handFrame_eq]
  exact orderly_setLine s l (fun h => handed_silentOrSingle h f) fun g o hg ho => mem_handed hg ho hf

theorem orderly_handSaw (s : State) (i : Fin 4) {m : TxMessage} (hm : ∀ o, m ≠ .order o) :
    Orderly e w s (s.handSaw i m) := orderly_handFrame _ _ hm

theorem orderly_handPlant (s : State) {m : TxMessage} (hm : ∀ o, m ≠ .order o) : Orderly e w s (s.handPlant m) :=
  orderly_handFrame _ _ hm

theorem orderly_handHold (s : State) (i : Fin 4) : Orderly e w s (s.handHold i) := by
  unfold State.handHold
  exact .ite ((orderly_handSaw s i (by nofun)).trans (orderly_setStation _ i (by exact .stays rfl nofun rfl rfl .inl)))
    (orderly_handSaw s i (by nofun))

theorem orderly_settleTest (s : State) (v : Fin 5) : Orderly e w s (s.settleTest v) := by
  rw [settleTest_eq]
  exact orderly_onWater s rfl rfl

theorem orderly_commandValve (s : State) (v : Fin 5) (b : Bool) : Orderly e w s (s.commandValve v b) :=
  .ite (.refl s) (((orderly_onWater s rfl rfl).trans (orderly_handPlant _ (by nofun))).trans (orderly_settleTest ..))

/-- A state entered does what its record's change does, and a valve command. -/
theorem orderly_enters {x : StationState} (h : Orderly e w s (s.setStation i { s.station i with state := x })) :
    Orderly e w s (s.enterState i x) := .ite h (h.trans (orderly_commandValve ..))

theorem orderly_enterState (s : State) (i : Fin 4) {x : StationState}
    (h : (s.station i).Eases { s.station i with state := x }) : Orderly e w s (s.enterState i x) :=
  orderly_enters (orderly_setStation s i h)

theorem orderly_setCondition (s : State) (i : Fin 4) {c : Condition} (h : c ≠ .waterHold) :
    Orderly e w s (s.setCondition i c) :=
  orderly_setStation s i (by exact .stays rfl id rfl rfl fun hc => absurd hc h)

theorem orderly_forgetMode (s : State) (i : Fin 4) : Orderly e w s (s.forgetMode i) :=
  orderly_touch s i (by rfl)

theorem orderly_raiseHalt (s : State) (i : Fin 4) (c : Condition) : Orderly e w s (s.raiseHalt i c) :=
  orderly_raise ..

theorem orderly_raiseStop (s : State) (i : Fin 4) : Orderly e w s (s.raiseStop i) := by
  unfold State.raiseStop
  dsimp only
  split
  · exact orderly_raise ..
  · exact .refl s
  · exact orderly_raiseHalt ..

/-- FAULTED demands no plan and none absent. -/
theorem orderly_faultStation (s : State) (i : Fin 4) {c : Condition} (h : c ≠ .waterHold) :
    Orderly e w s (s.faultStation i c) :=
  ((orderly_setStation s i (by exact .stays rfl id rfl rfl fun hc => absurd hc h)).trans
    (orderly_enterState _ i (by exact .enters nofun nofun nofun))).trans (orderly_raiseStop ..)

theorem orderly_linkFault (s : State) (i : Fin 4) {c : Condition} (h : c ≠ .waterHold) :
    Orderly e w s (s.linkFault i c) :=
  ((orderly_forgetMode ..).trans (orderly_faultStation _ i h)).trans (orderly_handSaw _ i (by nofun))

theorem orderly_firstOrder (s : State) (tag : Nat) : Orderly e w s (s.firstOrder tag) := by
  unfold State.firstOrder
  have hu := undisturbed_firstOrder s tag
  unfold State.firstOrder at hu
  split at hu
  · exact .refl s
  · next n r h =>
    split at hu
    · next hheld =>
      rw [if_pos hheld]
      unfold State.rackAt at hu ⊢
      split at hu
      · exact Quiet.orderly ⟨hu, rfl, fun _ => id, rfl, rfl, rfl, fun _ => id, fun _ _ _ hf _ => hf, eases_refl s⟩
      · exact Quiet.orderly ⟨hu, rfl, fun _ => id, rfl, rfl, rfl, fun _ => id, fun _ _ _ hf _ => hf, eases_refl s⟩
    · next hheld => rw [if_neg hheld]; exact .refl s

theorem orderly_stopAcceptWait (s : State) (i : Fin 4) : Orderly e w s (s.stopAcceptWait i) :=
  .ite (orderly_touch s i (by rfl)) (.refl s)

theorem orderly_superviseAgain (s : State) (i : Fin 4) : Orderly e w s (s.superviseAgain i) := by
  unfold State.superviseAgain
  dsimp only
  split
  · exact orderly_touch s i (by rfl)
  · exact orderly_touch s i (by rfl)
  · exact .refl s

theorem orderly_countProgress (s : State) (i : Fin 4) (k : Fin 12) (a b : Nat) :
    Orderly e w s (s.countProgress i k a b) :=
  .ite (.refl s) (.ite ((orderly_touch s i (by rfl)).trans (orderly_raise ..))
    (orderly_touch s i (by rfl)))

theorem orderly_passWear (s : State) (i : Fin 4) (a b c : Nat) : Orderly e w s (s.passWear i a b c).1 := by
  unfold State.passWear
  split
  · exact .refl s
  · exact .trans (.ite ((orderly_setBlade ..).trans (orderly_raise ..)) (orderly_setBlade ..)) (orderly_enqueue ..)

end Orderliness

end Sys2Proof.Machine

namespace Sys2Proof.Machine

/-! ### Designated counts against PART leaves (R33, R131, R149) -/

section Designations

variable {s t : State} {a b : Nat} {k m : Fin 8} {n : Fin 96} {j y : Job} {q : Fin 12} {p : Plan}

/-- The designated count of a job line, 0 where there is none (R131). -/
def State.designatedOf (s : State) (a : Nat) (k : Fin 8) : Nat := ((s.jobLine a k).map (·.designated)).getD 0

/-- How many PART leaves of all plans name a job line (R33). -/
def State.namedParts (s : State) (a : Nat) (k : Fin 8) : Nat := ∑ q, ((s.plan q).map (·.partsOf a k)).getD 0

/-- The numbers of the live jobs are unique (R130). -/
def State.jobsUnique (s : State) : Prop :=
  ∀ n m j x, s.job n = some j → s.job m = some x → j.number = x.number → n = m

theorem designationLaw_iff :
    s.designationLaw ↔ s.jobsUnique ∧ ∀ a k, s.designatedOf a k = s.namedParts a k := by
  have h (a : Nat) (k : Fin 8) : s.namedParts a k
      = ((List.finRange 12).map fun q => ((s.plan q).map (·.partsOf a k)).getD 0).sum := Fin.sum_univ_def _
  simp only [h]
  rfl

theorem namedParts_put {x : Option Plan} (h : t.plans = put s.plans q x) (a : Nat) (k : Fin 8) :
    t.namedParts a k + ((s.plan q).map (·.partsOf a k)).getD 0
      = s.namedParts a k + (x.map (·.partsOf a k)).getD 0 := by
  have := sum_put s.plans (fun p => (p.map (·.partsOf a k)).getD 0) q x
  unfold State.namedParts State.plan
  rw [h]
  exact this

theorem namedParts_plans (h : t.plans = s.plans) (a : Nat) (k : Fin 8) : t.namedParts a k = s.namedParts a k := by
  unfold State.namedParts State.plan
  rw [h]

theorem jobsUnique_congr (h : ∀ n, (t.job n).map Job.number = (s.job n).map Job.number) (hs : s.jobsUnique) :
    t.jobsUnique := by
  intro n m j x hn hm e
  obtain ⟨j', hj', ej⟩ := map_eq_back (h n) hn
  obtain ⟨x', hx', ex⟩ := map_eq_back (h m) hm
  exact hs n m j' x' hj' hx' (ej.trans (e.trans ex.symm))

/-- The lookup by number reads the numbers alone. -/
theorem findJob_numbers (h : ∀ n, (t.job n).map Job.number = (s.job n).map Job.number) (a : Nat) :
    t.findJob a = s.findJob a := by
  have e (u : State) (n : Fin 96) : (slot u.jobs n).any (fun x => x.number == a)
      = ((u.job n).map Job.number).any fun x => x == a := by
    rw [Option.any_map]; rfl
  have same : (fun n => (slot t.jobs n).any fun x => x.number == a)
      = fun n => (slot s.jobs n).any fun x => x.number == a := by
    funext n
    rw [e, e, h]
  exact congrArg (fun p => (List.finRange 96).find? p) same

/-! #### A record replaced under its number -/

theorem jobNumbers_put (hj : s.job n = some j) (hy : y.number = j.number)
    (ht : ∀ i, t.job i = if n = i then some y else s.job i) (i : Fin 96) :
    (t.job i).map Job.number = (s.job i).map Job.number := by
  rw [ht]
  split
  · next h => subst h; rw [hj, Option.map_some, Option.map_some, hy]
  · rfl

theorem jobLine_put (hj : s.jobOf a = some (n, j)) (hy : y.number = j.number)
    (ht : ∀ i, t.job i = if n = i then some y else s.job i) (b : Nat) (m : Fin 8) :
    t.jobLine b m = if a = b then slot y.lines m else s.jobLine b m := by
  obtain ⟨hja, hjn⟩ := jobOf_eq.mp hj
  have hfind := findJob_numbers (jobNumbers_put hjn hy ht) b
  have hnum : j.number = a := by
    obtain ⟨z, hz, hza⟩ := findJob_some hja
    rw [hjn] at hz; cases hz
    exact hza
  split
  · next h =>
    subst h
    exact jobLine_of_jobOf (jobOf_eq.mpr ⟨hfind.trans hja, (ht n).trans (if_pos rfl)⟩) m
  · next hab =>
    cases hb : s.findJob b with
    | none => rw [jobLine_none (jobOf_none (hfind.trans hb)), jobLine_none (jobOf_none hb)]
    | some i =>
      obtain ⟨z, hz, hzb⟩ := findJob_some hb
      have hni : n ≠ i := by
        rintro rfl
        rw [hjn] at hz; cases hz
        exact hab (hnum.symm.trans hzb)
      rw [jobLine_of_jobOf (jobOf_eq.mpr ⟨hb, hz⟩),
        jobLine_of_jobOf (jobOf_eq.mpr ⟨hfind.trans hb, (ht i).trans ((if_neg hni).trans hz)⟩)]

theorem within_put (hs : ∀ n j, s.job n = some j → j.withinTargets) (hy : y.withinTargets)
    (ht : ∀ i, t.job i = if n = i then some y else s.job i) (i : Fin 96) (x : Job) (hx : t.job i = some x) :
    x.withinTargets := by
  rw [ht] at hx
  split at hx
  · cases hx; exact hy
  · exact hs i x hx

theorem withinTargets_setLine {x : Option JobLine} (hj : j.withinTargets)
    (hx : ∀ y, x = some y → y.delivered + y.designated ≤ y.target) : (j.setLine k x).withinTargets := by
  intro m y hy
  rw [Job.setLine, slot_put] at hy
  split at hy
  · exact hx y hy
  · exact hj m y hy

/-- A record replaced: no line of a CLOSED job comes to be designated. -/
theorem closedJobLaw_put (hs : s.closedJobLaw) (ht : ∀ i, t.job i = if n = i then some y else s.job i)
    (hy : y.closed = true → ∀ m x, slot y.lines m = some x → x.designated = 0) : t.closedJobLaw := by
  intro i z m x hz hc hx
  rw [ht] at hz
  split at hz
  · cases hz; exact hy hc m x hx
  · exact hs i z m x hz hc hx

/-! #### One part booked (R149) -/

theorem bookPart_cases (s : State) (a : Nat) (k : Fin 8) (c d : Nat) (mark : Bool) :
    (s.jobLine a k = none ∧ s.bookPart a k c d mark = s)
    ∨ ∃ n j x, s.jobOf a = some (n, j) ∧ slot j.lines k = some x
      ∧ s.bookPart a k c d mark = (s.setJob n (some (j.bookPart k x c d mark))).enqueue (jobPage n) := by
  unfold State.bookPart
  split
  · next h => exact .inl ⟨jobLine_none h k, rfl⟩
  · next n j h =>
    split
    · next hx => exact .inl ⟨(jobLine_of_jobOf h k).trans hx, rfl⟩
    · next x hx => exact .inr ⟨n, j, x, h, hx, rfl⟩

theorem jobNumbers_bookPart (s : State) (a : Nat) (k : Fin 8) (c d : Nat) (mark : Bool) (n : Fin 96) :
    ((s.bookPart a k c d mark).job n).map Job.number = (s.job n).map Job.number := by
  obtain ⟨-, e⟩ | ⟨n', j, x, hj, -, e⟩ := bookPart_cases s a k c d mark
  · rw [e]
  · rw [e]
    exact jobNumbers_put (y := j.bookPart k x c d mark) (jobOf_eq.mp hj).2 rfl (fun i => job_setJob s n' i _) n

theorem designatedOf_bookPart (s : State) (a : Nat) (k : Fin 8) (c d : Nat) (mark : Bool) (b : Nat) (m : Fin 8) :
    (s.bookPart a k c d mark).designatedOf b m = s.designatedOf b m - if a = b ∧ k = m then 1 else 0 := by
  obtain ⟨hnone, e⟩ | ⟨n, j, x, hj, hx, e⟩ := bookPart_cases s a k c d mark
  · rw [e]
    split
    · next h => obtain ⟨rfl, rfl⟩ := h; rw [State.designatedOf, hnone]; rfl
    · rfl
  · have hline : (s.bookPart a k c d mark).jobLine b m
        = if a = b then slot (j.bookPart k x c d mark).lines m else s.jobLine b m := by
      rw [e]
      exact jobLine_put (y := j.bookPart k x c d mark) hj rfl (fun i => job_setJob s n i _) b m
    rw [State.designatedOf, hline, State.designatedOf]
    by_cases hab : a = b
    · subst hab
      rw [if_pos rfl, jobLine_of_jobOf hj]
      change ((slot (put j.lines k _) m).map _).getD 0 = _
      rw [slot_put]
      split
      · next hkm => subst hkm; rw [hx, if_pos ⟨rfl, rfl⟩]; rfl
      · next hkm => rw [if_neg fun h => hkm h.2]; rfl
    · rw [if_neg hab, if_neg fun h => hab h.1]; rfl

/-- A designation that stands becomes a delivery: the line stays within its target (R131, R149). -/
theorem within_bookPart (hs : ∀ n j, s.job n = some j → j.withinTargets) {c d : Nat} {mark : Bool}
    (h : 1 ≤ s.designatedOf a k) (n : Fin 96) (j : Job) (hn : (s.bookPart a k c d mark).job n = some j) :
    j.withinTargets := by
  obtain ⟨-, e⟩ | ⟨n', j', x, hj, hx, e⟩ := bookPart_cases s a k c d mark
  · rw [e] at hn; exact hs n j hn
  · rw [e] at hn
    have hj' := hs n' j' (jobOf_eq.mp hj).2
    rw [State.designatedOf, jobLine_of_jobOf hj, hx] at h
    replace h : 1 ≤ x.designated := h
    refine within_put hs (y := j'.bookPart k x c d mark) ?_ (fun i => job_setJob s n' i _) n j hn
    refine withinTargets_setLine (x := some _) hj' ?_
    rintro _ ⟨⟩
    have := hj' k x hx
    dsimp only
    omega

theorem closed_bookPart (hs : s.closedJobLaw) (a : Nat) (k : Fin 8) (c d : Nat) (mark : Bool) :
    (s.bookPart a k c d mark).closedJobLaw := by
  obtain ⟨-, e⟩ | ⟨n, j, x, hj, hx, e⟩ := bookPart_cases s a k c d mark
  · rw [e]; exact hs
  · rw [e]
    refine closedJobLaw_put (y := j.bookPart k x c d mark) hs (fun i => job_setJob s n i _) fun hc m z hz => ?_
    have old (m : Fin 8) (z : JobLine) := hs n j m z (jobOf_eq.mp hj).2 hc
    change slot (put j.lines k _) m = some z at hz
    rw [slot_put] at hz
    split at hz
    · cases hz
      have := old k x hx
      dsimp only
      omega
    · exact old m z hz

/-! #### The booking of a close (R147 to R149) -/

/-- How many of the parts to be booked name a line. -/
def bookedOn (xs : List ((Nat × Fin 8 × Nat) × Nat × Nat)) (a : Nat) (k : Fin 8) : Nat :=
  xs.countP fun x => decide (x.1.1 = a ∧ x.1.2.1 = k)

theorem bookedOn_cons (x : (Nat × Fin 8 × Nat) × Nat × Nat) (xs : List ((Nat × Fin 8 × Nat) × Nat × Nat)) (a : Nat)
    (k : Fin 8) : bookedOn (x :: xs) a k = bookedOn xs a k + if x.1.1 = a ∧ x.1.2.1 = k then 1 else 0 := by
  simp [bookedOn, List.countP_cons]

/-- Parts booked one behind the other, each on a designation that stands. -/
theorem bookParts_sound (xs : List ((Nat × Fin 8 × Nat) × Nat × Nat)) (mark : Bool) (s : State)
    (hs : ∀ n j, s.job n = some j → j.withinTargets) (hd : ∀ a k, bookedOn xs a k ≤ s.designatedOf a k) :
    (∀ n j, (xs.foldl (fun t x => t.bookPart x.1.1 x.1.2.1 x.2.1 x.2.2 mark) s).job n = some j → j.withinTargets)
    ∧ (∀ n, ((xs.foldl (fun t x => t.bookPart x.1.1 x.1.2.1 x.2.1 x.2.2 mark) s).job n).map Job.number
      = (s.job n).map Job.number)
    ∧ ∀ a k, (xs.foldl (fun t x => t.bookPart x.1.1 x.1.2.1 x.2.1 x.2.2 mark) s).designatedOf a k
      = s.designatedOf a k - bookedOn xs a k := by
  induction xs generalizing s with
  | nil => exact ⟨hs, fun _ => rfl, fun _ _ => rfl⟩
  | cons x xs ih =>
    have first : 1 ≤ s.designatedOf x.1.1 x.1.2.1 := by
      have := hd x.1.1 x.1.2.1
      rw [bookedOn_cons, if_pos ⟨rfl, rfl⟩] at this
      omega
    obtain ⟨h1, h2, h3⟩ := ih (s.bookPart x.1.1 x.1.2.1 x.2.1 x.2.2 mark) (within_bookPart hs first) fun a k => by
      have := hd a k
      rw [bookedOn_cons] at this
      rw [designatedOf_bookPart]
      omega
    refine ⟨h1, fun n => (h2 n).trans (jobNumbers_bookPart ..), fun a k => ?_⟩
    rw [List.foldl_cons, h3, designatedOf_bookPart, bookedOn_cons]
    omega

theorem closed_bookParts (xs : List ((Nat × Fin 8 × Nat) × Nat × Nat)) (mark : Bool) (s : State)
    (hs : s.closedJobLaw) :
    (xs.foldl (fun t x => t.bookPart x.1.1 x.1.2.1 x.2.1 x.2.2 mark) s).closedJobLaw := by
  induction xs generalizing s with
  | nil => exact hs
  | cons x xs ih => exact ih _ (closed_bookPart hs x.1.1 x.1.2.1 x.2.1 x.2.2 mark)

/-- The parts of a plan that name a line are its PART leaves for it (R33). -/
theorem parts_countP (p : Plan) (a : Nat) (k : Fin 8) :
    p.parts.countP (fun x => decide (x.1 = a ∧ x.2.1 = k)) = p.partsOf a k := by
  have count : p.leaves.countP (fun l => decide (l.designation = some (.part a k))) = p.partsOf a k :=
    countP_leaves (fun _ _ _ _ => rfl) rfl fun _ _ => rfl
  rw [← count, Plan.parts, List.countP_filterMap]
  refine List.countP_congr fun l _ => ?_
  obtain ⟨i, r, d⟩ := l
  cases d with
  | none => simp [Leaf.part?]
  | some d => cases d <;> simp [Leaf.part?]

theorem shares_length (x : Nat) (areas : List Nat) : (shares x areas).length = areas.length := by
  simp [shares]

theorem bookedOn_zip (p : Plan) {us vs : List Nat} (hu : us.length = p.parts.length) (hv : vs.length = p.parts.length)
    (a : Nat) (k : Fin 8) : bookedOn (p.parts.zip (us.zip vs)) a k = p.partsOf a k := by
  have h : (p.parts.zip (us.zip vs)).map Prod.fst = p.parts :=
    List.map_fst_zip (by rw [List.length_zip, hu, hv, min_self])
  rw [← parts_countP]
  conv_rhs => rw [← h, List.countP_map]
  rfl

theorem bookOverhead_jobs (s : State) (f : Overhead → Overhead) : (s.bookOverhead f).jobs = s.jobs := by
  unfold State.bookOverhead
  split <;> rfl

/-- The booking of a close takes from each line as many designations as the plan has PART leaves for it. -/
theorem bookClose_sound (p : Plan) (net : Nat) (hs : ∀ n j, s.job n = some j → j.withinTargets)
    (hd : ∀ a k, p.partsOf a k ≤ s.designatedOf a k) :
    (∀ n j, (s.bookClose p net).job n = some j → j.withinTargets)
    ∧ (∀ n, ((s.bookClose p net).job n).map Job.number = (s.job n).map Job.number)
    ∧ ∀ a k, (s.bookClose p net).designatedOf a k = s.designatedOf a k - p.partsOf a k := by
  unfold State.bookClose
  split
  · next hempty =>
    have hjobs : ((s.bookOverhead fun o => o.bookMaterial net).bookPool p).jobs = s.jobs :=
      (bookOverhead_jobs ..).trans (bookOverhead_jobs ..)
    have hjob (n : Fin 96) : ((s.bookOverhead fun o => o.bookMaterial net).bookPool p).job n = s.job n := by
      rw [State.job, hjobs]; rfl
    refine ⟨fun n j hn => hs n j (hjob n ▸ hn), fun n => by rw [hjob], fun a k => ?_⟩
    have : p.partsOf a k = 0 := by
      rw [← parts_countP, List.isEmpty_iff.mp hempty]; rfl
    rw [State.designatedOf, jobLine_of_jobs hjobs, this]
    rfl
  · have hcount (a : Nat) (k : Fin 8) := bookedOn_zip p (us := shares net (p.parts.map fun x => x.2.2))
      (vs := shares (poolCents p.pool) (p.parts.map fun x => x.2.2)) (by rw [shares_length, List.length_map])
      (by rw [shares_length, List.length_map]) a k
    obtain ⟨h1, h2, h3⟩ := bookParts_sound (p.parts.zip ((shares net (p.parts.map fun x => x.2.2)).zip
      (shares (poolCents p.pool) (p.parts.map fun x => x.2.2)))) p.poolSaturated s hs fun a k => by
        rw [hcount]; exact hd a k
    exact ⟨h1, h2, fun a k => by rw [← hcount]; exact h3 a k⟩

theorem closed_bookClose (hs : s.closedJobLaw) (p : Plan) (net : Nat) : (s.bookClose p net).closedJobLaw := by
  unfold State.bookClose
  split
  · exact closedJobLaw_congr ((bookOverhead_jobs ..).trans (bookOverhead_jobs ..)) hs
  · exact closed_bookParts _ _ s hs

/-- A plan's PART leaves are among those counted (R33). -/
theorem partsOf_le (hk : s.plan q = some p) (a : Nat) (k : Fin 8) : p.partsOf a k ≤ s.namedParts a k := by
  have := namedParts_put (s := s) (t := s.setPlan q none) (x := none) rfl a k
  rw [hk] at this
  simp only [Option.map_some, Option.getD_some, Option.map_none, Option.getD_none] at this
  omega

/-- A plan gone with its designations: the job laws stand (R33, R43, R149). -/
theorem State.JobsSound.planGone {u : State} (hj : s.JobsSound) (hk : s.plan q = some p)
    (hplans : t.plans = put s.plans q none) (hjobs : t.jobs = u.jobs)
    (hw : ∀ n j, u.job n = some j → j.withinTargets)
    (hnum : ∀ n, (u.job n).map Job.number = (s.job n).map Job.number)
    (hd : ∀ a k, u.designatedOf a k = s.designatedOf a k - p.partsOf a k) : t.JobsSound := by
  have hjob (n : Fin 96) : t.job n = u.job n := by rw [State.job, hjobs]; rfl
  obtain ⟨hunique, hcount⟩ := designationLaw_iff.mp hj.designations
  refine ⟨fun n j hn => hw n j (hjob n ▸ hn), designationLaw_iff.mpr ⟨?_, fun a k => ?_⟩⟩
  · exact jobsUnique_congr (fun n => by rw [hjob]; exact hnum n) hunique
  · have := namedParts_put hplans a k
    rw [hk] at this
    simp only [Option.map_some, Option.getD_some, Option.map_none, Option.getD_none] at this
    have e : t.designatedOf a k = u.designatedOf a k := by
      rw [State.designatedOf, jobLine_of_jobs hjobs, State.designatedOf]
    rw [e, hd, hcount]
    omega

end Designations

end Sys2Proof.Machine

namespace Sys2Proof.Machine

/-! ### Orders sent, held, resumed and let go (R77, R86, R92, R93, R96) -/

section OrderSteps

variable {e w : Fin 4 → Prop} {s t u : State} {i : Fin 4} {k : Fin 12} {p : Plan}

theorem slot_nodup {α : Type} {n : Nat} {v : Vector α n} (h : v.toList.Nodup) {a b : Fin n} (hab : a ≠ b) :
    slot v a ≠ slot v b := by
  intro he
  have := (List.Nodup.getElem_inj_iff h (i := a.val) (hi := by simp) (j := b.val) (hj := by simp)).mp (by
    simpa [slot] using he)
  exact hab (Fin.ext this)

theorem stationLine_ne (h : s.lineMap.toList.Nodup) {i j : Fin 4} (hij : i ≠ j) : s.stationLine i ≠ s.stationLine j :=
  slot_nodup h fun h => hij (Fin.castSucc_injective _ h)

/-- Behind an order sent the one ORDER that waits is it (R62, R77). -/
theorem mem_handed_order {x : Line} {f g : TxFrame} {o o' : OrderInfo} (hx : x.silentOrSingle)
    (hf : f.message = .order o') (hg : g ∈ (x.handed f).queue) (ho : g.message = .order o) : g = f := by
  unfold Line.handed at hg
  dsimp only at hg
  split at hg
  · obtain h | ⟨h, -⟩ := mem_queueFrame hg ho
    · exact h
    · exact absurd hf (h o')
  · next he =>
    rw [(hx.2 (by simpa using he)).1] at hg
    cases hg

/-- An order sent, its slab aside (R77). -/
def State.orderSent (s : State) (i : Fin 4) (limit silence : Nat) (o : OrderInfo) : State :=
  (s.setStation i ((s.station i).ordered limit silence)).setLine (s.stationLine i)
    ((s.line (s.stationLine i)).handed { toggle := !(s.station i).toggle, message := .order o })

theorem orderSent_station (s : State) (i j : Fin 4) (limit silence : Nat) (o : OrderInfo) :
    (s.orderSent i limit silence o).station j
      = if i = j then (s.station i).ordered limit silence else s.station j := station_setStation ..

theorem orderSent_line (s : State) (i : Fin 4) (limit silence : Nat) (o : OrderInfo) (l : Fin 5) :
    (s.orderSent i limit silence o).line l = if s.stationLine i = l then (s.line (s.stationLine i)).handed
      { toggle := !(s.station i).toggle, message := .order o } else s.line l := slot_put ..

theorem orderSent_post (s : State) (i j : Fin 4) (limit silence : Nat) (o : OrderInfo) :
    ((s.orderSent i limit silence o).station j).plan = (s.station j).plan
    ∧ ((s.orderSent i limit silence o).station j).state = (s.station j).state
    ∧ ((s.orderSent i limit silence o).station j).condition = (s.station j).condition := by
  rw [orderSent_station]
  split
  · next h => subst h; exact ⟨rfl, rfl, rfl⟩
  · exact ⟨rfl, rfl, rfl⟩

theorem orderedAt_orderSent {c : Cut} (hs : s.Paired) (hb : s.boundPlan i = some (k, p)) (hc : p.currentCut = some c)
    (limit silence : Nat) {o : OrderInfo} (hk : o.plan = k) (hcut : o.cut = p.cutsDone) :
    (s.orderSent i limit silence o).orderedAt i := by
  obtain ⟨hi, hp⟩ := boundPlan_some hb
  intro _
  rw [orderSent_station, if_pos rfl]
  refine ⟨k, p, hi, hp, (List.getElem?_eq_some_iff.mp hc).1, fun f o' hf hfo => ?_⟩
  have hline := orderSent_line s i limit silence o (s.stationLine i)
  rw [if_pos rfl] at hline
  obtain rfl := mem_handed_order (hs.transmit _) rfl (hline ▸ hf) hfo
  cases hfo
  exact ⟨hk, hcut, rfl⟩

theorem orderly_orderSent {c : Cut} (hb : s.boundPlan i = some (k, p)) (hc : p.currentCut = some c)
    (limit silence : Nat) {o : OrderInfo} (hk : o.plan = k) (hcut : o.cut = p.cutsDone) :
    Orderly e w s (s.orderSent i limit silence o) where
  stock := ((undisturbed_setStation (by rfl) (fun _ => by rfl)).trans (undisturbed_setLine ..)).kept
  lineMap := rfl
  images _ := id
  transmit hl l := by
    rw [orderSent_line]
    split
    · exact handed_silentOrSingle (hl _) _
    · exact hl l
  binding hl j b hj := by
    obtain ⟨h1, h2, -⟩ := orderSent_post s i j limit silence o
    rw [h1]
    exact hl j b (h2 ▸ hj)
  closed := id
  jobs _ _ := State.JobsSound.congr rfl fun _ => rfl
  names j m hm := by rw [(orderSent_post ..).1] at hm; exact hm
  named hs j m hm := by rw [(orderSent_post ..).1] at hm; exact hs.named j m hm
  resume := id
  ordered hs j _ ho hout := by
    by_cases hij : i = j
    · subst hij
      exact orderedAt_orderSent hs hb hc limit silence hk hcut hout
    · rw [orderSent_station, if_neg hij] at hout ⊢
      obtain ⟨m, q, hm, hq, hlt, hframes⟩ := ho hout
      refine ⟨m, q, hm, hq, hlt, fun f o' hf hfo => hframes f o' ?_ hfo⟩
      have := orderSent_line s i limit silence o (s.stationLine j)
      rw [if_neg (stationLine_ne hs.lineMap hij)] at this
      exact this ▸ hf
  flows _ j hf hj := hf ((orderSent_post s i j limit silence o).2.1 ▸ hj)
  held _ j _ hh h1 h2 := by
    obtain ⟨-, hs, hc⟩ := orderSent_post s i j limit silence o
    exact hh (hs ▸ h1) (hc ▸ h2)

/-- An order dispatched, or nothing to dispatch (R77). -/
theorem dispatch_cases (s : State) (i : Fin 4) : s.dispatch i = s ∨ ∃ k p c, s.boundPlan i = some (k, p)
    ∧ p.currentCut = some c ∧ s.dispatch i
      = (s.orderSent i (s.planFeedLimit p) s.settings.silenceLimit (s.orderFor i k p c)).firstOrder p.slabTag := by
  cases hb : s.boundPlan i with
  | none => exact .inl (by rw [State.dispatch, hb])
  | some x =>
    obtain ⟨k, p⟩ := x
    cases hc : p.currentCut with
    | none =>
      refine .inl ?_
      unfold State.dispatch
      rw [hb]
      dsimp only
      rw [hc]
    | some c => exact .inr ⟨k, p, c, rfl, hc, dispatch_eq hb hc⟩

theorem orderly_dispatch (s : State) (i : Fin 4) : Orderly e w s (s.dispatch i) := by
  obtain h | ⟨k, p, c, hb, hc, h⟩ := dispatch_cases s i
  · rw [h]; exact .refl s
  · rw [h]; exact (orderly_orderSent hb hc _ _ rfl rfl).trans (orderly_firstOrder ..)

theorem dispatch_post (s : State) (i : Fin 4) : ((s.dispatch i).station i).plan = (s.station i).plan
    ∧ ((s.dispatch i).station i).state = (s.station i).state := by
  obtain h | ⟨k, p, c, hb, hc, h⟩ := dispatch_cases s i
  · rw [h]; exact ⟨rfl, rfl⟩
  · rw [h, State.station, firstOrder_stations]
    obtain ⟨h1, h2, -⟩ := orderSent_post s i i (s.planFeedLimit p) s.settings.silenceLimit (s.orderFor i k p c)
    exact ⟨h1, h2⟩

/-- A station that has a plan, or whose state demands one. -/
def Station.mayCut (x : Station) : Prop := x.plan.isSome = true ∨ x.state.demandsPlan = some true

theorem Station.mayCut.plan (h : (s.station i).mayCut) (hl : s.bindingLaw) : (s.station i).plan.isSome = true :=
  h.elim id (hl i true)

/-- An order dispatched and CUTTING entered, F at or above the resume factor (R75, R77, R92). -/
theorem orderly_dispatchAndCut (h : (s.station i).mayCut) (hf : s.thresholds.resume ≤ s.water.factor) :
    Orderly e w s (s.dispatchAndCut i) := by
  obtain ⟨hp, hst⟩ := dispatch_post s i
  have hwater := dispatch_water s i
  unfold State.dispatchAndCut
  refine ((orderly_dispatch s i).trans (orderly_setCondition _ i (c := .none) nofun)).trans ?_
  generalize s.dispatch i = u at hp hst hwater ⊢
  have hstation : (u.setCondition i .none).station i = { u.station i with condition := .none } :=
    (station_setStation ..).trans (if_pos rfl)
  have hcut : ((u.setCondition i .none).station i).mayCut := by
    rw [hstation, Station.mayCut]
    exact h.imp (fun h => hp ▸ h) fun h => hst ▸ h
  have hflow : (u.setCondition i .none).thresholds.resume ≤ (u.setCondition i .none).water.factor := by
    change u.water.kept.thresholds.resume ≤ u.water.factor
    rw [hwater]
    exact hf
  refine orderly_enters (orderly_setPost _ i rfl (fun h => ⟨h, rfl⟩) (fun hl b hb => ?_) ?_ nofun)
  · cases hb
    exact hcut.plan hl
  · exact fun hs _ _ => lt_of_lt_of_le hs.resume hflow

theorem orderly_tryStaged (h : (s.station i).mayCut) : Orderly e w s (s.tryStaged i) := by
  unfold State.tryStaged
  split
  · next hc => exact orderly_dispatchAndCut h hc.2
  · exact .refl s

theorem handHold_post (s : State) (i : Fin 4) : ((s.handHold i).station i).state = (s.station i).state
    ∧ ((s.handHold i).station i).plan = (s.station i).plan := by
  unfold State.handHold
  dsimp only
  split
  · rw [station_setStation, if_pos rfl]
    dsimp only
    rw [handSaw_station]
    exact ⟨rfl, rfl⟩
  · rw [handSaw_station]
    exact ⟨rfl, rfl⟩

theorem orderly_holdStation (s : State) (i : Fin 4) (c : Condition) : Orderly e w s (s.holdStation i c) := by
  unfold State.holdStation
  split
  · next hs =>
    have hcut : ((s.handHold i).station i).state = .cutting := (handHold_post s i).1.trans hs
    dsimp only
    refine ((orderly_handHold s i).trans (orderly_setStation _ i (by
      exact .stays rfl id rfl rfl fun _ => .inr (by rw [hcut]; decide)))).trans (orderly_enterState _ i ?_)
    refine .enters (fun b hb => .inl ?_) nofun nofun
    rw [station_setStation, if_pos rfl]
    cases hb
    exact congrArg StationState.demandsPlan hcut
  · next hs =>
    refine .ite (orderly_setStation s i ?_) (.refl s)
    exact .stays rfl id rfl rfl fun _ => .inr (by rw [hs]; decide)
  · exact .refl s

theorem orderly_updateFeed (s : State) (i : Fin 4) : Orderly e w s (s.updateFeed i) := by
  unfold State.updateFeed
  split
  · exact .refl s
  · exact .ite ((orderly_handSaw s i (by nofun)).trans (orderly_touch _ i (by rfl))) (.refl s)

/-! #### The records alone change -/

/-- From `s` to `t` plans, stock, jobs and the overhead account change, and pages are enqueued; all else stands. -/
structure Recorded (s t : State) : Prop where
  eq : t = { s with
    plans := t.plans, stock := t.stock, jobs := t.jobs, overhead := t.overhead
    retention := { s.retention with queue := t.retention.queue } }

theorem Recorded.refl (s : State) : Recorded s s := ⟨rfl⟩

theorem Recorded.trans (h : Recorded s t) (g : Recorded t u) : Recorded s u := ⟨by rw [g.eq, h.eq]⟩

theorem Recorded.foldl {α : Type} {f : State → α → State} (h : ∀ s a, Recorded s (f s a)) (xs : List α)
    (s : State) : Recorded s (xs.foldl f s) := by
  induction xs generalizing s with
  | nil => exact .refl s
  | cons a as ih => exact (h s a).trans (ih (f s a))

theorem Booked.recorded (h : Booked s t) : Recorded s t := ⟨by rw [h.eq]⟩

theorem recorded_setPlan (s : State) (k : Fin 12) (p : Option Plan) : Recorded s (s.setPlan k p) := ⟨rfl⟩

theorem recorded_createRemnant (s : State) (parent : Slab) (rect : Rect) (basis : Nat) :
    Recorded s (s.createRemnant parent rect basis) := by
  obtain ⟨-, h⟩ | ⟨n, y, -, -, -, h⟩ := createRemnant_cases s parent rect basis
  · rw [h]; exact .refl s
  · rw [h]; exact ⟨rfl⟩

theorem recorded_rackAt (s : State) (q : Option (Fin 120)) (x : Option Nat) : Recorded s (s.rackAt q x) := by
  cases q <;> exact ⟨rfl⟩

theorem recorded_retireTag (s : State) (tag : Nat) : Recorded s (s.retireTag tag) := by
  unfold State.retireTag
  split
  · exact .refl s
  · exact (recorded_rackAt ..).trans ⟨rfl⟩

theorem recorded_closeRecords (s : State) (k : Fin 12) (p : Plan) : Recorded s (s.closeRecords k p) := by
  unfold State.closeRecords
  split
  · exact recorded_setPlan ..
  · exact (((booked_bookClose ..).recorded.trans (.foldl (fun _ _ => recorded_createRemnant ..) _ _)).trans
      (recorded_retireTag ..)).trans (recorded_setPlan ..)

theorem Recorded.station (h : Recorded s t) (i : Fin 4) : t.station i = s.station i := by rw [h.eq]; rfl
theorem Recorded.line (h : Recorded s t) (l : Fin 5) : t.line l = s.line l := by rw [h.eq]; rfl
theorem Recorded.lineMap (h : Recorded s t) : t.lineMap = s.lineMap := by rw [h.eq]
theorem Recorded.water (h : Recorded s t) : t.water = s.water := by rw [h.eq]

theorem Recorded.laws (h : Recorded s t) (hstock : StockKept False s t) (hc : s.closedJobLaw → t.closedJobLaw)
    (hj : s.tagLaw → s.holdingLaw → s.JobsSound → t.JobsSound) : LawsKept s t where
  stock := hstock
  lineMap := h.lineMap
  images _ := everyImage_congr (by rw [h.eq]) (by rw [h.eq])
  transmit hl l := by rw [h.line]; exact hl l
  binding hl i b := by rw [h.station]; exact hl i b
  closed := hc
  jobs := hj
  names i k hk := h.station i ▸ hk
  resume := by rw [State.thresholds, State.thresholds, h.water]; exact id

/-- Records changed, the plans that stations name standing. -/
theorem Recorded.orderly (h : Recorded s t) (hl : LawsKept s t)
    (hp : s.Paired → ∀ i k, (s.station i).plan = some k → t.plan k = s.plan k) : Orderly e w s t where
  toLawsKept := hl
  named hs i k hk := by
    rw [h.station] at hk
    rw [hp hs i k hk]
    exact hs.named i k hk
  ordered hs i _ ho hout := by
    rw [h.station] at hout
    obtain ⟨k, q, hk, hq, hrest⟩ := ho hout
    refine ⟨k, q, (congrArg Station.plan (h.station i)).trans hk, (hp hs i k hk).trans hq, ?_⟩
    rw [State.stationLine, h.lineMap, h.line, h.station]
    exact hrest
  flows _ i hf := by rw [State.flowsAt, h.station, h.water]; exact hf
  held _ i _ hh := by rw [State.heldAt, h.station, State.thresholds, h.water]; exact hh

/-! #### The plan leaving its station (R96, R97) -/

theorem orderly_withdrawFrames (s : State) (i : Fin 4) : Orderly e w s (s.withdrawFrames i) := by
  refine orderly_setLine s _ (fun h => ⟨?_, fun he => ?_⟩) fun f o hf _ => List.mem_of_mem_filter hf
  · exact h.1.sublist (List.filter_sublist.map _)
  · have := h.2 he
    exact ⟨by rw [this.1]; rfl, this.2⟩

/-- The station freed, and READY: nothing it had is left to any law (R96). -/
theorem orderly_freed {x : Station} (hplan : x.plan = none) (hout : x.orderOutstanding = false)
    (hstate : x.state = .ready) : Orderly e w s (s.setStation i x) where
  stock := ⟨.of_stock rfl, fun _ hl => holdingLaw_of_plans hl rfl fun _ => rfl, False.elim⟩
  lineMap := rfl
  images _ := id
  transmit := id
  binding hl j b hj := by
    rw [station_setStation] at hj ⊢
    split at hj
    · rw [if_pos ‹_›, hplan]
      rw [hstate] at hj
      cases hj
      rfl
    · rw [if_neg ‹_›]; exact hl j b hj
  closed := id
  jobs _ _ := State.JobsSound.congr rfl fun _ => rfl
  names j k hk := by
    rw [station_setStation] at hk
    split at hk
    · rw [hplan] at hk; cases hk
    · exact hk
  named hs j k hk := by
    rw [station_setStation] at hk
    split at hk
    · rw [hplan] at hk; cases hk
    · exact hs.named j k hk
  resume := id
  ordered _ j _ hj ho := by
    rw [station_setStation] at ho ⊢
    split at ho
    · rw [hout] at ho; cases ho
    · rw [if_neg ‹_›]; exact hj ho
  flows _ j hj hc := by
    rw [station_setStation] at hc
    split at hc
    · rw [hstate] at hc; cases hc
    · exact hj hc
  held _ j _ hj h1 h2 := by
    rw [station_setStation] at h1 h2
    split at h1
    · rw [hstate] at h1; cases h1
    · rw [if_neg ‹_›] at h2; exact hj h1 h2

/-- The station's part as its plan leaves, in one line: it is freed, its frames are withdrawn, and its valve is
commanded CLOSED where it was OPEN (R96, R123). -/
theorem unbind_eq (s : State) (i : Fin 4) : s.unbind i = if (s.station i).state.wet = false
    then (s.setStation i (s.station i).unbound).withdrawFrames i
    else ((s.setStation i (s.station i).unbound).withdrawFrames i).commandValve (supplyValve i) false := by
  split
  · next h => exact unbind_dry h
  · next h => exact unbind_wet (by simpa using h)

theorem orderly_unbind (s : State) (i : Fin 4) : Orderly e w s (s.unbind i) := by
  have freed : Orderly e w s ((s.setStation i (s.station i).unbound).withdrawFrames i) :=
    (orderly_freed rfl rfl rfl).trans (orderly_withdrawFrames ..)
  rw [unbind_eq]
  exact .ite freed (freed.trans (orderly_commandValve ..))

/-- The station's part reads no record. -/
theorem unbind_recorded (h : Recorded s t) (i : Fin 4) : Recorded (s.unbind i) (t.unbind i) := by
  rw [h.eq, unbind_eq, unbind_eq]
  change Recorded (if (s.station i).state.wet = false then _ else _)
    (if (s.station i).state.wet = false then _ else _)
  split
  · exact ⟨rfl⟩
  · rw [commandValve_eq, commandValve_eq]
    exact ⟨rfl⟩

theorem unbind_jobs (s : State) (i : Fin 4) : (s.unbind i).jobs = s.jobs := by
  rw [unbind_eq]
  split
  · rfl
  · rw [commandValve_eq]; rfl

theorem unbind_plan (s : State) (i j : Fin 4) :
    ((s.unbind i).station j).plan = if i = j then none else (s.station j).plan := by
  rw [unbind_station]
  split <;> rfl

/-- Records let go of a plan, and its station with it: the laws stand (R44, R48, R96, R97). -/
theorem Recorded.unbind_laws (h : Recorded s t) (hl : LawsKept s t) (i : Fin 4) :
    LawsKept (s.unbind i) (t.unbind i) := by
  have back : StockKept False (s.unbind i) s := .congr (unbind_stock ..).symm (unbind_plans ..).symm
  have on : StockKept False t (t.unbind i) := .congr (unbind_stock ..) (unbind_plans ..)
  refine (unbind_recorded h i).laws ((back.trans hl.stock).trans on) (fun hc => ?_) fun ht hh hj => ?_
  · exact closedJobLaw_congr (unbind_jobs ..) (hl.closed (closedJobLaw_congr (unbind_jobs ..).symm hc))
  · refine State.JobsSound.congr' (unbind_jobs ..) (unbind_plans ..)
      (hl.jobs (back.records.tag ht) (back.holding ht hh) ?_)
    exact State.JobsSound.congr' (unbind_jobs ..).symm (unbind_plans ..).symm hj

theorem laws_unbind (h : Recorded s t) (hl : LawsKept s t) (i : Fin 4) : LawsKept s (t.unbind i) :=
  (orderly_unbind (e := fun _ => True) (w := fun _ => True) s i).toLawsKept.trans (h.unbind_laws hl i)

/-- So does the order law, where no other station names the plan. -/
theorem Recorded.unbind (h : Recorded s t) (hl : LawsKept s t) (hp : ∀ j, j ≠ k → t.plan j = s.plan j)
    (ho : s.Paired → ∀ j, j ≠ i → (s.station j).plan ≠ some k) : Orderly e w s (t.unbind i) := by
  refine (laws_unbind h hl i).orderly fun hs =>
    (orderly_unbind s i).trans ((unbind_recorded h i).orderly (h.unbind_laws hl i) fun _ j m hm => ?_)
  rw [unbind_plan] at hm
  split at hm
  · cases hm
  · next hij =>
    have hmk : m ≠ k := by
      rintro rfl
      exact ho hs j (fun h => hij h.symm) hm
    rw [State.plan, unbind_plans, State.plan, unbind_plans]
    exact hp m hmk

/-! #### A close (R48, R96) -/

theorem createRemnant_jobs (s : State) (parent : Slab) (rect : Rect) (basis : Nat) :
    (s.createRemnant parent rect basis).jobs = s.jobs := by
  obtain ⟨-, h⟩ | ⟨n, y, -, -, -, h⟩ := createRemnant_cases s parent rect basis
  · rw [h]
  · rw [h]; rfl

theorem createRemnants_jobs (parent : Slab) (xs : List (Rect × Nat)) (s : State) :
    (xs.foldl (fun t x => t.createRemnant parent x.1 x.2) s).jobs = s.jobs := by
  induction xs generalizing s with
  | nil => rfl
  | cons x xs ih => rw [List.foldl_cons, ih, createRemnant_jobs]

theorem retireTag_jobs (s : State) (tag : Nat) : (s.retireTag tag).jobs = s.jobs := by
  unfold State.retireTag State.retireSlab State.rackAt
  split
  · rfl
  · split <;> rfl

/-- The jobs behind a close of which the slab stands on record (R147 to R149). -/
theorem closeRecords_jobs {n : Fin 512} {r : Slab} (h : s.slabOf p.slabTag = some (n, r)) (k : Fin 12) :
    (s.closeRecords k p).jobs = (s.bookClose p (r.cost - ((p.remnants r.cost).map (·.2)).sum)).jobs := by
  unfold State.closeRecords
  rw [h]
  dsimp only
  rw [State.setPlan_jobs, retireTag_jobs, createRemnants_jobs]

theorem closed_closeRecords (hs : s.closedJobLaw) (k : Fin 12) (p : Plan) : (s.closeRecords k p).closedJobLaw := by
  cases h : s.slabOf p.slabTag with
  | none =>
    unfold State.closeRecords
    rw [h]
    exact hs
  | some x => exact closedJobLaw_congr (closeRecords_jobs h k) (closed_bookClose hs p _)

/-- A plan's slab is on record (R5). -/
theorem holdingLaw_slabOf (hl : s.holdingLaw) (hk : s.plan k = some p) : ∃ n r, s.slabOf p.slabTag = some (n, r) := by
  obtain ⟨n, r, hr, ht, -⟩ := hl.2 k p hk
  cases h : s.slabOf p.slabTag with
  | none => exact absurd ht (slabOf_none h n r hr)
  | some x => exact ⟨x.1, x.2, rfl⟩

theorem jobs_closeRecords (hl : s.holdingLaw) (hj : s.JobsSound) (hk : s.plan k = some p) :
    (s.closeRecords k p).JobsSound := by
  obtain ⟨n, r, h⟩ := holdingLaw_slabOf hl hk
  obtain ⟨-, hcount⟩ := designationLaw_iff.mp hj.designations
  obtain ⟨h1, h2, h3⟩ := bookClose_sound (s := s) p (r.cost - ((p.remnants r.cost).map (·.2)).sum) hj.within
    fun a m => (hcount a m).symm ▸ partsOf_le hk a m
  exact hj.planGone hk (closeRecords_plans ..) (closeRecords_jobs h k) h1 h2 h3

theorem laws_closeRecords (hk : s.plan k = some p) : LawsKept s (s.closeRecords k p) :=
  (recorded_closeRecords s k p).laws
    ⟨records_closeRecords .., fun ht hl => (planGone_closeRecords ht hk).holdingLaw ht hl, False.elim⟩
    (fun hs => closed_closeRecords hs k p) fun _ hl hj => jobs_closeRecords hl hj hk

theorem laws_closePlan (s : State) (i : Fin 4) (k : Fin 12) : LawsKept s (s.closePlan i k) := by
  cases hk : s.plan k with
  | none => rw [State.closePlan, hk]; exact (Orderly.refl (e := fun _ => True) (w := fun _ => True) s).toLawsKept
  | some p =>
    rw [closePlan_eq hk]
    exact (laws_unbind (recorded_closeRecords s k p) (laws_closeRecords hk) i).trans
      (orderly_raise (e := fun _ => True) (w := fun _ => True) ..).toLawsKept

theorem orderly_closePlan (s : State) (i : Fin 4) (k : Fin 12)
    (ho : s.Paired → ∀ j, j ≠ i → (s.station j).plan ≠ some k) : Orderly e w s (s.closePlan i k) := by
  cases hk : s.plan k with
  | none => rw [State.closePlan, hk]; exact .refl s
  | some p =>
    rw [closePlan_eq hk]
    refine ((recorded_closeRecords s k p).unbind (laws_closeRecords hk) (fun j hj => ?_) ho).trans (orderly_raise ..)
    rw [State.plan, closeRecords_plans]
    exact slot_put_ne _ _ hj.symm

/-- No other station names the plan one names (R41, R69). -/
theorem State.Paired.alone (hs : s.Paired) (hi : (s.station i).plan = some k) {j : Fin 4}
    (hj : (s.station j).plan = some k) : j = i := by
  obtain ⟨p, hp, -, hpi⟩ := hs.named i k hi
  obtain ⟨q, hq, -, hqj⟩ := hs.named j k hj
  rw [hp] at hq; cases hq
  rw [hpi] at hqj; cases hqj
  rfl

end OrderSteps

end Sys2Proof.Machine

namespace Sys2Proof.Machine

/-! ### Resuming and the report of the factor (R92, R93, R126) -/

section Resumes

variable {e w : Fin 4 → Prop} {s t u : State} {i : Fin 4} {k : Fin 12} {p : Plan}

theorem laws_finishCut (s : State) (k : Fin 12) (a b : Nat) :
    LawsKept s (s.updatePlan k fun q => q.finishCut a b) := by
  refine Recorded.laws ⟨rfl⟩ ⟨.of_stock rfl, fun _ hl => holding_updatePlan hl k fun _ => rfl, False.elim⟩ id
    fun _ _ => State.JobsSound.congr rfl fun j => ?_
  rw [plan_updatePlan]
  split
  · next h => subst h; rw [Option.map_map]; rfl
  · rfl

/-- A cut DONE at the plan, seen from the stations that do not name it (R47). -/
theorem orderly_finishCut (s : State) (a b : Nat) (ho : s.Paired → ∀ j, j ≠ i → (s.station j).plan ≠ some k) :
    Orderly (· ≠ i) w s (s.updatePlan k fun q => q.finishCut a b) := by
  have hplan (j : Fin 12) := plan_updatePlan s k j fun q => q.finishCut a b
  refine ⟨laws_finishCut s k a b, fun hs j m hm => ?_, fun hs j hj hout h => ?_, fun _ _ => id, fun _ _ _ => id⟩
  · obtain ⟨q, hq, hb, hi⟩ := hs.named j m hm
    rw [hplan]
    split
    · next h => subst h; exact ⟨q.finishCut a b, by rw [hq]; rfl, hb, hi⟩
    · exact ⟨q, hq, hb, hi⟩
  · obtain ⟨m, q, hm, hq, hrest⟩ := hout h
    refine ⟨m, q, hm, ?_, hrest⟩
    rw [hplan, if_neg]
    · exact hq
    · rintro rfl
      exact ho hs j hj hm

theorem orderOver_station (s : State) (i j : Fin 4) : (s.orderOver i).station j
    = if i = j then { s.station i with passesTaken := 0, orderOutstanding := false } else s.station j :=
  station_setStation ..

theorem orderOver_post (s : State) (i j : Fin 4) : ((s.orderOver i).station j).plan = (s.station j).plan
    ∧ ((s.orderOver i).station j).state = (s.station j).state
    ∧ ((s.orderOver i).station j).condition = (s.station j).condition := by
  rw [orderOver_station]
  split
  · next h => subst h; exact ⟨rfl, rfl, rfl⟩
  · exact ⟨rfl, rfl, rfl⟩

theorem orderly_orderOver (s : State) (i : Fin 4) : Orderly e w s (s.orderOver i) where
  stock := .congr rfl rfl
  lineMap := rfl
  images _ := id
  transmit := id
  binding hl j b hb := by
    rw [(orderOver_post s i j).1]
    exact hl j b ((orderOver_post s i j).2.1 ▸ hb)
  closed := id
  jobs _ _ := State.JobsSound.congr' rfl rfl
  names j m hm := (orderOver_post s i j).1 ▸ hm
  resume := id
  named hs j m hm := hs.named j m ((orderOver_post s i j).1 ▸ hm)
  ordered _ j _ ho hout := by
    rw [orderOver_station] at hout ⊢
    split at hout
    · cases hout
    · rw [if_neg ‹_›]; exact ho hout
  flows _ j hf hj := hf ((orderOver_post s i j).2.1 ▸ hj)
  held _ j _ hh h1 h2 := hh ((orderOver_post s i j).2.1 ▸ h1) ((orderOver_post s i j).2.2 ▸ h2)

theorem orderedAt_orderOver (s : State) (i : Fin 4) : (s.orderOver i).orderedAt i := by
  intro h
  rw [State.orderOver, station_setStation, if_pos rfl] at h
  cases h

/-- With its order over, a station has met its clause again (R47, R81). -/
theorem Orderly.over (h : Orderly (· ≠ i) w s t) : Orderly e w s (t.orderOver i) where
  toLawsKept := h.toLawsKept.trans (orderly_orderOver (e := e) (w := w) t i).toLawsKept
  named hs := (orderly_orderOver (e := e) (w := w) t i).named (h.paired hs)
  ordered hs j _ ho := by
    by_cases hj : j = i
    · subst hj; exact orderedAt_orderOver t j
    · exact (orderly_orderOver (e := fun _ => True) (w := w) t i).ordered (h.paired hs) j trivial (h.ordered hs j hj ho)
  flows hs j hf := (orderly_orderOver (e := e) (w := w) t i).flows (h.paired hs) j (h.flows hs j hf)
  held hs j hj hf := (orderly_orderOver (e := e) (w := w) t i).held (h.paired hs) j hj (h.held hs j hj hf)

theorem orderly_markCutDone (hi : (s.station i).plan = some k) (a b : Nat) :
    Orderly e w s (s.markCutDone i k a b) :=
  (orderly_finishCut s a b fun hs _ hj hk => hj (hs.alone hi hk)).over

theorem markCutDone_plan (hi : (s.station i).plan = some k) (a b : Nat) :
    ((s.markCutDone i k a b).station i).plan = some k := by
  rw [State.markCutDone, station_setStation, if_pos rfl]
  exact hi

theorem orderly_resumeStation (i : Fin 4) (hf : s.thresholds.resume ≤ s.water.factor) :
    Orderly e w s (s.resumeStation i) := by
  unfold State.resumeStation
  split
  · exact .refl s
  · next k p hb =>
    obtain ⟨hi, -⟩ := boundPlan_some hb
    have hsome : (s.station i).plan.isSome = true := by rw [hi]; rfl
    refine .ite ?_ (.ite ?_ (orderly_dispatchAndCut (.inl hsome) hf))
    · refine ((orderly_setCondition s i (by nofun)).trans (orderly_enterState _ i ?_)).trans
        (orderly_tryStaged (.inr ?_))
      · refine .enters (fun b hb => .inr ?_) nofun nofun
        cases hb
        rw [State.setCondition, station_setStation, if_pos rfl]
        exact hsome
      · rw [enterState_station, if_pos rfl]
        rfl
    · have hmark := markCutDone_plan hi ((p.currentCut.map (·.travel)).getD 0) 0
      refine (orderly_markCutDone hi ((p.currentCut.map (·.travel)).getD 0) 0).trans (.ite ?_ ?_)
      · exact orderly_closePlan _ i k fun hs _ hj hk => hj (hs.alone hmark hk)
      · exact orderly_dispatchAndCut (.inl (by rw [hmark]; rfl)) hf

theorem orderly_tryWaterHeld (s : State) (i : Fin 4) : Orderly e w s (s.tryWaterHeld i) := by
  unfold State.tryWaterHeld
  split
  · next hf =>
    exact .ite (orderly_resumeStation i hf) ((orderly_setCondition s i (by nofun)).trans (orderly_raiseStop ..))
  · exact .refl s

theorem dispatchAndCut_state (s : State) (i : Fin 4) : ((s.dispatchAndCut i).station i).state = .cutting := by
  rw [State.dispatchAndCut, enterState_station, if_pos rfl]

theorem closePlan_state (hk : s.plan k = some p) (i : Fin 4) : ((s.closePlan i k).station i).state = .ready := by
  rw [closePlan_station hk, if_pos rfl]
  rfl

/-- A station with a plan that is resumed is PAUSED no more (R92). -/
theorem resumeStation_released (hb : s.boundPlan i = some (k, p)) : ((s.resumeStation i).station i).state
    ≠ .paused := by
  obtain ⟨-, hk⟩ := boundPlan_some hb
  unfold State.resumeStation
  rw [hb]
  dsimp only
  split
  · unfold State.tryStaged
    split
    · rw [dispatchAndCut_state]; decide
    · rw [enterState_station, if_pos rfl]; nofun
  · split
    · have hk' : (s.markCutDone i k ((p.currentCut.map (·.travel)).getD 0) 0).plan k
          = some (p.finishCut ((p.currentCut.map (·.travel)).getD 0) 0) := by
        refine (plan_updatePlan s k k _).trans ?_
        rw [if_pos rfl, hk]; rfl
      split
      · rw [closePlan_state hk']; decide
      · rw [dispatchAndCut_state]; decide
    · rw [dispatchAndCut_state]; decide

theorem State.Paired.boundPlan (hs : s.Paired) (hd : (s.station i).state.demandsPlan = some true) :
    ∃ k p, s.boundPlan i = some (k, p) := by
  obtain ⟨k, hk⟩ := Option.isSome_iff_exists.mp (hs.binding i true hd)
  obtain ⟨p, hp, -⟩ := hs.named i k hk
  exact ⟨k, p, by rw [State.boundPlan, hk, Option.bind_some, hp]; rfl⟩

theorem raiseStop_station (s : State) (i j : Fin 4) : (s.raiseStop i).station j = s.station j := by
  unfold State.raiseStop
  dsimp only
  split <;> rfl

/-- Behind its test a station PAUSED by water finds F below the resume factor (R93). -/
theorem heldAt_tryWaterHeld (hs : s.Paired) (hp : (s.station i).state = .paused) : (s.tryWaterHeld i).heldAt i := by
  obtain ⟨k, p, hb⟩ := hs.boundPlan (i := i) (by rw [hp]; rfl)
  unfold State.tryWaterHeld
  split
  · split
    · exact fun h => absurd h (resumeStation_released hb)
    · intro _ h
      rw [raiseStop_station, State.setCondition, station_setStation, if_pos rfl] at h
      cases h
  · next hf => exact fun _ _ => Nat.not_le.mp hf

theorem orderly_reportFactor (s : State) (b : Bool) (i : Fin 4) : Orderly e w s (s.reportFactor b i) := by
  unfold State.reportFactor
  split
  · exact .ite (.ite (orderly_holdStation ..) (orderly_updateFeed ..)) (.refl s)
  · next hs => exact orderly_tryStaged (.inr (by rw [hs]; rfl))
  · exact .ite (orderly_tryWaterHeld ..) (.refl s)
  · exact .refl s

theorem holdStation_state (hs : (s.station i).state = .cutting) (c : Condition) :
    ((s.holdStation i c).station i).state = .holding := by
  unfold State.holdStation
  rw [hs]
  dsimp only
  rw [enterState_station, if_pos rfl]

/-- A station told F is CUTTING with F above 0 alone (R86). -/
theorem flowsAt_reportFactor (hs : s.Paired) {b : Bool} (hb : b = false → s.flowsAt i) :
    (s.reportFactor b i).flowsAt i := by
  by_cases hheld : (s.station i).state = .cutting ∧ b = true ∧ s.water.factor = 0
  · obtain ⟨hcut, rfl, hf⟩ := hheld
    have heq : s.reportFactor true i = s.holdStation i .waterHold := by
      unfold State.reportFactor
      rw [hcut]
      dsimp only
      rw [if_pos rfl, if_pos hf]
    intro h
    rw [heq, holdStation_state hcut .waterHold] at h
    cases h
  · refine (orderly_reportFactor (e := fun _ => True) (w := fun _ => True) s b i).flows hs i fun hcut => ?_
    cases b with
    | false => exact hb rfl hcut
    | true => exact Nat.pos_of_ne_zero fun hf => hheld ⟨hcut, rfl, hf⟩

/-- A station told F is PAUSED by water only below the resume factor (R93). -/
theorem heldAt_reportFactor (hs : s.Paired) (b : Bool) : (s.reportFactor b i).heldAt i := by
  by_cases hheld : (s.station i).state = .paused ∧ (s.station i).condition = .waterHold
  · have heq : s.reportFactor b i = s.tryWaterHeld i := by
      unfold State.reportFactor
      rw [hheld.1]
      exact if_pos hheld.2
    rw [heq]
    exact heldAt_tryWaterHeld hs hheld.1
  · exact (orderly_reportFactor (e := fun _ => True) (w := fun _ => True) s b i).held hs i trivial
      fun h1 h2 => absurd ⟨h1, h2⟩ hheld

theorem orderly_reports (b : Bool) (xs : List (Fin 4)) (s : State) :
    Orderly e w s (xs.foldl (fun t i => t.reportFactor b i) s) := .foldl (fun _ _ => orderly_reportFactor ..) xs s

theorem flowsAt_reports {b : Bool} (xs : List (Fin 4)) (hs : s.Paired) (hb : b = false → s.flowsAt i)
    (hi : i ∈ xs ∨ s.flowsAt i) : (xs.foldl (fun t j => t.reportFactor b j) s).flowsAt i := by
  induction xs generalizing s with
  | nil => exact hi.resolve_left List.not_mem_nil
  | cons j xs ih =>
    have step := orderly_reportFactor (e := fun _ => True) (w := fun _ => True) s b j
    refine ih (step.paired hs) (fun h => step.flows hs i (hb h)) ?_
    by_cases hij : i = j
    · subst hij
      exact .inr (flowsAt_reportFactor hs hb)
    · exact hi.imp (fun h => (List.mem_cons.mp h).resolve_left hij) (step.flows hs i)

theorem heldAt_reports {b : Bool} (xs : List (Fin 4)) (hs : s.Paired) (hi : i ∈ xs ∨ s.heldAt i) :
    (xs.foldl (fun t j => t.reportFactor b j) s).heldAt i := by
  induction xs generalizing s with
  | nil => exact hi.resolve_left List.not_mem_nil
  | cons j xs ih =>
    have step := orderly_reportFactor (e := fun _ => True) (w := fun _ => True) s b j
    refine ih (step.paired hs) ?_
    by_cases hij : i = j
    · subst hij
      exact .inr (heldAt_reportFactor hs b)
    · exact hi.imp (fun h => (List.mem_cons.mp h).resolve_left hij) (step.held hs i trivial)

end Resumes

end Sys2Proof.Machine

namespace Sys2Proof.Machine

/-! ### Recomputing F, and the reports of saws and plant (R78 to R83, R114 to R119, R126) -/

section WaterReports

variable {e w : Fin 4 → Prop} {s t u : State} {i : Fin 4} {k : Fin 12} {p : Plan} {c : Cut} {cut : Nat}

/-- A water record changed keeps the laws that do not speak of it. -/
theorem laws_onWater (s : State) (f : Water → Water)
    (h : 0 < s.thresholds.resume → 0 < (f s.water).kept.thresholds.resume) : LawsKept s (s.onWater f) where
  stock := .congr rfl rfl
  lineMap := rfl
  images _ := id
  transmit := id
  binding := id
  closed := id
  jobs _ _ := State.JobsSound.congr' rfl rfl
  names _ _ := id
  resume := h

theorem State.Paired.onWater (hs : s.Paired) (f : Water → Water)
    (h : 0 < s.thresholds.resume → 0 < (f s.water).kept.thresholds.resume) : (s.onWater f).Paired :=
  ⟨hs.transmit, hs.lineMap, hs.binding, hs.named, h hs.resume⟩

/-- F computed afresh and told: the stations have met their clauses whatever F was (R126). -/
theorem orderly_told {b : Bool} (hf : b = false → s.water.withFactors.factor = s.water.factor) :
    Orderly e w s ((s.onWater Water.withFactors).reportToStations b) := by
  have told : Orderly e w (s.onWater Water.withFactors) ((s.onWater Water.withFactors).reportToStations b) :=
    orderly_reports ..
  refine ⟨(laws_onWater s Water.withFactors id).trans told.toLawsKept, fun hs => told.named (hs.onWater _ id),
    fun hs i hi ho => told.ordered (hs.onWater _ id) i hi ho, fun hs i hi => ?_, fun hs i _ _ => ?_⟩
  · refine flowsAt_reports _ (hs.onWater _ id) (fun hb hc => ?_) (.inl (List.mem_finRange i))
    change 0 < s.water.withFactors.factor
    rw [hf hb]
    exact hi hc
  · exact heldAt_reports _ (hs.onWater _ id) (.inl (List.mem_finRange i))

theorem orderly_raiseWater (s : State) (x : Crossing) : Orderly e w s (s.raiseWater x) := orderly_raise ..

theorem orderly_recomputeFrom (s : State) (old : Nat) (b : Bool) : Orderly e w s (s.recomputeFrom old b) := by
  have same (h : ¬decide (s.water.withFactors.factor ≠ s.water.factor) = true) :
      s.water.withFactors.factor = s.water.factor := by simpa using h
  have told : Orderly e w s
      (if (decide ((s.onWater Water.withFactors).water.factor ≠ s.water.factor) || b) = true
        then (s.onWater Water.withFactors).reportToStations
          (decide ((s.onWater Water.withFactors).water.factor ≠ s.water.factor))
        else s.onWater Water.withFactors) := by
    split
    · exact orderly_told fun h => same (Bool.not_eq_true _ ▸ h)
    · next h => exact orderly_onWater s (same fun h' => h (by rw [Bool.or_eq_true]; exact .inl h')) rfl
  unfold State.recomputeFrom
  dsimp only
  split
  · refine .trans ?_ (orderly_raiseWater ..)
    split
    · exact told.trans (orderly_raiseWater ..)
    · exact told
  · split
    · exact told.trans (orderly_raiseWater ..)
    · exact told

/-- Behind a recomputation that always tells F every station meets the clause of the holds (R93, R127). -/
theorem heldAt_recomputeFrom (hs : s.Paired) (old : Nat) (i : Fin 4) : (s.recomputeFrom old true).heldAt i := by
  have told (b : Bool) : (if (b || true) = true then (s.onWater Water.withFactors).reportToStations b
      else s.onWater Water.withFactors).heldAt i := by
    rw [if_pos (Bool.or_true b)]
    exact heldAt_reports _ (hs.onWater _ id) (.inl (List.mem_finRange i))
  unfold State.recomputeFrom
  dsimp only
  split
  · split <;> exact told _
  · split <;> exact told _

theorem orderly_recompute (s : State) : Orderly e w s s.recompute := orderly_recomputeFrom ..

theorem orderly_requestPress (s : State) : Orderly e w s s.requestPress :=
  (orderly_onWater s rfl rfl).trans (orderly_handPlant _ (by nofun))

theorem orderly_autoPress (s : State) : Orderly e w s s.autoPress := .ite (orderly_requestPress s) (.refl s)

theorem orderly_addSolids (s : State) (a b c d : Nat) : Orderly e w s (s.addSolids a b c d) :=
  (((orderly_onWater s rfl rfl).trans (orderly_enqueue ..)).trans (orderly_autoPress _)).trans (orderly_recompute _)

theorem orderly_decideMakeUp (s : State) : Orderly e w s s.decideMakeUp := orderly_commandValve ..

theorem orderly_testAllowance (s : State) : Orderly e w s s.testAllowance :=
  .ite ((orderly_onWater s rfl rfl).trans (orderly_raise ..)) (.refl s)

theorem orderly_raisePlant (s : State) (x : PlantEvent) (c : Option StaleCause) : Orderly e w s (s.raisePlant x c) :=
  orderly_raise ..

theorem orderly_enterStale (s : State) (x : StaleCause) : Orderly e w s (s.enterStale x) :=
  ((((orderly_onWater s rfl rfl).trans (orderly_decideMakeUp _)).trans (orderly_onWater _ rfl rfl)).trans
    (orderly_recompute _)).trans (orderly_raisePlant ..)

end WaterReports

end Sys2Proof.Machine

namespace Sys2Proof.Machine

/-! ### The reports of a saw (R78 to R83) -/

section SawOrders

variable {e w : Fin 4 → Prop} {s t u : State} {i : Fin 4} {k : Fin 12} {p : Plan} {cut : Nat}

/-- The clause of the holds shown for one station apart. -/
theorem Orderly.heldApart (h : Orderly e (fun j => w j ∧ j ≠ i) s t) (hi : s.Paired → t.heldAt i) :
    Orderly e w s t where
  toLawsKept := h.toLawsKept
  named := h.named
  ordered := h.ordered
  flows := h.flows
  held hs j hj hh := by
    by_cases hij : j = i
    · exact hij ▸ hi hs
    · exact h.held hs j ⟨hj, hij⟩ hh

/-- A station with a plan by its state enters PAUSED: the clause of the holds aside, nothing is begun (R87, R106). -/
theorem orderly_pause (x : Station) (hx : x.post = ({ s.station i with condition := x.condition } : Station).post)
    (hd : (s.station i).state.demandsPlan = some true) :
    Orderly e (fun j => w j ∧ j ≠ i) s (((s.setStation i x).enterState i .paused).raiseStop i) := by
  simp only [Station.post, Prod.mk.injEq] at hx
  obtain ⟨hp, ho, ht, hs, -⟩ := hx
  have own : (s.setStation i x).station i = x := (station_setStation ..).trans (if_pos rfl)
  have demands : x.state.demandsPlan = some true := hs ▸ hd
  have changed : Orderly e (fun j => w j ∧ j ≠ i) s (s.setStation i x) := by
    refine orderly_setPost s i hp (fun h => ⟨ho ▸ h, ht⟩) (fun hl b hb => hl i b (hs ▸ hb))
      (fun _ hf hc => hf (hs ▸ hc)) fun _ hw => absurd rfl hw.2
  refine .trans (.trans changed (orderly_enters (x := .paused) (orderly_setPost _ i rfl
    (fun h => ⟨h, rfl⟩) (fun hl b hb => ?_) (fun _ _ => nofun) fun _ hw => absurd rfl hw.2))) (orderly_raiseStop ..)
  cases hb
  exact hl i true (by rw [own]; exact demands)

theorem paused_state (s : State) (i : Fin 4) (x : Station) :
    ((((s.setStation i x).enterState i .paused).raiseStop i).station i).state = .paused
    ∧ ((((s.setStation i x).enterState i .paused).raiseStop i).station i).condition = x.condition := by
  rw [raiseStop_station, enterState_station, if_pos rfl, station_setStation, if_pos rfl]
  exact ⟨rfl, rfl⟩

theorem orderly_pauseHeld (hs : (s.station i).state = .holding) : Orderly e w s (s.pauseHeld i) := by
  have paused : Orderly e (fun j => w j ∧ j ≠ i) s
      (((s.setStation i (s.station i).stopTimers).enterState i .paused).raiseStop i) :=
    orderly_pause _ rfl (by rw [hs]; rfl)
  obtain ⟨hstate, hcond⟩ := paused_state s i (s.station i).stopTimers
  unfold State.pauseHeld
  split
  · refine .heldApart (i := i) (paused.trans (orderly_tryWaterHeld ..)) fun h => ?_
    exact heldAt_tryWaterHeld (paused.paired h) hstate
  · next hc => exact paused.heldApart fun _ _ h => absurd (hcond.symm.trans h) hc

theorem orderly_pauseWorn (hd : (s.station i).state.demandsPlan = some true) : Orderly e w s (s.pauseWorn i) := by
  refine .heldApart (i := i) (orderly_pause _ rfl hd) fun _ _ h => ?_
  rw [State.pauseWorn, (paused_state s i _).2] at h
  cases h

theorem orderly_bookUnreported (s : State) (i : Fin 4) (k : Fin 12) (p : Plan) (a d : Nat) :
    Orderly e w s (s.bookUnreported i k p a d) := by
  unfold State.bookUnreported
  refine ((orderly_passWear s i a d p.hardness).trans ?_).trans (orderly_addSolids ..)
  exact orderly_addPool _ k (fun q => q.addPool _) fun _ => rfl

/-- What follows a FINISH: no station but this one names the plan (R81). -/
theorem orderly_afterFinish (ho : s.Paired → ∀ j, j ≠ i → (s.station j).plan ≠ some k) :
    Orderly e w s (s.afterFinish i k) := by
  unfold State.afterFinish
  refine .ite (orderly_closePlan s i k ho) ?_
  split
  · next hc => exact .ite (orderly_dispatch s i) (orderly_pauseWorn (by rw [hc]; rfl))
  · exact .refl s

theorem laws_afterFinish (s : State) (i : Fin 4) (k : Fin 12) : LawsKept s (s.afterFinish i k) := by
  by_cases hdone : s.allCutsDone k = true
  · rw [State.afterFinish, if_pos hdone]
    exact laws_closePlan s i k
  · unfold State.afterFinish
    rw [if_neg hdone]
    split
    · next hc =>
      have demands : (s.station i).state.demandsPlan = some true := by rw [hc]; rfl
      exact (Orderly.ite (orderly_dispatch s i)
        (orderly_pauseWorn (e := fun _ => True) (w := fun _ => True) demands)).toLawsKept
    · exact (Orderly.refl (e := fun _ => True) (w := fun _ => True) s).toLawsKept

theorem orderly_takeFinish (h : s.takeFinish i cut = some t) : Orderly e w s t := by
  unfold State.takeFinish at h
  split at h
  · cases h
  · next k p g horder =>
    cases h
    obtain ⟨hb, -, -⟩ := orderInHand_some horder
    obtain ⟨hi, -⟩ := boundPlan_some hb
    generalize p.passCount.getD 0 - p.passesReported = n
    generalize (List.range n).map (fun j => s.planPassDepth p (p.passesReported + j + 1)) = depths
    have stopped := orderly_stopAcceptWait (e := e) (w := w) s i
    generalize s.stopAcceptWait i = a at stopped ⊢
    have laws := laws_finishCut a k g.travel n
    have cut (ho : ∀ j, j ≠ i → (a.station j).plan ≠ some k) := orderly_finishCut (w := w) a g.travel n fun _ => ho
    generalize a.updatePlan k (fun q => q.finishCut g.travel n) = b at laws cut ⊢
    have booked : Orderly (· ≠ i) w b (depths.foldl (fun t d => t.bookUnreported i k p g.travel d) b) :=
      .foldl (fun _ _ => orderly_bookUnreported ..) _ _
    generalize depths.foldl (fun t d => t.bookUnreported i k p g.travel d) b = c at booked ⊢
    have ended := orderly_orderOver (e := e) (w := w) c i
    have whole := ((stopped.toLawsKept.trans laws).trans booked.toLawsKept).trans ended.toLawsKept
    refine (whole.trans (laws_afterFinish _ i k)).orderly fun hs => ?_
    have alone (j : Fin 4) (hj : j ≠ i) (hk : (s.station j).plan = some k) : False := hj (hs.alone hi hk)
    refine (stopped.trans ((cut fun j hj hk => ?_).trans booked).over).trans (orderly_afterFinish fun _ j hj hk => ?_)
    · exact alone j hj (stopped.names j k hk)
    · exact alone j hj (whole.names j k hk)

/-- A PASS taken at the plan: the cut goes on (R80). -/
theorem orderly_planPass (s : State) (k : Fin 12) (a : Nat) : Orderly e w s (s.updatePlan k fun q => q.takePass a) := by
  have hplan (j : Fin 12) := plan_updatePlan s k j fun q => q.takePass a
  refine ⟨Recorded.laws ⟨rfl⟩ ⟨.of_stock rfl, fun _ hl => holding_updatePlan hl k fun _ => rfl, False.elim⟩ id
      fun _ _ => State.JobsSound.congr rfl fun j => ?_, fun hs j m hm => ?_, fun hs j _ ho h => ?_, fun _ _ => id,
    fun _ _ _ => id⟩
  · rw [hplan]
    split
    · next h => subst h; rw [Option.map_map]; rfl
    · rfl
  · obtain ⟨q, hq, hrest⟩ := hs.named j m hm
    rw [hplan]
    split
    · next h => subst h; exact ⟨q.takePass a, by rw [hq]; rfl, hrest⟩
    · exact ⟨q, hq, hrest⟩
  · obtain ⟨m, q, hm, hq, hrest⟩ := ho h
    by_cases hk : k = m
    · subst hk
      exact ⟨k, q.takePass a, hm, by rw [hplan, if_pos rfl, hq]; rfl, hrest⟩
    · exact ⟨m, q, hm, by rw [hplan, if_neg hk]; exact hq, hrest⟩

/-- What a PASS books behind plan and station: wear, solids, pool and progress (R80). -/
theorem orderly_passBooked (s : State) (i : Fin 4) (k : Fin 12) (travel depth hard kerf dens x y a b : Nat) :
    Orderly e w s ((((s.passWear i travel depth hard).1.addSolids travel kerf depth dens).updatePlan k
      fun q => (q.addPool x).addPool y).countProgress i k a b) := by
  have pool (t : State) : Orderly e w t (t.updatePlan k fun q => (q.addPool x).addPool y) :=
    orderly_addPool t k _ fun _ => rfl
  exact (((orderly_passWear ..).trans (orderly_addSolids ..)).trans (pool _)).trans (orderly_countProgress ..)

theorem orderly_takePass {pi sec : Nat} (h : s.takePass i cut pi sec = some t) : Orderly e w s t := by
  unfold State.takePass at h
  split at h
  · cases h
  · next k p g _ =>
    split at h
    · cases h
      have counted : Orderly e w s (((s.stopAcceptWait i).updatePlan k fun q => q.takePass g.travel).setStation i
          { ((s.stopAcceptWait i).updatePlan k fun q => q.takePass g.travel).station i with
            passesTaken := (((s.stopAcceptWait i).updatePlan k
              fun q => q.takePass g.travel).station i).passesTaken + 1 }) :=
        ((orderly_stopAcceptWait s i).trans (orderly_planPass _ k g.travel)).trans (orderly_touch _ i (by rfl))
      exact counted.trans (orderly_passBooked ..)
    · cases h

theorem orderly_takeFault (s : State) (i : Fin 4) (a b : Nat) : Orderly e w s (s.takeFault i a b) :=
  (orderly_touch s i (by rfl)).trans (orderly_faultStation _ i (by nofun))

/-- READY is entered from LISTENING, and from FAULTED without a plan (R72, R91). -/
theorem orderly_becomeReady (h : (s.station i).state.demandsPlan = some false ∨ (s.station i).plan.isSome = false) :
    Orderly e w s (s.becomeReady i) := by
  have eased : Orderly e w s (s.setStation i { (s.station i).stopTimers with condition := .none }) :=
    orderly_setStation s i (.stays rfl id rfl rfl fun h => nomatch h)
  have own : (s.setStation i { (s.station i).stopTimers with condition := .none }).station i
      = { (s.station i).stopTimers with condition := .none } := (station_setStation ..).trans (if_pos rfl)
  refine eased.trans (orderly_enters (x := .ready) (orderly_setPost _ i rfl (fun h => ⟨h, rfl⟩) (fun hl b hb => ?_)
    (fun _ _ => nofun) fun _ _ _ => nofun))
  cases hb
  exact h.elim (fun h => hl i false (by rw [own]; exact h)) fun h => by rw [own]; exact h

theorem orderly_restartHoldWait (s : State) (i : Fin 4) : Orderly e w s (s.restartHoldWait i) :=
  .ite (orderly_touch s i (by rfl)) (.refl s)

theorem orderly_actOnMode (s : State) (i : Fin 4) (m : SawMode) (b : Bool) : Orderly e w s (s.actOnMode i m b) := by
  have waits : Orderly e w s (match (s.station i).state with
      | .listening => s.becomeReady i
      | .staged => if b then s.tryStaged i else s
      | .holding => s.pauseHeld i
      | .faulted => if (s.station i).plan.isNone then s.becomeReady i else s
      | _ => s) := by
    split
    · next hs => exact orderly_becomeReady (.inl (by rw [hs]; rfl))
    · next hs => exact .ite (orderly_tryStaged (.inr (by rw [hs]; rfl))) (.refl s)
    · next hs => exact orderly_pauseHeld hs
    · split
      · next hn => exact orderly_becomeReady (.inr (by simpa using hn))
      · exact .refl s
    · exact .refl s
  unfold State.actOnMode
  dsimp only
  split
  · exact .ite (.ite (.refl s) ((orderly_setCondition s i (by nofun)).trans (orderly_raiseStop ..)))
      (orderly_faultStation s i (by nofun))
  · exact .ite (orderly_restartHoldWait ..) (.refl s)
  · exact waits
  · exact waits

theorem orderly_takeState (s : State) (i : Fin 4) (m : SawMode) (b : Bool) (n : Nat) :
    Orderly e w s (s.takeState i m b n) :=
  (orderly_touch s i (by rfl)).trans (orderly_actOnMode ..)

theorem orderly_sawReport {m : Message} (h : s.sawReport i m = some t) : Orderly e w s t := by
  unfold State.sawReport at h
  split at h
  · cases h
  · split at h
    · unfold State.takeAccept at h
      obtain ⟨_, _, rfl⟩ := Option.map_eq_some_iff.mp h
      exact orderly_stopAcceptWait ..
    · exact orderly_takePass h
    · exact orderly_takeFinish h
    · obtain ⟨_, _, rfl⟩ := Option.map_eq_some_iff.mp h
      exact orderly_takeState ..
    · cases h; exact orderly_takeFault ..
    · cases h
    · cases h

end SawOrders

/-! ### The reports of the plant, and what a line tells its user (R89, R90, R113 to R119) -/

section PlantReports

variable {e w : Fin 4 → Prop} {s : State}

/-- The retained water record changed but for the resume factor. -/
theorem orderly_setKept (s : State) (k : WaterRetained) (h : k.thresholds.resume = s.thresholds.resume) :
    Orderly e w s (s.setKept k) :=
  .of_fields rfl rfl rfl rfl rfl rfl h rfl rfl rfl

theorem orderly_bookFresh (s : State) (n : Nat) : Orderly e w s (s.bookFresh n) := by
  unfold State.bookFresh
  dsimp only
  generalize (n + 65536 - s.water.meterBaseline.getD n) % 65536 = v
  have booked : Orderly e w s (((s.setKept { s.water.kept with
      periodUsed := satAdd 99999999 s.water.kept.periodUsed v }).bookOverhead
      fun o => o.bookProcess (v * s.settings.freshRate)).onWater fun w => { w with meterBaseline := some n }) :=
    ((orderly_setKept s _ (by rfl)).trans (orderly_bookOverhead _ _)).trans (orderly_onWater _ (by rfl) (by rfl))
  exact .ite booked ((booked.trans (orderly_enqueue ..)).trans (orderly_testAllowance _))

theorem orderly_bookDraw (s : State) (d : Vector Nat 4) (i : Fin 4) : Orderly e w s (s.bookDraw d i) := by
  unfold State.bookDraw
  split
  · exact orderly_addPool _ _ _ fun _ => rfl
  · exact orderly_bookOverhead ..

theorem orderly_meterAndDraw (s : State) (r : LevelsReport) : Orderly e w s (s.meterAndDraw r) :=
  .ite (orderly_onWater s rfl rfl) ((orderly_bookFresh ..).trans (.foldl (fun _ _ => orderly_bookDraw ..) _ _))

theorem orderly_enterLive (s : State) (b : Byte) : Orderly e w s (s.enterLive b) :=
  .ite ((orderly_onWater s rfl rfl).trans (orderly_raisePlant ..)) (orderly_onWater s rfl rfl)

theorem orderly_testValves (s : State) : Orderly e w s s.testValves := .foldl (fun _ _ => orderly_settleTest ..) _ _

theorem orderly_takeLevels (s : State) (r : LevelsReport) : Orderly e w s (s.takeLevels r) :=
  (((((orderly_onWater s rfl rfl).trans (orderly_meterAndDraw ..)).trans (orderly_enterLive ..)).trans
    (orderly_decideMakeUp _)).trans (orderly_testValves _)).trans (orderly_recompute _)

theorem orderly_lowerSolids (s : State) (n : Nat) : Orderly e w s (s.lowerSolids n) :=
  ((orderly_onWater s rfl rfl).trans (orderly_enqueue ..)).trans (orderly_recompute _)

theorem orderly_takePressState (s : State) (a b : Nat) : Orderly e w s (s.takePressState a b) := by
  have press (t : State) (p : Press) : Orderly e w t (t.setPress p) := orderly_onWater t rfl rfl
  have told (t : State) (x : PressEvent) (c : Option Nat) : Orderly e w t (t.raisePress x c) := orderly_raise ..
  unfold State.takePressState
  split
  · exact (press ..).trans (told ..)
  · exact .refl s
  · exact press ..
  · exact press ..
  · exact .refl s
  · exact (orderly_lowerSolids ..).trans (told ..)
  · exact ((press ..).trans (orderly_lowerSolids ..)).trans (told ..)
  · exact .refl s
  · exact (press ..).trans (told ..)

theorem orderly_plantReport (s : State) (m : Message) : Orderly e w s (s.plantReport m) := by
  unfold State.plantReport
  split
  · exact .refl s
  · exact orderly_takeLevels ..
  · exact orderly_takePressState ..
  · exact .refl s

theorem orderly_stationNoise (s : State) (i : Fin 4) : Orderly e w s (s.stationNoise i) := by
  unfold State.stationNoise
  split
  · exact .refl s
  · exact orderly_linkFault s i (by nofun)
  · exact orderly_linkFault s i (by nofun)
  · exact orderly_raiseHalt ..

theorem orderly_tellNoise (s : State) (l : Fin 5) : Orderly e w s (s.tellNoise l) := by
  unfold State.tellNoise
  split
  · exact orderly_stationNoise ..
  · exact .ite (.refl s) (orderly_raisePlant ..)

theorem orderly_tellBreak (s : State) (l : Fin 5) : Orderly e w s (s.tellBreak l) := by
  unfold State.tellBreak
  split
  · exact .ite (.refl s) ((orderly_forgetMode ..).trans (orderly_faultStation _ _ (by nofun)))
  · split
    · exact .refl s
    · exact orderly_enterStale ..
    · exact orderly_raisePlant ..
    · exact orderly_raisePlant ..

theorem orderly_tellBreakEnd (s : State) (l : Fin 5) : Orderly e w s (s.tellBreakEnd l) := by
  unfold State.tellBreakEnd
  split
  · exact orderly_handSaw s _ (by nofun)
  · exact orderly_handPlant s (by nofun)

end PlantReports

/-! ### Frames, characters, breaks and samples of a line (R52 to R60) -/

section LineInput

variable {e w : Fin 4 → Prop} {s : State}

theorem orderly_badFrame (s : State) (l : Fin 5) : Orderly e w s (s.badFrame l) :=
  .ite ((orderly_setLine_same s l (by rfl) (by rfl) (by rfl)).trans (orderly_tellNoise ..))
    (orderly_setLine_same s l (by rfl) (by rfl) (by rfl))

theorem orderly_receive (s : State) (l : Fin 5) (n b : Bool) (m : Message) : Orderly e w s (s.receive l n b m) := by
  have taken (t : State) : Orderly e w t (t.takenFrame l n) := orderly_setLine_same t l rfl rfl rfl
  unfold State.receive
  split
  · exact .refl s
  · split
    · split
      · exact orderly_badFrame ..
      · split
        · exact orderly_setLine_same s l rfl rfl rfl
        · split
          · exact orderly_badFrame ..
          · next h => exact ((orderly_sawReport h).trans (orderly_superviseAgain ..)).trans (taken _)
    · split
      · exact orderly_badFrame ..
      · exact (orderly_plantReport ..).trans (taken _)

theorem orderly_setAssembler (s : State) (l : Fin 5) (a : Assembler) : Orderly e w s (s.setAssembler l a) :=
  orderly_setLine_same s l rfl rfl rfl

theorem orderly_judge (s : State) (l : Fin 5) (bs : List Byte) (b : Bool) : Orderly e w s (s.judge l bs b) := by
  unfold State.judge
  split
  · exact orderly_badFrame ..
  · exact orderly_receive ..

theorem orderly_discardFrame (s : State) (l : Fin 5) : Orderly e w s (s.discardFrame l) :=
  (orderly_setAssembler ..).trans (orderly_badFrame ..)

theorem orderly_extendFrame (s : State) (l : Fin 5) (bs : List Byte) (b : Bool) : Orderly e w s
    (s.extendFrame l bs b) :=
  .ite (orderly_discardFrame ..) (.ite ((orderly_setAssembler ..).trans (orderly_judge ..)) (orderly_setAssembler ..))

theorem orderly_assemble (s : State) (l : Fin 5) (x : Byte) (f b : Bool) : Orderly e w s (s.assemble l x f b) := by
  unfold State.assemble
  split
  · exact .refl s
  · exact .ite (orderly_discardFrame ..) (orderly_setAssembler ..)
  · exact .ite (orderly_discardFrame ..) (orderly_extendFrame ..)
  · exact orderly_discardFrame ..
  · exact .refl s

theorem orderly_assemblerGap (s : State) (l : Fin 5) : Orderly e w s (s.assemblerGap l) := by
  unfold State.assemblerGap
  split
  · exact orderly_setAssembler ..
  · exact orderly_setAssembler ..
  · exact orderly_setAssembler ..
  · exact .refl s
  · exact (orderly_setAssembler ..).trans (orderly_badFrame ..)

theorem orderly_ordinaryCharacter (s : State) (l : Fin 5) (x : Byte) (f b : Bool) :
    Orderly e w s (s.ordinaryCharacter l x f b) :=
  .ite (orderly_setLine_same s l rfl rfl rfl)
    ((orderly_setLine_same s l (by rfl) (by rfl) (by rfl)).trans (orderly_assemble ..))

theorem orderly_beginBreak (s : State) (l : Fin 5) : Orderly e w s (s.beginBreak l) :=
  (orderly_setLine_same s l (by rfl) (by rfl) (by rfl)).trans (orderly_tellBreak ..)

theorem orderly_breakCharacter (s : State) (l : Fin 5) (b : Bool) : Orderly e w s (s.breakCharacter l b) :=
  .ite (orderly_setLine_same s l rfl rfl rfl) (.ite
    ((orderly_setLine_same s l (by rfl) (by rfl) (by rfl)).trans (orderly_beginBreak ..))
    ((orderly_setLine_same s l (by rfl) (by rfl) (by rfl)).trans (orderly_assemble ..)))

theorem orderly_setOnesSeen (s : State) (l : Fin 5) (n : Nat) : Orderly e w s (s.setOnesSeen l n) :=
  orderly_setLine_same s l rfl rfl rfl

theorem orderly_zeroRun (s : State) (l : Fin 5) : Orderly e w s (s.zeroRun l) :=
  (orderly_setOnesSeen ..).trans (orderly_breakCharacter ..)

theorem orderly_decideCharacter (s : State) (l : Fin 5) (x : CharSamples) : Orderly e w s (s.decideCharacter l x) := by
  unfold State.decideCharacter
  split
  · exact .ite ((orderly_setOnesSeen ..).trans (orderly_breakCharacter ..))
      ((orderly_setOnesSeen ..).trans (orderly_ordinaryCharacter ..))
  · exact .refl s
  · exact .refl s

theorem orderly_idleRun (s : State) (l : Fin 5) : Orderly e w s (s.idleRun l) :=
  .ite ((orderly_setLine_same s l (by rfl) (by rfl) (by rfl)).trans (orderly_tellBreakEnd ..))
    (orderly_setLine_same s l rfl rfl rfl)

theorem orderly_takeSample (s : State) (l : Fin 5) (x : Bool) : Orderly e w s (s.takeSample l x) := by
  have receiver (r : Receiver) (n : Nat) : Orderly e w s (s.setReceiver l r n) := orderly_setLine_same s l rfl rfl rfl
  unfold State.takeSample
  split
  · exact .ite (.ite (orderly_idleRun ..) (receiver ..))
      (.ite (receiver ..) (.ite (receiver ..) (orderly_zeroRun ..)))
  · exact .ite (receiver ..) (.ite (orderly_setLine_same s l rfl rfl rfl) (receiver ..))
  · exact .refl s

theorem orderly_takeSamples (s : State) (l : Fin 5) (xs : List Bool) : Orderly e w s (s.takeSamples l xs) :=
  .foldl (fun _ _ => orderly_takeSample ..) _ _

end LineInput

end Sys2Proof.Machine

namespace Sys2Proof.Machine

/-! ### Requests on stations and the water loop, timers and the transmitter (R61, R71 to R73, R84 to R92, R110 to
R127) -/

section StationRequests

variable {e w : Fin 4 → Prop} {s t : State} {i : Fin 4}

theorem orderly_enableLine (s : State) (l : Fin 5) : Orderly e w s (s.enableLine l) :=
  orderly_setLine s l (fun _ => ⟨List.nodup_nil, nofun⟩) nofun

theorem orderly_disableLine (s : State) (l : Fin 5) : Orderly e w s (s.disableLine l) :=
  orderly_setLine s l (fun _ => ⟨List.nodup_nil, fun _ => ⟨rfl, rfl⟩⟩) nofun

theorem orderly_attachStation (station : Nat) (s : State) : Answers (Orderly e w s) (attachStation station s) := by
  unfold attachStation
  split
  · exact .refuse
  · next i _ =>
    refine .unless fun hd => .done ?_
    rw [not_not] at hd
    refine (((orderly_enableLine ..).trans (orderly_setStation _ i (by exact .stays rfl id rfl rfl nofun))).trans
      (orderly_enterState _ i (x := .listening) (.enters (fun b hb => .inl ?_) nofun nofun))).trans
      (orderly_handSaw _ i (by nofun))
    cases hb
    rw [station_setStation, if_pos rfl]
    exact congrArg StationState.demandsPlan hd

/-- A station without a plan set back to its record after a device reset (R73). -/
theorem orderly_detached (s : State) (i : Fin 4) (b : Bool) (h : (s.station i).plan = none) :
    Orderly e w s (s.setStation i { Station.afterReset with toggle := b }) := by
  refine orderly_setPost s i h.symm nofun (fun _ b hb => ?_) (fun _ _ => nofun) fun _ _ _ => nofun
  cases hb
  rw [h]
  rfl

theorem orderly_detachStation (station : Nat) (s : State) : Answers (Orderly e w s) (detachStation station s) := by
  unfold detachStation
  split
  · exact .refuse
  · next i _ =>
    refine .unless fun h => .done ?_
    obtain ⟨-, hp⟩ := not_or.mp h
    have hnone : (s.station i).plan = none := by simpa using hp
    have entered : Orderly e w (s.disableLine (s.stationLine i))
        ((s.disableLine (s.stationLine i)).enterState i .detached) := by
      refine orderly_enterState _ i (.enters (fun b hb => .inr ?_) nofun nofun)
      cases hb
      exact congrArg Option.isSome hnone
    refine ((orderly_disableLine ..).trans entered).trans (orderly_detached _ i _ ?_)
    rw [enterState_station, if_pos rfl]
    exact hnone

theorem orderly_stop (s : State) (i : Fin 4) : Orderly e w s (s.stop i) := by
  unfold State.stop
  split
  · next hs =>
    refine (orderly_setCondition s i (by nofun)).trans (orderly_enterState _ i (.enters (fun b hb => .inl ?_) nofun ?_))
    · cases hb
      rw [State.setCondition, station_setStation, if_pos rfl]
      exact congrArg StationState.demandsPlan hs
    · intro _ hc
      rw [State.setCondition, station_setStation, if_pos rfl] at hc
      cases hc
  · exact orderly_holdStation ..
  · exact orderly_holdStation ..
  · exact .ite (orderly_setCondition s i (by nofun)) (.refl s)
  · exact .refl s

theorem orderly_stopStation (station : Nat) (s : State) : Answers (Orderly e w s) (stopStation station s) := by
  unfold stopStation
  split
  · exact .refuse
  · split
    · exact .refuse
    · exact .refuse
    · exact .refuse
    · exact .done (orderly_stop ..)

theorem orderly_resumeRequest (station : Nat) (s : State) : Answers (Orderly e w s) (resumeStation station s) := by
  unfold resumeStation
  split
  · exact .refuse
  · exact .unless fun _ => .unless fun _ => .unless fun hf => .done (orderly_resumeStation _ (Nat.not_lt.mp hf))

theorem orderly_fitBlade (station serial kerf maxPassDepth maxDepth life costPerUnit lowMark wear : Nat) (s : State) :
    Answers (Orderly e w s) (fitBlade station serial kerf maxPassDepth maxDepth life costPerUnit lowMark wear s) := by
  unfold fitBlade
  split
  · exact .refuse
  · exact .unless fun _ => .unless fun _ => .unless fun _ => .unless fun _ =>
      .done ((orderly_setBlade ..).trans (orderly_enqueue ..))

theorem orderly_removeBlade (station : Nat) (s : State) : Answers (Orderly e w s) (removeBlade station s) := by
  unfold removeBlade
  split
  · exact .refuse
  · refine .unless fun _ => ?_
    split
    · exact .refuse
    · exact .done ((orderly_setBlade ..).trans (orderly_enqueue ..))

/-! #### The water loop -/

theorem orderly_setPress (s : State) (p : Press) : Orderly e w s (s.setPress p) := orderly_onWater s rfl rfl

theorem orderly_attachPlant (s : State) : Answers (Orderly e w s) (attachPlant s) :=
  .unless fun _ => .done (((((orderly_enableLine ..).trans (orderly_onWater _ (by rfl) (by rfl))).trans
    (orderly_handPlant _ (by nofun))).trans (orderly_handPlant _ (by nofun))).trans (orderly_recompute _))

theorem orderly_detachPlant (s : State) : Answers (Orderly e w s) (detachPlant s) :=
  .unless fun _ => .done (((((orderly_disableLine ..).trans (orderly_onWater _ (by rfl) (by rfl))).trans
    (orderly_setPress ..)).trans (orderly_decideMakeUp _)).trans (orderly_recompute _))

theorem orderly_pressNow (s : State) : Answers (Orderly e w s) (pressNow s) :=
  .unless fun _ => .done (orderly_requestPress _)

theorem orderly_withWaterPage {f : State → State} (h : ∀ s, Orderly e w s (f s)) (s : State) :
    Orderly e w s (s.withWaterPage f) := by
  unfold State.withWaterPage
  split
  · exact h s
  · exact (orderly_enqueue ..).trans (h _)

theorem orderly_newPeriod (s : State) (a : Option Nat) : Orderly e w s (s.newPeriod a) :=
  (((orderly_setKept s _ (by rfl)).trans (orderly_onWater _ (by rfl) (by rfl))).trans
    (orderly_decideMakeUp _)).trans (orderly_testAllowance _)

theorem orderly_resetPeriod (allowance : Nat) (s : State) : Answers (Orderly e w s) (resetPeriod allowance s) :=
  .done (orderly_withWaterPage (fun _ => orderly_newPeriod ..) s)

/-- The threshold record replaced: the holds by water are told afresh (R126, R127). -/
theorem orderly_applyThresholds (s : State) {x : Thresholds} (hx : 0 < x.resume) :
    Orderly e w s (s.applyThresholds x) := by
  have set : Orderly e (fun _ => False) s (s.setKept { s.water.kept with thresholds := x }) :=
    ⟨laws_onWater s (fun w => { w with kept := { s.water.kept with thresholds := x } }) fun _ => hx,
      fun hs => hs.named, fun _ _ _ => id, fun _ _ => id, fun _ _ => False.elim⟩
  have before := (set.trans (orderly_decideMakeUp _)).trans (orderly_autoPress _)
  have whole := before.trans (orderly_recomputeFrom _ s.thresholds.resume true)
  exact ⟨whole.toLawsKept, whole.named, whole.ordered, whole.flows,
    fun hs i _ _ => heldAt_recomputeFrom (before.paired hs) _ i⟩

theorem orderly_setWater (hold low fill full pressLevel slow stop resumeFactor autoPress : Nat) (s : State) :
    Answers (Orderly e w s) (setWater hold low fill full pressLevel slow stop resumeFactor autoPress s) := by
  refine .unless fun _ => .done (orderly_withWaterPage (fun _ => orderly_applyThresholds _ ?_) s)
  have : 200 ≤ clamp 200 1000 resumeFactor := by unfold clamp; omega
  exact Nat.lt_of_lt_of_le (by decide) this

/-! #### Timers -/

theorem orderly_queryAgain (s : State) (i : Fin 4) {x : Station} (h : x.post = (s.station i).post) :
    Orderly e w s ((s.setStation i x).handSaw i .query) :=
  (orderly_touch s i h).trans (orderly_handSaw _ i (by nofun))

theorem orderly_listeningExpiry (s : State) (i : Fin 4) : Orderly e w s (s.listeningExpiry i) :=
  .ite (orderly_queryAgain s i rfl) (.refl s)

theorem orderly_acceptExpiry (s : State) (i : Fin 4) : Orderly e w s (s.acceptExpiry i) :=
  .ite (orderly_linkFault s i (by nofun)) (.refl s)

theorem orderly_holdExpiry (s : State) (i : Fin 4) : Orderly e w s (s.holdExpiry i) :=
  .ite (orderly_linkFault s i (by nofun)) (.refl s)

theorem orderly_silenceExpiry (s : State) (i : Fin 4) : Orderly e w s (s.silenceExpiry i) :=
  .ite (orderly_linkFault s i (by nofun)) (.refl s)

theorem orderly_queryExpiry (s : State) (i : Fin 4) : Orderly e w s (s.queryExpiry i) :=
  .ite (orderly_queryAgain s i rfl) (.refl s)

theorem orderly_plantQueryExpiry (s : State) : Orderly e w s s.plantQueryExpiry :=
  .ite ((orderly_onWater s rfl rfl).trans (orderly_handPlant _ (by nofun))) (.refl s)

theorem orderly_staleExpiry (s : State) : Orderly e w s s.staleExpiry := .ite (orderly_enterStale ..) (.refl s)

theorem orderly_pressStartExpiry (s : State) : Orderly e w s s.pressStartExpiry :=
  .ite ((orderly_setPress ..).trans (orderly_raise ..)) (.refl s)

theorem orderly_dryCut (s : State) (v : Fin 5) (b : Bool) : Orderly e w s (s.dryCut v b) := by
  unfold State.dryCut
  split
  · exact .refl s
  · exact .ite (orderly_holdStation ..) (.refl s)

theorem orderly_settleExpiry (s : State) (v : Fin 5) : Orderly e w s (s.settleExpiry v) := by
  unfold State.settleExpiry
  split
  · exact ((orderly_onWater s (by rfl) (by rfl)).trans (orderly_raise ..)).trans (orderly_dryCut ..)
  · exact .refl s

/-! #### The transmitter -/

/-- The head of the queue goes out (R61). -/
theorem orderly_sending (s : State) (l : Fin 5) {f : TxFrame} {rest : List TxFrame} (hq : (s.line l).queue
    = f :: rest) :
    Orderly e w s (s.setLine l { s.line l with transmitter := .sending f, queue := rest }) := by
  refine orderly_setLine s l (fun h => ⟨?_, fun he => ?_⟩) fun g o hg _ => hq ▸ List.mem_cons_of_mem f hg
  · have := h.1
    rw [hq, List.map_cons] at this
    exact (List.nodup_cons.mp this).2
  · have := (h.2 he).1
    rw [hq] at this
    cases this

theorem orderly_transmitStart (s : State) (l : Fin 5) : Orderly e w s (s.transmitStart l) := by
  unfold State.transmitStart
  dsimp only
  split
  · next hq => exact orderly_sending s l hq
  · next hq => exact orderly_sending s l hq
  · exact .refl s

theorem orderly_tellSent (s : State) (i : Fin 4) (f : TxFrame) : Orderly e w s (s.tellSent i f) := by
  have timer : Orderly e w s (s.startReplyTimer i) := orderly_touch s i rfl
  unfold State.tellSent
  dsimp only
  split
  · exact .ite timer (.refl s)
  · exact .ite timer (.refl s)
  all_goals exact .refl s

theorem orderly_frameSent (s : State) (l : Fin 5) : Orderly e w s (s.frameSent l) := by
  unfold State.frameSent
  dsimp only
  split
  · next hx =>
    have idle : Orderly e w s (s.setLine l { s.line l with transmitter := .separatingIdle }) := by
      refine orderly_setLine s l (fun h => ⟨h.1, fun he => ?_⟩) fun _ _ hf _ => hf
      have := (h.2 he).2
      rw [hx] at this
      cases this
    split
    · exact idle.trans (orderly_tellSent ..)
    · exact idle
  all_goals exact .refl s

end StationRequests

end Sys2Proof.Machine

namespace Sys2Proof.Machine

/-! ### Designations that come and go with the pieces of a plan (R31 to R36, R43, R44) -/

section Designated

variable {s t u : State} {a b : Nat} {k m : Fin 8} {n : Fin 96} {q : Fin 12} {p : Plan} {i : Fin 64} {x : Piece}
  {f : JobLine → JobLine} {d : Option Designation}

/-- 1 where a designation is a PART for the line, else 0 (R33). -/
def Designation.names (d : Option Designation) (a : Nat) (k : Fin 8) : Nat := if d = some (.part a k) then 1 else 0

/-- 1 where a piece is a PART leaf for the line, else 0 (R33). -/
def Piece.names (x : Piece) (a : Nat) (k : Fin 8) : Nat :=
  match x with
  | .leaf _ _ d => Designation.names d a k
  | _ => 0

/-- A PART leaf for the line (R33). -/
def Piece.isPart (a : Nat) (k : Fin 8) : Piece → Bool
  | .leaf _ _ d => decide (d = some (.part a k))
  | _ => false

theorem partsOf_eq (p : Plan) (a : Nat) (k : Fin 8) : p.partsOf a k = countWhere p.pieces (Piece.isPart a k) := rfl

theorem isPart_names (x : Piece) (a : Nat) (k : Fin 8) : (if x.isPart a k then 1 else 0) = x.names a k := by
  cases x <;> simp [Piece.names, Piece.isPart, Designation.names]

/-- A piece put: its PART leaf counts in the place of the old one's. -/
theorem parts_put (v : Vector Piece 64) (i : Fin 64) (x : Piece) (a : Nat) (k : Fin 8) :
    countWhere (put v i x) (Piece.isPart a k) + (slot v i).names a k
      = countWhere v (Piece.isPart a k) + x.names a k := by
  rw [← isPart_names, ← isPart_names]
  exact countWhere_put ..

theorem names_undesignated (h : x.designated = false) (a : Nat) (k : Fin 8) : x.names a k = 0 := by
  cases x with
  | leaf r o d =>
    cases d with
    | none => simp [Piece.names, Designation.names]
    | some d => cases h
  | _ => rfl

/-- A piece put in the place of one, neither designated. -/
theorem parts_put_same {v : Vector Piece 64} (h : (slot v i).designated = false) (hx : x.designated = false) (a : Nat)
    (k : Fin 8) : countWhere (put v i x) (Piece.isPart a k) = countWhere v (Piece.isPart a k) := by
  have := parts_put v i x a k
  rwa [names_undesignated h, names_undesignated hx] at this

theorem partsOf_pieces {p q : Plan} (h : q.pieces = p.pieces) (a : Nat) (k : Fin 8) : q.partsOf a k
    = p.partsOf a k := by
  unfold Plan.partsOf
  rw [h]

/-- A plan replaced, opened or gone, and its designations with it: the job laws stand (R33). -/
theorem State.JobsSound.replan {x : Option Plan} (hj : s.JobsSound) (hplans : t.plans = put s.plans q x)
    (hw : ∀ n j, t.job n = some j → j.withinTargets)
    (hnum : ∀ n, (t.job n).map Job.number = (s.job n).map Job.number)
    (hd : ∀ a k, t.designatedOf a k + ((s.plan q).map (·.partsOf a k)).getD 0
      = s.designatedOf a k + (x.map (·.partsOf a k)).getD 0) : t.JobsSound := by
  obtain ⟨hunique, hcount⟩ := designationLaw_iff.mp hj.designations
  refine ⟨hw, designationLaw_iff.mpr ⟨jobsUnique_congr hnum hunique, fun a k => ?_⟩⟩
  have := namedParts_put hplans a k
  have := hd a k
  have := hcount a k
  omega

/-- With the jobs as they were, as many PART leaves for each line. -/
theorem State.JobsSound.samePlan {x : Option Plan} (hj : s.JobsSound) (hplans : t.plans = put s.plans q x)
    (hjobs : t.jobs = s.jobs)
    (hd : ∀ a k, ((s.plan q).map (·.partsOf a k)).getD 0 = (x.map (·.partsOf a k)).getD 0) : t.JobsSound := by
  have hjob (n : Fin 96) : t.job n = s.job n := by rw [State.job, hjobs]; rfl
  refine hj.replan hplans (fun n j hn => hj.within n j (hjob n ▸ hn)) (fun n => by rw [hjob]) fun a k => ?_
  rw [hd, State.designatedOf, jobLine_of_jobs hjobs]
  rfl

/-! #### One line of a job changed -/

theorem jobNumbers_bare (h : ∀ n, (t.job n).map Job.bare = (s.job n).map Job.bare) (n : Fin 96) :
    (t.job n).map Job.number = (s.job n).map Job.number := by
  have := congrArg (Option.map Job.number) (h n)
  rwa [Option.map_map, Option.map_map] at this

theorem within_updateJobLine (hs : ∀ n j, s.job n = some j → j.withinTargets)
    (hf : ∀ x, s.jobLine a k = some x → x.delivered + x.designated ≤ x.target →
      (f x).delivered + (f x).designated ≤ (f x).target) (n : Fin 96) (j : Job)
    (hn : (s.updateJobLine a k f).job n = some j) : j.withinTargets := by
  obtain ⟨-, e⟩ | ⟨n', j', x, hj, hx, e⟩ := updateJobLine_cases s a k f
  · rw [e] at hn; exact hs n j hn
  · rw [e] at hn
    have hj' := hs n' j' (jobOf_eq.mp hj).2
    refine within_put hs (y := j'.setLine k (some (f x))) ?_ (fun i => job_setJob s n' i _) n j hn
    refine withinTargets_setLine hj' ?_
    rintro _ ⟨⟩
    exact hf x ((jobLine_of_jobOf hj k).trans hx) (hj' k x hx)

theorem closed_updateJobLine (hs : s.closedJobLaw)
    (hf : ∀ n j x, s.jobOf a = some (n, j) → j.closed = true → x.designated = 0 → (f x).designated = 0) :
    (s.updateJobLine a k f).closedJobLaw := by
  obtain ⟨-, e⟩ | ⟨n, j, x, hj, hx, e⟩ := updateJobLine_cases s a k f
  · rw [e]; exact hs
  · rw [e]
    refine closedJobLaw_put (y := j.setLine k (some (f x))) hs (fun i => job_setJob s n i _) fun hc m z hz => ?_
    have old (m : Fin 8) (z : JobLine) := hs n j m z (jobOf_eq.mp hj).2 hc
    rw [Job.setLine, slot_put] at hz
    split at hz
    · cases hz
      exact hf n j x hj hc (old k x hx)
    · exact old m z hz

/-! #### Designations released -/

theorem within_releaseDesignation (hs : ∀ n j, s.job n = some j → j.withinTargets) (d : Option Designation)
    (n : Fin 96) (j : Job) (hn : (s.releaseDesignation d).job n = some j) : j.withinTargets := by
  unfold State.releaseDesignation at hn
  split at hn
  · refine within_updateJobLine hs (fun x _ h => ?_) n j hn
    simp only [JobLine.undesignate]
    omega
  · exact hs n j hn

theorem closed_releaseDesignation (hs : s.closedJobLaw) (d : Option Designation) :
    (s.releaseDesignation d).closedJobLaw := by
  unfold State.releaseDesignation
  split
  · refine closed_updateJobLine hs fun n j x _ _ h => ?_
    simp only [JobLine.undesignate]
    omega
  · exact hs

theorem designatedOf_releaseDesignation (s : State) (d : Option Designation) (a : Nat) (k : Fin 8) :
    (s.releaseDesignation d).designatedOf a k = s.designatedOf a k - Designation.names d a k := by
  rw [State.designatedOf, jobLine_releaseDesignation, State.designatedOf]
  cases s.jobLine a k <;> simp [Designation.names]

theorem within_releaseParts (hs : ∀ n j, s.job n = some j → j.withinTargets) (p : Plan) :
    ∀ n j, (s.releaseParts p).job n = some j → j.withinTargets := by
  unfold State.releaseParts
  induction p.leaves generalizing s with
  | nil => exact hs
  | cons l ls ih => exact ih fun n j => within_releaseDesignation hs l.designation n j

theorem closed_releaseParts (hs : s.closedJobLaw) (p : Plan) : (s.releaseParts p).closedJobLaw := by
  unfold State.releaseParts
  induction p.leaves generalizing s with
  | nil => exact hs
  | cons l ls ih => exact ih (closed_releaseDesignation hs l.designation)

/-- A plan gone with its designations released (R43, R44). -/
theorem State.JobsSound.released (hj : s.JobsSound) (hq : s.plan q = some p) (hu : u.jobs = s.jobs)
    (hplans : t.plans = put s.plans q none) (hjobs : t.jobs = (u.releaseParts p).jobs) : t.JobsSound := by
  have hjob (n : Fin 96) : u.job n = s.job n := by rw [State.job, hu]; rfl
  refine hj.planGone hq hplans hjobs (within_releaseParts (fun n j hn => hj.within n j (hjob n ▸ hn)) p)
    (fun n => ?_) fun a k => ?_
  · rw [jobNumbers_bare (job_releaseParts_bare u p), hjob]
  · rw [State.designatedOf, jobLine_releaseParts, jobLine_of_jobs hu, State.designatedOf]
    cases s.jobLine a k <;> simp

/-! #### A designation set -/

theorem designate_jobs {r : Rect} (h : s.designate p i r d = .ok t) : t.jobs = s.jobs
    ∧ (∀ a k, d ≠ some (.part a k)) ∨ ∃ a k, d = some (.part a k) ∧ s.partCheck a k = .ok ()
      ∧ t = s.updateJobLine a k JobLine.designate := by
  unfold State.designate at h
  split at h
  · cases h; exact .inl ⟨rfl, nofun⟩
  · cases h; exact .inl ⟨rfl, nofun⟩
  · split at h
    · cases h; exact .inl ⟨rfl, nofun⟩
    · cases h
  · next a k =>
    split at h
    · cases h
    · next hc => cases h; exact .inr ⟨a, k, rfl, hc, rfl⟩

theorem partCheck_ok (h : s.partCheck a k = .ok ()) : ∃ n j x, s.jobOf a = some (n, j) ∧ j.closed = false
    ∧ slot j.lines k = some x ∧ x.delivered + x.designated < x.target := by
  unfold State.partCheck at h
  split at h
  · cases h
  · next n j hj =>
    split at h
    · cases h
    · next hc =>
      split at h
      · cases h
      · next x hx =>
        split at h
        · next hlt => exact ⟨n, j, x, hj, by simpa using hc, hx, hlt⟩
        · cases h

theorem within_designate {r : Rect} (h : s.designate p i r d = .ok t) (hs : ∀ n j, s.job n = some j → j.withinTargets)
    (n : Fin 96) (j : Job) (hn : t.job n = some j) : j.withinTargets := by
  obtain ⟨hjobs, -⟩ | ⟨a, k, -, hc, rfl⟩ := designate_jobs h
  · exact hs n j (by rw [State.job, hjobs] at hn; exact hn)
  · refine within_updateJobLine hs (fun x hx _ => ?_) n j hn
    obtain ⟨n', j', y, hj, -, hy, hlt⟩ := partCheck_ok hc
    rw [jobLine_of_jobOf hj, hy] at hx
    cases hx
    simp only [JobLine.designate]
    omega

theorem closed_designate {r : Rect} (h : s.designate p i r d = .ok t) (hs : s.closedJobLaw) : t.closedJobLaw := by
  obtain ⟨hjobs, -⟩ | ⟨a, k, -, hc, rfl⟩ := designate_jobs h
  · exact closedJobLaw_congr hjobs hs
  · obtain ⟨n', j', y, hj, hopen, -⟩ := partCheck_ok hc
    refine closed_updateJobLine hs fun n j x hj' hclosed => ?_
    rw [hj] at hj'
    cases hj'
    rw [hopen] at hclosed
    cases hclosed

theorem jobNumbers_designate {r : Rect} (h : s.designate p i r d = .ok t) (n : Fin 96) :
    (t.job n).map Job.number = (s.job n).map Job.number := by
  obtain ⟨hjobs, -⟩ | ⟨a, k, -, -, rfl⟩ := designate_jobs h
  · rw [State.job, hjobs]; rfl
  · exact jobNumbers_bare (job_updateJobLine_bare s a k _) n

theorem designatedOf_designate {r : Rect} (h : s.designate p i r d = .ok t) (a : Nat) (k : Fin 8) :
    t.designatedOf a k = s.designatedOf a k + Designation.names d a k := by
  obtain ⟨hjobs, hne⟩ | ⟨b, m, rfl, hc, rfl⟩ := designate_jobs h
  · rw [State.designatedOf, jobLine_of_jobs hjobs, Designation.names, if_neg (hne a k)]
    rfl
  · obtain ⟨n, j, y, hj, -, hy, -⟩ := partCheck_ok hc
    rw [State.designatedOf, jobLine_updateJobLine, State.designatedOf, Designation.names]
    by_cases hab : b = a ∧ m = k
    · obtain ⟨rfl, rfl⟩ := hab
      rw [if_pos ⟨rfl, rfl⟩, jobLine_of_jobOf hj, hy, if_pos rfl]
      rfl
    · rw [if_neg hab, if_neg (by simpa using hab)]
      rfl

end Designated

end Sys2Proof.Machine

namespace Sys2Proof.Machine

/-! ### What a step shows of lines, stations and jobs; the requests on the records -/

section LineLaws

variable {s t u : State} {k : Fin 12} {p q : Plan} {n : Fin 96} {j : Job} {fs : List Byte}

/-- What every step shows: each law of lines, stations and jobs that steps keep of themselves, and of a lawful state
those that rest on others. -/
structure LineLaws (s t : State) : Prop where
  transmit : s.transmitLaw → t.transmitLaw
  lineMap : s.lineMapLaw → t.lineMapLaw
  binding : s.bindingLaw → t.bindingLaw
  closed : s.closedJobLaw → t.closedJobLaw
  jobs : Lawful s → t.JobsSound
  images : Lawful s → t.everyImage Image.withinTargets
  orders : Lawful s → t.orderLaw

theorem Lawful.jobsSound (h : Lawful s) : s.JobsSound := ⟨h.jobLines.1, h.designations⟩

theorem Lawful.paired (h : Lawful s) : s.Paired where
  transmit := h.transmit
  lineMap := h.lineMap.1
  binding := h.binding
  named i k hk := by
    obtain ⟨p, hp, hb, hi, -⟩ := h.progress.2 i k hk
    exact ⟨p, hp, hb, hi⟩
  resume := by
    obtain ⟨-, -, -, h, -⟩ := h.thresholds.1
    omega

theorem Orderly.lineLaws (h : Orderly (fun _ => True) (fun _ => True) s t) : LineLaws s t where
  transmit := h.transmit
  lineMap hl := ⟨h.lineMap ▸ hl.1, h.images _ hl.2⟩
  binding := h.binding
  closed := h.closed
  jobs hl := h.jobs hl.tags hl.holding hl.jobsSound
  images hl := h.images _ hl.jobLines.2
  orders hl := orderLaw_iff.mpr ⟨fun i => h.flows hl.paired i (hl.orders.1 i),
    fun i => h.held hl.paired i trivial (hl.orders.2.1 i), fun i => h.ordered hl.paired i trivial (hl.orders.2.2 i)⟩

theorem LineLaws.refl (s : State) : LineLaws s s := (Orderly.refl s).lineLaws

/-- What is answered to the host leaves every law (R172). -/
theorem LineLaws.answer (h : LineLaws s t) (echo : Byte) (code : ReplyCode) : LineLaws s (t.answer echo code fs) :=
  ⟨h.transmit, h.lineMap, h.binding, h.closed, fun hl => .congr' (s := t) rfl rfl (h.jobs hl), h.images, h.orders⟩

/-- Records changed, the plans that stations name standing. -/
theorem Recorded.lineLaws (h : Recorded s t) (hc : s.closedJobLaw → t.closedJobLaw) (hj : Lawful s → t.JobsSound)
    (hp : s.Paired → ∀ i k, (s.station i).plan = some k → t.plan k = s.plan k) : LineLaws s t where
  transmit hl l := by rw [h.line]; exact hl l
  lineMap hl := ⟨h.lineMap ▸ hl.1, everyImage_congr (by rw [h.eq]) (by rw [h.eq]) hl.2⟩
  binding hl i b := by rw [h.station]; exact hl i b
  closed := hc
  jobs := hj
  images hl := everyImage_congr (by rw [h.eq]) (by rw [h.eq]) hl.jobLines.2
  orders hl := by
    obtain ⟨hflows, hheld, hordered⟩ := hl.orders
    refine orderLaw_iff.mpr ⟨fun i => ?_, fun i => ?_, fun i => ?_⟩
    · rw [State.flowsAt, h.station, h.water]; exact hflows i
    · rw [State.heldAt, h.station, State.thresholds, h.water]; exact hheld i
    · rw [State.orderedAt, State.stationLine, h.station, h.lineMap, h.line]
      intro ho
      obtain ⟨k, q, hk, hq, hrest⟩ := hordered i ho
      exact ⟨k, q, hk, (hp hl.paired i k hk).trans hq, hrest⟩

/-- Stock alone changed. -/
theorem Recorded.lineLaws_stock (h : Recorded s t) (hp : t.plans = s.plans) (hj : t.jobs = s.jobs) : LineLaws s t :=
  h.lineLaws (closedJobLaw_congr hj) (fun hl => .congr' hj hp hl.jobsSound) fun _ _ _ _ => by rw [State.plan, hp]; rfl

/-- A plan that no station works is named by none (R69). -/
theorem State.Paired.unnamed (hs : s.Paired) (hk : ∀ p, s.plan k = some p → p.state = .bound → p.station = none)
    (i : Fin 4) : (s.station i).plan ≠ some k := by
  intro hi
  obtain ⟨p, hp, hb, hpi⟩ := hs.named i k hi
  rw [hk p hp hb] at hpi
  cases hpi

/-- A plan that no station works replaced, opened or gone, with the stock and the jobs. -/
theorem Recorded.lineLaws_plan {x : Option Plan} (h : Recorded s t) (hplans : t.plans = put s.plans k x)
    (hk : ∀ p, s.plan k = some p → p.state = .bound → p.station = none) (hc : s.closedJobLaw → t.closedJobLaw)
    (hj : Lawful s → t.JobsSound) : LineLaws s t := by
  refine h.lineLaws hc hj fun hs i m hm => ?_
  rw [State.plan, hplans]
  exact slot_put_ne _ _ fun e => hs.unnamed hk i (e ▸ hm)

theorem recorded_rewriteSlab (s : State) (n : Fin 512) (r : Slab) : Recorded s (s.rewriteSlab n r) := ⟨rfl⟩
theorem recorded_setReserved (s : State) (n : Nat) : Recorded s (s.setReserved n) := ⟨rfl⟩
theorem recorded_bookOverhead (s : State) (f : Overhead → Overhead) : Recorded s (s.bookOverhead f) :=
  (booked_bookOverhead s f).recorded

theorem recorded_retireSlab (s : State) (n : Fin 512) (r : Slab) : Recorded s (s.retireSlab n r) :=
  (recorded_rackAt ..).trans ⟨rfl⟩

theorem recorded_releaseSlab (s : State) (tag : Nat) : Recorded s (s.releaseSlab tag) := by
  unfold State.releaseSlab
  split
  · exact .refl s
  · exact ⟨rfl⟩

theorem rackAt_jobs (s : State) (pos : Option (Fin 120)) (x : Option Nat) : (s.rackAt pos x).jobs = s.jobs := by
  cases pos <;> rfl

theorem releaseSlab_jobs (s : State) (tag : Nat) : (s.releaseSlab tag).jobs = s.jobs := by
  unfold State.releaseSlab
  split <;> rfl

/-! #### Stock and materials (R2, R3, R12 to R17) -/

theorem lines_admitSlab (tag material length width thickness cost rack : Nat) (s : State) :
    Answers (LineLaws s) (admitSlab tag material length width thickness cost rack s) := by
  refine .unless fun _ => ?_
  split
  · exact .refuse
  · exact .refuse
  · refine .unless fun _ => .unless fun _ => .unless fun _ => ?_
    split
    · exact .refuse
    · exact .unless fun _ => .done (((recorded_rackAt ..).trans (recorded_rewriteSlab ..)).lineLaws_stock
        (rackAt_plans ..) (rackAt_jobs ..))

theorem lines_moveSlab (tag rack : Nat) (s : State) : Answers (LineLaws s) (moveSlab tag rack s) := by
  unfold moveSlab
  split
  · exact .error
  · split
    · exact .refuse
    · refine .unless fun _ => .unless fun _ => .ite (fun _ => .done (.refl s)) fun _ => .done ?_
      exact (((recorded_rackAt ..).trans (recorded_rackAt ..)).trans (recorded_rewriteSlab ..)).lineLaws_stock
        ((rackAt_plans ..).trans (rackAt_plans ..)) ((rackAt_jobs ..).trans (rackAt_jobs ..))

theorem LineLaws.ite {c : Prop} [Decidable c] (h : LineLaws s t) (g : LineLaws s u) :
    LineLaws s (if c then t else u) := by
  split
  · exact h
  · exact g

theorem lines_amendSlab (tag length width cost : Nat) (s : State) :
    Answers (LineLaws s) (amendSlab tag length width cost s) := by
  unfold amendSlab
  split
  · exact .error
  · exact .unless fun _ => .unless fun _ => .done (.ite (.refl s) ((recorded_rewriteSlab ..).lineLaws_stock rfl rfl))

theorem lines_retireSlab (tag reason : Nat) (s : State) : Answers (LineLaws s) (retireSlab tag reason s) := by
  unfold retireSlab
  split
  · exact .error
  · refine .unless fun _ => .unless fun _ => .done ?_
    split
    · exact ((recorded_bookOverhead ..).trans (recorded_retireSlab ..)).lineLaws_stock
        ((rackAt_plans ..).trans (booked_bookOverhead ..).plans) ((rackAt_jobs ..).trans (bookOverhead_jobs ..))
    · exact (recorded_retireSlab ..).lineLaws_stock (rackAt_plans ..) (rackAt_jobs ..)

theorem lines_setMaterial (code veined density baseFeed minFeed hardness minRemLength minRemWidth valueFactor : Nat)
    (s : State) : Answers (LineLaws s)
      (setMaterial code veined density baseFeed minFeed hardness minRemLength minRemWidth valueFactor s) := by
  unfold setMaterial
  split
  · exact .refuse
  · exact .done (.ite (.refl s) (Recorded.lineLaws_stock ⟨rfl⟩ rfl rfl))

theorem lines_clearMaterial (code : Nat) (s : State) : Answers (LineLaws s) (clearMaterial code s) := by
  unfold clearMaterial
  split
  · exact .refuse
  · exact .unless fun _ => .unless fun _ => .done (Recorded.lineLaws_stock ⟨rfl⟩ rfl rfl)

end LineLaws

end Sys2Proof.Machine

namespace Sys2Proof.Machine

/-! ### Requests on plans and jobs (R30 to R44, R137 to R141) -/

section PlanLines

variable {s t u : State} {k : Fin 12} {p q : Plan} {n : Fin 96} {j : Job}

/-- A plan that is not BOUND, in the terms of `Recorded.lineLaws_plan`. -/
theorem unworked (hk : s.plan k = some p) (h : p.state = .bound → p.station = none) (y : Plan)
    (hy : s.plan k = some y) (hb : y.state = .bound) : y.station = none := by
  rw [hk] at hy
  cases hy
  exact h hb

/-- An OPEN or LOCKED plan changed but for its PART leaves, with the stock. -/
theorem Recorded.lineLaws_samePlan (h : Recorded s t) (hk : s.plan k = some p) (hb : p.state ≠ .bound)
    (hplans : t.plans = put s.plans k (some q)) (hjobs : t.jobs = s.jobs)
    (hd : Lawful s → ∀ a m, q.partsOf a m = p.partsOf a m) : LineLaws s t := by
  refine h.lineLaws_plan hplans (unworked hk fun h => absurd h hb) (closedJobLaw_congr hjobs) fun hl => ?_
  refine hl.jobsSound.samePlan hplans hjobs fun a m => ?_
  rw [hk]
  exact (hd hl a m).symm

theorem partsOf_new (tag kerf length width a : Nat) (m : Fin 8) : (Plan.new tag kerf length width).partsOf a m = 0 := by
  have blank : countWhere (Vector.replicate 64 Piece.unused) (Piece.isPart a m) = 0 := by
    rw [countWhere, List.countP_eq_zero]
    intro x hx
    rw [Vector.toList_replicate] at hx
    rw [List.eq_of_mem_replicate hx]
    exact Bool.false_ne_true
  rw [partsOf_eq, Plan.new, parts_put_same (by rw [slot_replicate]; rfl) rfl, blank]

theorem lines_openPlan (tag kerf : Nat) (s : State) : Answers (LineLaws s) (openPlan tag kerf s) := by
  refine .unless fun _ => ?_
  split
  · exact .refuse
  · next k hk =>
    split
    · exact .error
    · next n r h =>
      have hnone : s.plan k = none := Option.isNone_iff_eq_none.mp (lowest_some hk).1
      refine .done (Recorded.lineLaws_plan (k := k) (x := some (Plan.new tag kerf r.length r.width)) ⟨rfl⟩ rfl
        (fun p hp => ?_) id fun hl => ?_)
      · rw [hnone] at hp; cases hp
      · refine hl.jobsSound.samePlan (q := k) rfl rfl fun a m => ?_
        rw [hnone]
        exact (partsOf_new ..).symm

/-- A cut on an undesignated leaf: its children take pieces that were none (R31). -/
theorem partsOf_withCut {i : Fin 64} {axis : Axis} {offset : Nat} {r : Rect} {o : Option Origin} (hw : p.wellCut)
    (hc : p.cuts.length < 31) (hleaf : slot p.pieces i = .leaf r o none) (a : Nat) (m : Fin 8) :
    (p.withCut i axis offset r o).partsOf a m = p.partsOf a m := by
  obtain ⟨-, hunused, -⟩ := (wellCut_iff p).mp hw
  have hi : i.val ≤ 2 * p.cuts.length := by
    by_contra hlt
    have := (hunused i).mpr (by omega)
    rw [hleaf] at this; cases this
  obtain ⟨h12, h1, h2⟩ := pieceIndex_new hc hi
  have new {c : Nat} (hlt : 2 * p.cuts.length < c) (hc : c < 64) : slot p.pieces (pieceIndex c) = .unused :=
    (hunused _).mpr (by rw [pieceIndex_val hc]; exact hlt)
  rw [partsOf_eq, Plan.withCut, parts_put_same ?_ rfl, parts_put_same ?_ rfl, parts_put_same (by rw [hleaf]; rfl) rfl,
    partsOf_eq]
  · rw [slot_put_ne _ _ h1.symm, new (by omega) (by omega)]; rfl
  · rw [slot_put_ne _ _ h12, slot_put_ne _ _ h2.symm, new (by omega) (by omega)]; rfl

theorem lines_addCut (plan piece axis offset : Nat) (s : State) :
    Answers (LineLaws s) (addCut plan piece axis offset s) := by
  unfold addCut
  split
  · exact .error
  · next k p h =>
    obtain ⟨-, hk, ho⟩ := planCheck_ok h
    rw [isOpened_iff] at ho
    split
    · exact .refuse
    · exact .refuse
    · refine .unless fun _ => ?_
      split
      · exact .refuse
      · exact .refuse
      · exact .refuse
      · next r o hleaf =>
        refine .unless fun _ => .unless fun hc => .done ?_
        exact (recorded_setPlan ..).lineLaws_samePlan hk (by rw [ho]; decide) rfl rfl fun hl =>
          partsOf_withCut (hl.plans k p hk).1 (by omega) hleaf

theorem partsOf_withoutCut {g : Cut} (h1 : (slot p.pieces (pieceIndex (2 * (p.cuts.length - 1) + 1))).designated
    = false)
    (h2 : (slot p.pieces (pieceIndex (2 * (p.cuts.length - 1) + 2))).designated = false) (a : Nat) (m : Fin 8) :
    (p.withoutCut g).partsOf a m = p.partsOf a m := by
  have rejoined (v : Vector Piece 64) (i : Fin 64) : countWhere (put v i (slot v i).rejoined) (Piece.isPart a m)
      = countWhere v (Piece.isPart a m) := by
    have := parts_put v i (slot v i).rejoined a m
    have same : (slot v i).rejoined.names a m = (slot v i).names a m := by
      cases slot v i with
      | split r o => simp [Piece.rejoined, Piece.names, Designation.names]
      | _ => rfl
    omega
  rw [partsOf_eq, Plan.withoutCut, rejoined, parts_put_same ?_ rfl, parts_put_same h1 rfl, partsOf_eq]
  rw [slot_put]
  split
  · rfl
  · exact h2

theorem lines_undoCut (plan : Nat) (s : State) : Answers (LineLaws s) (undoCut plan s) := by
  unfold undoCut
  split
  · exact .error
  · next k p h =>
    obtain ⟨-, hk, ho⟩ := planCheck_ok h
    rw [isOpened_iff] at ho
    split
    · exact .refuse
    · next g hg =>
      refine .unless fun hd => .done ?_
      have hd := Bool.or_eq_false_iff.mp (Bool.eq_false_iff.mpr hd)
      exact (recorded_setPlan ..).lineLaws_samePlan (q := p.withoutCut g) hk (by rw [ho]; decide) rfl rfl fun _ =>
        partsOf_withoutCut hd.1 hd.2

/-- A leaf marked afresh: its line gives up one designation and the new one's takes one (R33 to R36). -/
theorem sound_remarked {i : Fin 64} {r : Rect} {o : Option Origin} {old d : Option Designation} (hj : s.JobsSound)
    (hk : s.plan k = some p) (hleaf : slot p.pieces i = .leaf r o old)
    (hu : (s.releaseDesignation old).designate p i r d = .ok u)
    (hplans : t.plans = put s.plans k (some { p with pieces := put p.pieces i (.leaf r o d) }))
    (hjobs : t.jobs = u.jobs) : t.JobsSound := by
  have hjob (n : Fin 96) : t.job n = u.job n := by rw [State.job, hjobs]; rfl
  have within := within_designate hu (within_releaseDesignation hj.within old)
  have numbers (n : Fin 96) := (jobNumbers_designate hu n).trans
    (jobNumbers_bare (job_releaseDesignation_bare s old) n)
  refine hj.replan hplans (fun n j hn => within n j (hjob n ▸ hn)) (fun n => by rw [hjob]; exact numbers n)
    fun a m => ?_
  obtain ⟨-, hcount⟩ := designationLaw_iff.mp hj.designations
  have le := (partsOf_le hk a m).trans_eq (hcount a m).symm
  have marked : ({ p with pieces := put p.pieces i (.leaf r o d) } : Plan).partsOf a m + Designation.names old a m
      = p.partsOf a m + Designation.names d a m := by
    have := parts_put p.pieces i (.leaf r o d) a m
    rw [hleaf] at this
    exact this
  have one : Designation.names old a m ≤ p.partsOf a m := by
    have := parts_put p.pieces i .unused a m
    rw [hleaf] at this
    exact (Nat.le_add_left ..).trans_eq this
  rw [State.designatedOf, jobLine_of_jobs hjobs, ← State.designatedOf, designatedOf_designate hu,
    designatedOf_releaseDesignation, hk]
  simp only [Option.map_some, Option.getD_some]
  omega

theorem lines_markPiece (plan piece designation job line : Nat) (s : State) :
    Answers (LineLaws s) (markPiece plan piece designation job line s) := by
  unfold markPiece
  split
  · exact .error
  · next k p h =>
    obtain ⟨-, hk, ho⟩ := planCheck_ok h
    rw [isOpened_iff] at ho
    split
    · exact .refuse
    · exact .refuse
    · next i d _ _ =>
      split
      · exact .refuse
      · exact .refuse
      · next r o old hleaf =>
        split
        · exact .error
        · next t ht =>
          refine .done ?_
          have hb : Booked s t := (booked_releaseDesignation ..).trans (booked_designate ht)
          refine (hb.recorded.trans (recorded_setPlan ..)).lineLaws_plan (k := k) (by rw [← hb.plans]; rfl)
            (unworked hk fun h => absurd (ho.symm.trans h) (by decide))
            (fun hc => closedJobLaw_congr (s := t) rfl (closed_designate ht (closed_releaseDesignation hc old)))
            fun hl => ?_
          exact sound_remarked (t := t.setPlan k _) hl.jobsSound hk hleaf ht (by rw [← hb.plans]; rfl) rfl

theorem lines_lockPlan (plan : Nat) (s : State) : Answers (LineLaws s) (lockPlan plan s) := by
  unfold lockPlan
  split
  · exact .error
  · next k p h =>
    obtain ⟨-, hk, ho⟩ := planCheck_ok h
    rw [isOpened_iff] at ho
    refine .unless fun _ => ?_
    split
    · exact .error
    · split
      · exact .refuse
      · split
        · exact .error
        · exact .unless fun _ => .done (((recorded_setReserved ..).trans (recorded_setPlan ..)).lineLaws_samePlan hk
            (by rw [ho]; decide) rfl rfl fun _ => partsOf_pieces rfl)

theorem lines_unlockPlan (plan : Nat) (s : State) : Answers (LineLaws s) (unlockPlan plan s) := by
  unfold unlockPlan
  split
  · exact .error
  · next k p h =>
    obtain ⟨-, hk, hl⟩ := planCheck_ok h
    rw [isLocked_iff] at hl
    exact .done (((recorded_setReserved ..).trans (recorded_setPlan ..)).lineLaws_samePlan hk
      (by rw [hl]; decide) rfl rfl fun _ => partsOf_pieces rfl)

/-- The plan a request lets go, with its designations (R43, R44). -/
theorem Recorded.lineLaws_gone (h : Recorded s t) (hk : s.plan k = some p) (hb : p.state = .bound → p.station = none)
    (hplans : t.plans = put s.plans k none) (hu : u.jobs = s.jobs) (hjobs : t.jobs = (u.releaseParts p).jobs) :
    LineLaws s t :=
  h.lineLaws_plan hplans (unworked hk hb)
    (fun hc => closedJobLaw_congr hjobs (closed_releaseParts (closedJobLaw_congr hu hc) p))
    fun hl => hl.jobsSound.released hk hu hplans hjobs

theorem lines_dropPlan (plan : Nat) (s : State) : Answers (LineLaws s) (dropPlan plan s) := by
  unfold dropPlan
  split
  · exact .error
  · next k p h =>
    obtain ⟨-, hk, hb⟩ := planCheck_ok h
    have booked := booked_releaseParts s p
    refine .done ((((booked.recorded.trans (recorded_setReserved ..)).trans (recorded_releaseSlab ..)).trans
      (recorded_setPlan ..)).lineLaws_gone (u := s) hk (fun h => ?_) ?_ rfl ?_)
    · rw [h] at hb; cases hb
    · have hplans : (((s.releaseParts p).giveBack p).releaseSlab p.slabTag).plans = s.plans :=
        (releaseSlab_plans ..).trans booked.plans
      rw [← hplans]
      rfl
    · have hjobs := releaseSlab_jobs ((s.releaseParts p).giveBack p) p.slabTag
      generalize ((s.releaseParts p).giveBack p).releaseSlab p.slabTag = v at hjobs
      exact hjobs

end PlanLines

end Sys2Proof.Machine

namespace Sys2Proof.Machine

/-! ### Requests on jobs (R130, R131, R137 to R141) -/

section JobRequests

variable {s t u : State} {a b : Nat} {k m : Fin 8} {n : Fin 96} {j y : Job} {x : JobLine}

theorem jobCheck_ok (h : s.jobCheck a = .ok (n, j)) : s.jobOf a = some (n, j) := by
  unfold State.jobCheck at h
  split at h
  · cases h
  · split at h
    · cases h
    · next hj => cases h; exact hj

/-- With unique numbers a job line is that of the one live job of the number (R130). -/
theorem jobLine_iff (hu : s.jobsUnique) : s.jobLine a m = some x
    ↔ ∃ n j, s.job n = some j ∧ j.number = a ∧ slot j.lines m = some x := by
  constructor
  · intro h
    cases hf : s.findJob a with
    | none => rw [jobLine_none (jobOf_none hf)] at h; cases h
    | some n =>
      obtain ⟨j, hj, ha⟩ := findJob_some hf
      rw [jobLine_of_jobOf (jobOf_eq.mpr ⟨hf, hj⟩)] at h
      exact ⟨n, j, hj, ha, h⟩
  · rintro ⟨n, j, hj, ha, hx⟩
    cases hf : s.findJob a with
    | none =>
      have := (lowest_none.mp hf) n
      change (s.job n).any _ = false at this
      rw [hj] at this
      simp [ha] at this
    | some i =>
      obtain ⟨z, hz, hza⟩ := findJob_some hf
      have hin := hu i n z j hz hj (hza.trans ha.symm)
      subst hin
      rw [hj] at hz; cases hz
      exact (jobLine_of_jobOf (jobOf_eq.mpr ⟨hf, hj⟩) m).trans hx

/-- Of a number whose live jobs are as they were the lines are as they were. -/
theorem jobLine_apart (hs : s.jobsUnique) (ht : t.jobsUnique)
    (h : ∀ n j, j.number = a → (t.job n = some j ↔ s.job n = some j)) (m : Fin 8) : t.jobLine a m = s.jobLine a m := by
  refine Option.ext fun x => ?_
  rw [jobLine_iff ht, jobLine_iff hs]
  refine exists_congr fun n => exists_congr fun j => ?_
  constructor
  · rintro ⟨hj, ha, hx⟩; exact ⟨(h n j ha).mp hj, ha, hx⟩
  · rintro ⟨hj, ha, hx⟩; exact ⟨(h n j ha).mpr hj, ha, hx⟩

/-- Jobs changed but for their designated counts: the job laws stand. -/
theorem State.JobsSound.sameCounts (hj : s.JobsSound) (hplans : t.plans = s.plans)
    (hw : ∀ n j, t.job n = some j → j.withinTargets) (hu : t.jobsUnique)
    (hd : ∀ a k, t.designatedOf a k = s.designatedOf a k) : t.JobsSound := by
  obtain ⟨-, hcount⟩ := designationLaw_iff.mp hj.designations
  exact ⟨hw, designationLaw_iff.mpr ⟨hu, fun a k => by rw [hd, hcount, namedParts_plans hplans]⟩⟩

/-- A live record replaced under its number, each line designated as it was. -/
theorem State.JobsSound.rejob (hj : s.JobsSound) (hplans : t.plans = s.plans) (hjob : s.jobOf a = some (n, j))
    (hnum : y.number = j.number) (ht : ∀ i, t.job i = if n = i then some y else s.job i) (hw : y.withinTargets)
    (hd : ∀ m, ((slot y.lines m).map (·.designated)).getD 0 = ((slot j.lines m).map (·.designated)).getD 0) :
    t.JobsSound := by
  have hn := (jobOf_eq.mp hjob).2
  refine hj.sameCounts hplans (within_put hj.within hw ht)
    (jobsUnique_congr (jobNumbers_put hn hnum ht) (designationLaw_iff.mp hj.designations).1) fun b m => ?_
  rw [State.designatedOf, jobLine_put hjob hnum ht, State.designatedOf]
  split
  · next h => subst h; rw [hd, jobLine_of_jobOf hjob]
  · rfl

/-- Jobs alone changed. -/
theorem Recorded.lineLaws_jobs (h : Recorded s t) (hp : t.plans = s.plans) (hc : s.closedJobLaw → t.closedJobLaw)
    (hj : Lawful s → t.JobsSound) : LineLaws s t :=
  h.lineLaws hc hj fun _ _ _ _ => by rw [State.plan, hp]; rfl

theorem lines_openJob (number : Nat) (s : State) : Answers (LineLaws s) (openJob number s) := by
  refine .unless fun _ => .unless fun hdup => ?_
  split
  · exact .refuse
  · next n hn =>
    have hnone : s.job n = none := Option.isNone_iff_eq_none.mp (lowest_some hn).1
    have hfind : s.findJob number = none := by simpa using hdup
    have hnew (i : Fin 96) (j : Job) (hj : s.job i = some j) : j.number ≠ number := by
      have := (lowest_none.mp hfind) i
      change (s.job i).any _ = false at this
      rw [hj] at this
      simpa using this
    have hjob (i : Fin 96) : (((s.setJob n (some (Job.new number))).enqueue (jobPage n)).job i)
        = if n = i then some (Job.new number) else s.job i := job_setJob ..
    refine .done (Recorded.lineLaws_jobs ⟨rfl⟩ rfl (fun hc => ?_) fun hl => ?_)
    · exact closedJobLaw_put hc hjob fun h => by cases h
    · have hs := (designationLaw_iff.mp hl.designations).1
      have ht : ((s.setJob n (some (Job.new number))).enqueue (jobPage n)).jobsUnique := by
        intro i l z v hz hv e
        rw [hjob] at hz hv
        split at hz
        · split at hv
          · next h1 h2 => exact h1.symm.trans h2
          · cases hz; exact absurd e.symm (hnew l v hv)
        · split at hv
          · cases hv; exact absurd e (hnew i z hz)
          · exact hs i l z v hz hv e
      refine hl.jobsSound.sameCounts rfl (within_put hl.jobLines.1 ?_ hjob) ht fun b m => ?_
      · intro l x hx
        rw [Job.new, slot_replicate] at hx; cases hx
      · by_cases hb : b = number
        · subst hb
          rw [State.designatedOf, State.designatedOf, jobLine_none (jobOf_none hfind)]
          cases hx : ((s.setJob n (some (Job.new b))).enqueue (jobPage n)).jobLine b m with
          | none => rfl
          | some x =>
            obtain ⟨i, z, hz, hzb, hzx⟩ := (jobLine_iff ht).mp hx
            rw [hjob] at hz
            split at hz
            · cases hz; rw [Job.new, slot_replicate] at hzx; cases hzx
            · exact absurd hzb (hnew i z hz)
        · rw [State.designatedOf, jobLine_apart hs ht fun i z hz => ?_, State.designatedOf]
          rw [hjob]
          split
          · next h =>
            subst h
            rw [hnone]
            refine ⟨fun e => ?_, nofun⟩
            cases e
            exact absurd hz.symm hb
          · exact Iff.rfl

theorem retarget_cases (x : Option JobLine) (target : Nat) (h : ¬ target < lineUse x) :
    (∀ y, retarget x target = some y → y.delivered + y.designated ≤ y.target)
    ∧ ((retarget x target).map (·.designated)).getD 0 = (x.map (·.designated)).getD 0 := by
  unfold retarget
  cases x with
  | none =>
    split
    · exact ⟨nofun, rfl⟩
    · refine ⟨?_, rfl⟩
      rintro _ ⟨⟩
      exact Nat.zero_le _
  | some y =>
    have hle : y.delivered + y.designated ≤ target := Nat.not_lt.mp h
    split
    · next h0 =>
      refine ⟨nofun, ?_⟩
      simp only [Option.map_none, Option.getD_none, Option.map_some, Option.getD_some]
      omega
    · refine ⟨?_, rfl⟩
      rintro _ ⟨⟩
      exact hle

theorem lines_setLine (number line target : Nat) (s : State) :
    Answers (LineLaws s) (setLine number line target s) := by
  unfold setLine
  split
  · exact .error
  · next n j h =>
    have hjob := jobCheck_ok h
    split
    · exact .refuse
    · next k _ =>
      refine .unless fun _ => .unless fun hopen => .unless fun hroom => .done (.ite (.refl s) ?_)
      obtain ⟨hwithin, hsame⟩ := retarget_cases (slot j.lines k) target hroom
      refine Recorded.lineLaws_jobs ⟨rfl⟩ rfl (fun hc => ?_) fun hl => ?_
      · exact closedJobLaw_put hc (fun i => job_setJob s n i _) fun h => absurd h hopen
      · refine hl.jobsSound.rejob (y := j.setLine k (retarget (slot j.lines k) target)) rfl hjob rfl
          (fun i => job_setJob s n i _)
          (withinTargets_setLine (hl.jobLines.1 n j (jobOf_eq.mp hjob).2) hwithin) fun m => ?_
        rw [Job.setLine, slot_put]
        split
        · next hkm => subst hkm; exact hsame
        · rfl

theorem lines_closeJob (number : Nat) (s : State) : Answers (LineLaws s) (closeJob number s) := by
  unfold closeJob
  split
  · exact .error
  · next n j h =>
    have hjob := jobCheck_ok h
    refine .unless fun _ => ?_
    split
    · exact .error
    · next hfree =>
      refine .done (Recorded.lineLaws_jobs ⟨rfl⟩ rfl (fun hc => ?_) fun hl => ?_)
      · refine closedJobLaw_put hc (fun i => job_setJob s n i _) fun _ m x hx => ?_
        have := (lowest_none.mp hfree) m
        change (slot j.lines m).any _ = false at this
        replace hx : slot j.lines m = some x := hx
        rw [hx] at this
        simpa using this
      · exact hl.jobsSound.rejob (y := { j with closed := true }) rfl hjob rfl (fun i => job_setJob s n i _)
          (hl.jobLines.1 n j (jobOf_eq.mp hjob).2) fun _ => rfl

theorem lines_retireJob (number : Nat) (s : State) : Answers (LineLaws s) (retireJob number s) := by
  unfold retireJob
  split
  · exact .error
  · next n j h =>
    have hjob := jobCheck_ok h
    obtain ⟨hfind, hn⟩ := jobOf_eq.mp hjob
    refine .ite (fun hclosed => ?_) fun _ => .refuse
    have ht (i : Fin 96) : ((s.setJob n none).enqueue (jobPage n)).job i = if n = i then none else s.job i :=
      job_setJob ..
    have back (i : Fin 96) (z : Job) (hz : ((s.setJob n none).enqueue (jobPage n)).job i = some z) :
        n ≠ i ∧ s.job i = some z := by
      rw [ht] at hz
      split at hz
      · cases hz
      · exact ⟨‹_›, hz⟩
    refine .done (Recorded.lineLaws_jobs ⟨rfl⟩ rfl (fun hc i z m x hz => hc i z m x (back i z hz).2) fun hl => ?_)
    have hs := (designationLaw_iff.mp hl.designations).1
    have htu : ((s.setJob n none).enqueue (jobPage n)).jobsUnique := fun i l z v hz hv =>
      hs i l z v (back i z hz).2 (back l v hv).2
    refine hl.jobsSound.sameCounts rfl (fun i z hz => hl.jobLines.1 i z (back i z hz).2) htu fun b m => ?_
    by_cases hb : b = number
    · subst hb
      have gone : ((s.setJob n none).enqueue (jobPage n)).jobLine b m = none := by
        rw [Option.eq_none_iff_forall_ne_some]
        intro x hx
        obtain ⟨i, z, hz, hzb, -⟩ := (jobLine_iff htu).mp hx
        obtain ⟨hni, hz⟩ := back i z hz
        obtain ⟨y, hy, hyb⟩ := findJob_some hfind
        exact hni (hs n i y z hy hz (hyb.trans hzb.symm))
      rw [State.designatedOf, gone, State.designatedOf, jobLine_of_jobOf hjob]
      cases hx : slot j.lines m with
      | none => rfl
      | some x => exact (hl.closedJobs n j m x hn hclosed hx).symm
    · rw [State.designatedOf, jobLine_apart hs htu fun i z hz => ?_, State.designatedOf]
      rw [ht]
      split
      · next hni =>
        subst hni
        refine ⟨nofun, fun hz' => ?_⟩
        obtain ⟨y, hy, hyb⟩ := findJob_some hfind
        rw [hz'] at hy; cases hy
        exact absurd (hz.symm.trans hyb) hb
      · exact Iff.rfl

end JobRequests

end Sys2Proof.Machine

namespace Sys2Proof.Machine

/-! ### Pages, the write unit, resets and the restore (R154 to R166) -/

section PageLines

variable {P : Image → Prop} {s t : State} {p : Fin 648} {x : Page} {im : Image}

theorem setPage_page (s : State) (p q : Fin 648) (x : Page) : (s.setPage p x).page q = if p = q then x else s.page q :=
  slot_put ..

/-- A page replaced by content that has the property, or by none. -/
theorem State.everyImage.setPage (h : s.everyImage P) (hx : ∀ im, x = .valid im → P im) :
    (s.setPage p x).everyImage P := by
  refine ⟨fun q im hq => ?_, h.2⟩
  rw [setPage_page] at hq
  split at hq
  · exact hx im hq
  · exact h.1 q im hq

theorem State.everyImage.setWrite {w : Option PageWrite} (h : s.everyImage P)
    (hw : ∀ y, w = some y → (∀ im, y.image = some im → P im) ∧ ∀ im, y.before = .valid im → P im) :
    (s.setWrite w).everyImage P := ⟨h.1, hw⟩

/-- The write unit made IDLE. -/
theorem State.everyImage.idle (h : s.everyImage P) (h1 : t.retention.pages = s.retention.pages)
    (h2 : t.retention.write = none) : t.everyImage P := by
  refine ⟨fun p im hp => h.1 p im ?_, fun w hw => ?_⟩
  · rw [State.page, ← h1]; exact hp
  · rw [h2] at hw; cases hw

theorem remains_valid {w : PageWrite} {b : Bool} (h : w.remains b = .valid im) : w.before = .valid im := by
  unfold PageWrite.remains at h
  split at h
  · next im' _ hb =>
    split at h
    · cases h; exact hb
    · cases h
  · cases h

theorem cutOff_valid {w : PageWrite} {b : Bool} (h : w.cutOff b = .valid im) : w.image = some im := by
  unfold PageWrite.cutOff at h
  split at h
  · split at h <;> cases h
  · split at h <;> cases h
  · cases h
  · next im' hi _ =>
    split at h
    · cases h; exact hi
    · cases h

theorem images_cutWrite (h : s.everyImage P) : s.cutWrite.everyImage P := by
  unfold State.cutWrite
  split
  · exact h
  · next w hw =>
    have set : (s.setPage w.page (w.cutOff (Config.pageRemains s.freeUses))).everyImage P :=
      h.setPage fun im hx => (h.2 w hw).1 im (cutOff_valid hx)
    exact set.idle rfl rfl

theorem images_writeSucceeds {w : PageWrite} (h : s.everyImage P) (hw : s.retention.write = some w) :
    (s.writeSucceeds w).everyImage P := by
  have set : (s.setPage w.page (match w.image with
      | none => .blank
      | some im => .valid im)).everyImage P := by
    refine h.setPage fun im hx => (h.2 w hw).1 im ?_
    split at hx
    · cases hx
    · next hi => cases hx; exact hi
  exact set.idle rfl rfl

theorem images_writeGivenUp {w : PageWrite} (h : s.everyImage P) (hw : s.retention.write = some w) :
    (s.writeGivenUp w).everyImage P := by
  have set : (s.setPage w.page (w.remains (Config.pageRemains s.freeUses))).everyImage P :=
    h.setPage fun im hx => (h.2 w hw).2 im (remains_valid hx)
  exact set.idle rfl rfl

/-- The unit's own steps change pages, the write in flight and its notice alone (R157, R159). -/
theorem orderly_pages {e v : Fin 4 → Prop}
    (h : t = { s with retention := t.retention, freeUses := t.freeUses, notices := t.notices })
    (hi : ∀ P, s.everyImage P → t.everyImage P) : Orderly e v s t := by
  have q : Quiet s { t with retention := s.retention } := by
    rw [h]
    exact .of_fields rfl rfl rfl rfl rfl rfl rfl rfl rfl rfl
  exact Quiet.orderly ⟨.of_fields (by rw [h]) (by rw [h]) (by rw [h]), q.lineMap, hi, q.jobs, q.factor, q.resume,
    q.lines,
    q.orders, q.stations⟩

theorem orderly_eraseEnds {e v : Fin 4 → Prop} (s : State) : Orderly e v s s.eraseEnds := by
  unfold State.eraseEnds
  split
  · exact .refl s
  · next w hw =>
    refine .ite (orderly_pages rfl fun P h => State.everyImage.setWrite (h.setPage nofun) ?_) (.refl s)
    rintro _ ⟨⟩
    exact h.2 w hw

theorem orderly_programEnds {e v : Fin 4 → Prop} (s : State) : Orderly e v s s.programEnds := by
  unfold State.programEnds
  split
  · exact .refl s
  · next w hw =>
    refine .ite (orderly_pages rfl fun P h => State.everyImage.setWrite (h.setPage nofun) ?_) (.refl s)
    rintro _ ⟨⟩
    exact h.2 w hw

theorem orderly_verifyEnds {e v : Fin 4 → Prop} (s : State) (a b : Bool) : Orderly e v s (s.verifyEnds a b) := by
  unfold State.verifyEnds
  split
  · exact .refl s
  · next w hw =>
    refine .ite (.refl s) (.ite (orderly_pages rfl fun P h => images_writeSucceeds h hw)
      (.ite (orderly_pages rfl fun P h => images_writeGivenUp h hw) (orderly_pages rfl fun P h => ?_)))
    refine State.everyImage.setWrite h ?_
    rintro _ ⟨⟩
    exact h.2 w hw

/-- The write taken up copies its record: each image law is kept that the record it copies keeps (R156). -/
theorem images_startPageWrite (h : s.everyImage P) (hr : ∀ p im, s.imageOf p = some im → P im) :
    s.startPageWrite.everyImage P := by
  unfold State.startPageWrite
  split
  · exact h
  · next p rest hq =>
    split
    · refine ⟨h.1, ?_⟩
      rintro _ ⟨⟩
      exact ⟨hr p, h.1 p⟩
    · exact h

theorem imageOf_mapOneToOne (h : s.lineMap.toList.Nodup) (p : Fin 648) (im : Image) (hp : s.imageOf p = some im) :
    im.mapOneToOne := by
  unfold State.imageOf at hp
  split at hp
  case h_7 => cases hp; exact h
  case h_3 | h_6 | h_8 => cases hp; trivial
  all_goals
    obtain ⟨_, _, rfl⟩ := Option.map_eq_some_iff.mp hp
    trivial

theorem imageOf_withinTargets (h : ∀ n j, s.job n = some j → j.withinTargets) (p : Fin 648) (im : Image)
    (hp : s.imageOf p = some im) : im.withinTargets := by
  unfold State.imageOf at hp
  split at hp
  case h_2 n _ =>
    obtain ⟨j, hj, rfl⟩ := Option.map_eq_some_iff.mp hp
    exact h n j hj
  case h_3 | h_6 | h_7 | h_8 => cases hp; trivial
  all_goals
    obtain ⟨_, _, rfl⟩ := Option.map_eq_some_iff.mp hp
    trivial

end PageLines

end Sys2Proof.Machine

namespace Sys2Proof.Machine

/-! ### A device reset and the end of the restore (R140, R153, R162 to R165) -/

section ResetLines

variable {s t : State} {pages : Vector Page 648} {n : Fin 96} {j : Job} {m : Fin 8} {x : JobLine}

/-- Stations as a device reset leaves them meet every law of theirs. -/
theorem laws_resetStations (h : t.stations = Vector.replicate 4 Station.afterReset) : t.bindingLaw ∧ t.orderLaw := by
  have station (i : Fin 4) : t.station i = Station.afterReset := by rw [State.station, h]; exact slot_replicate ..
  refine ⟨fun i b hb => ?_, fun i hi => ?_, fun i hi => ?_, fun i hi => ?_⟩
  · rw [station] at hb ⊢
    cases hb
    rfl
  all_goals rw [station] at hi; cases hi

theorem transmitLaw_resetLines (h : t.lines = Vector.replicate 5 Line.afterReset) : t.transmitLaw := fun l => by
  have line : t.line l = Line.afterReset := by rw [State.line, h]; exact slot_replicate ..
  rw [line]
  exact ⟨List.nodup_nil, fun _ => ⟨rfl, rfl⟩⟩

/-- Where no plan stands and no line is designated the counts agree (R33). -/
theorem designationLaw_bare (hp : ∀ k, t.plan k = none) (hu : t.jobsUnique)
    (hd : ∀ n j m x, t.job n = some j → slot j.lines m = some x → x.designated = 0) : t.designationLaw := by
  refine designationLaw_iff.mpr ⟨hu, fun a m => ?_⟩
  have none_named : t.namedParts a m = 0 := by
    rw [State.namedParts]
    exact Finset.sum_eq_zero fun k _ => by rw [hp]; rfl
  rw [none_named, State.designatedOf]
  cases hx : t.jobLine a m with
  | none => rfl
  | some x =>
    obtain ⟨n, j, hj, -, hl⟩ := (jobLine_iff hu).mp hx
    exact hd n j m x hj hl

theorem lines_deviceReset (s : State) (y : Supply) (c : ResetCause) : LineLaws s (s.deviceReset y c) := by
  obtain ⟨binding, orders⟩ := laws_resetStations (t := s.deviceReset y c) rfl
  have job (n : Fin 96) : (s.deviceReset y c).job n = none := slot_replicate ..
  have images (P : Image → Prop) (h : s.everyImage P) : (s.deviceReset y c).everyImage P :=
    (images_cutWrite h).idle rfl rfl
  refine ⟨fun _ => transmitLaw_resetLines rfl, fun h => ⟨reset_lineMapLaw.1, images _ h.2⟩, fun _ => binding,
    fun _ n j k x h => ?_, fun _ => ⟨fun n j h => ?_, ?_⟩, fun hl => images _ hl.jobLines.2, fun _ => orders⟩
  · rw [job] at h; cases h
  · rw [job] at h; cases h
  · refine designationLaw_bare (fun k => slot_replicate ..) (fun n m j x h => ?_) fun n j m x h => ?_
    · rw [job] at h; cases h
    · rw [job] at h; cases h

/-! #### The job records as restored -/

theorem restored_line (h : slot j.restored.lines m = some x) : ∃ y, slot j.lines m = some y
    ∧ x = { y with designated := 0 } := by
  rw [Job.restored, slot_map, Option.map_eq_some_iff] at h
  obtain ⟨y, hy, rfl⟩ := h
  exact ⟨y, hy, rfl⟩

theorem restoredJobs_back (h : slot (restoredJobs pages) n = some j) :
    ∃ i, slot pages (jobPage n) = .valid (.job i) ∧ j = i.restored
      ∧ ∀ l x, l < n → slot pages (jobPage l) = .valid (.job x) → j.number ≠ x.number := by
  obtain ⟨r, hr, ⟨⟨⟩, -⟩ | ⟨rfl, hno⟩⟩ := settleLower_back h
  obtain ⟨i, hi, rfl⟩ := readJobs_iff.mp hr
  exact ⟨i, hi, rfl, fun l x hl hx => beq_eq_false_iff_ne.mp (hno l x.restored hl (readJobs_iff.mpr ⟨x, hx, rfl⟩))⟩

theorem restoreEnds_job (s : State) (n : Fin 96) :
    s.restoreEnds.job n = slot (restoredJobs s.retention.pages) n := rfl

theorem restored_within (h : j.withinTargets) : j.restored.withinTargets := by
  intro m x hx
  obtain ⟨y, hy, rfl⟩ := restored_line hx
  have := h m y hy
  dsimp only
  omega

theorem settings_mapOneToOne {x : Page} (h : ∀ im, x = .valid im → im.mapOneToOne) : x.settings.2.toList.Nodup := by
  unfold Page.settings
  split
  · exact h _ rfl
  · exact reset_lineMapLaw.1

theorem lines_restoreEnds (s : State) : LineLaws s s.restoreEnds := by
  obtain ⟨binding, orders⟩ := laws_resetStations (t := s.restoreEnds) rfl
  have images (P : Image → Prop) (h : s.everyImage P) : s.restoreEnds.everyImage P :=
    h.idle (by rw [restoreEnds_eq]) (by rw [restoreEnds_eq]; rfl)
  have free (n : Fin 96) (j : Job) (m : Fin 8) (x : JobLine) (h : s.restoreEnds.job n = some j)
      (hx : slot j.lines m = some x) : x.designated = 0 := by
    obtain ⟨i, -, rfl, -⟩ := restoredJobs_back (restoreEnds_job s n ▸ h)
    obtain ⟨y, -, rfl⟩ := restored_line hx
    rfl
  have unique : s.restoreEnds.jobsUnique := by
    intro n l j x hn hl e
    obtain ⟨i, hi, rfl, hin⟩ := restoredJobs_back (restoreEnds_job s n ▸ hn)
    obtain ⟨k, hk, rfl, hkl⟩ := restoredJobs_back (restoreEnds_job s l ▸ hl)
    rcases lt_trichotomy n l with h | h | h
    · exact absurd e.symm (hkl n i h hi)
    · exact h
    · exact absurd e (hin l k h hk)
  refine ⟨fun _ => transmitLaw_resetLines rfl, fun h => ⟨?_, images _ h.2⟩, fun _ => binding,
    fun _ n j k x h _ hx => free n j k x h hx, fun hl => ⟨fun n j h => ?_, ?_⟩, fun hl => images _ hl.jobLines.2,
      fun _ => orders⟩
  · exact settings_mapOneToOne fun im hp => h.2.1 settingsPage im hp
  · obtain ⟨i, hp, rfl, -⟩ := restoredJobs_back (restoreEnds_job s n ▸ h)
    exact restored_within (hl.jobLines.2.1 (jobPage n) (.job i) hp)
  · exact designationLaw_bare (fun k => slot_replicate ..) unique free

end ResetLines

end Sys2Proof.Machine

namespace Sys2Proof.Machine

/-! ### ABANDON_PLAN, START_PLAN, MAP_LINES, and every step -/

section LineSteps

variable {s t : State} {k : Fin 12} {p : Plan} {i : Fin 4}

/-- What an abandon books before its designations are released (R151). -/
def State.abandonCharged (s : State) (p : Plan) : State :=
  if p.touched then (s.bookPool p).bookOverhead
    (fun o => o.bookMaterial (((s.slabOf p.slabTag).map (fun x => x.2.cost)).getD 0)) else s.bookPool p

theorem abandonBooked_eq (s : State) (p : Plan) : s.abandonBooked p = (s.abandonCharged p).releaseParts p := rfl

theorem abandonCharged_jobs (s : State) (p : Plan) : (s.abandonCharged p).jobs = s.jobs := by
  unfold State.abandonCharged
  split
  · exact (bookOverhead_jobs ..).trans (bookOverhead_jobs ..)
  · exact bookOverhead_jobs ..

theorem recorded_abandonRecords (s : State) (k : Fin 12) (p : Plan) : Recorded s (s.abandonRecords k p) := by
  rw [abandonRecords_eq]
  have given : Recorded s ((s.abandonBooked p).giveBack p) :=
    (booked_abandon s p).recorded.trans (recorded_setReserved ..)
  refine .trans ?_ (recorded_setPlan ..)
  split
  · exact given.trans (recorded_retireTag ..)
  · exact given.trans (recorded_releaseSlab ..)

theorem abandonRecords_jobs (s : State) (k : Fin 12) (p : Plan) :
    (s.abandonRecords k p).jobs = ((s.abandonCharged p).releaseParts p).jobs := by
  rw [abandonRecords_eq, abandonBooked_eq, State.setPlan_jobs]
  split
  · exact retireTag_jobs ..
  · exact releaseSlab_jobs ..

theorem abandonRecords_plans (s : State) (k : Fin 12) (p : Plan) :
    (s.abandonRecords k p).plans = put s.plans k none := by
  have h : ((s.abandonBooked p).giveBack p).plans = s.plans := (booked_abandon s p).plans
  rw [abandonRecords_eq, State.setPlan_plans]
  split
  · rw [retireTag_plans, h]
  · rw [releaseSlab_plans, h]

theorem laws_abandonRecords (hk : s.plan k = some p) : LawsKept s (s.abandonRecords k p) := by
  have hjobs := abandonRecords_jobs s k p
  refine (recorded_abandonRecords s k p).laws ⟨records_abandonRecords ..,
    fun ht hl => (planGone_abandonRecords ht hk).holdingLaw ht hl, False.elim⟩ (fun hc => ?_) fun _ _ hj => ?_
  · exact closedJobLaw_congr hjobs (closed_releaseParts (closedJobLaw_congr (abandonCharged_jobs ..) hc) p)
  · exact hj.released hk (abandonCharged_jobs ..) (abandonRecords_plans ..) hjobs

theorem lines_abandonPlan (plan : Nat) (s : State) : Answers (LineLaws s) (abandonPlan plan s) := by
  unfold abandonPlan
  split
  · exact .error
  · next k p h =>
    obtain ⟨-, hk, hb⟩ := planCheck_ok h
    split
    · next hi =>
      exact .done ((recorded_abandonRecords s k p).lineLaws_gone hk (fun _ => hi) (abandonRecords_plans ..)
        (abandonCharged_jobs ..) (abandonRecords_jobs ..))
    · next i hi =>
      refine .ite (fun _ => .done ?_) fun _ => .refuse
      refine ((recorded_abandonRecords s k p).unbind (k := k) (laws_abandonRecords hk) (fun j hj => ?_)
        fun hs j hj hjk => ?_).lineLaws
      · rw [State.plan, abandonRecords_plans]
        exact slot_put_ne _ _ hj.symm
      · obtain ⟨q, hq, -, hqj⟩ := hs.named j k hjk
        rw [hk] at hq; cases hq
        rw [hi] at hqj; cases hqj
        exact hj rfl

/-- A state entered right behind a change of its record, the supply valve staying as it is (R69, R123). -/
theorem enterState_own {x : Station} {new : StationState} (h : x.state.wet = new.wet) :
    (s.setStation i x).enterState i new = s.setStation i { x with state := new } := by
  have own : (s.setStation i x).station i = x := (station_setStation ..).trans (if_pos rfl)
  rw [enterState_eq, own, if_pos h]
  simp only [State.setStation, put_put_same]

/-- A LOCKED plan bound to a station without one, which is STAGED (R41, R74). -/
theorem lines_bind {x : Station} {q : Plan} (hk : s.plan k = some p) (hb : p.state ≠ .bound) (hq : q.pieces = p.pieces)
    (hx : x.plan = some k) (ho : x.orderOutstanding = false) (hs : x.state = .staged) :
    LineLaws s ((s.setPlan k (some q)).setStation i x) := by
  have station (j : Fin 4) : ((s.setPlan k (some q)).setStation i x).station j = if i = j then x else s.station j :=
    station_setStation ..
  refine ⟨id, id, fun hl j b hj => ?_, id, fun hl => ?_, fun hl => hl.jobLines.2, fun hl => ?_⟩
  · rw [station] at hj ⊢
    split at hj
    · rw [if_pos ‹_›, hx]
      rw [hs] at hj
      cases hj
      rfl
    · rw [if_neg ‹_›]; exact hl j b hj
  · refine hl.jobsSound.samePlan (q := k) (x := some q) rfl rfl fun a m => ?_
    rw [hk]
    exact (partsOf_pieces hq a m).symm
  · obtain ⟨hflows, hheld, hordered⟩ := hl.orders
    refine orderLaw_iff.mpr ⟨fun j hj => ?_, fun j h1 h2 => ?_, fun j hj => ?_⟩
    · rw [station] at hj
      split at hj
      · rw [hs] at hj; cases hj
      · exact hflows j hj
    · rw [station] at h1 h2
      split at h1
      · rw [hs] at h1; cases h1
      · next hij => rw [if_neg hij] at h2; exact hheld j h1 h2
    · rw [station] at hj ⊢
      split at hj
      · rw [ho] at hj; cases hj
      · next hij =>
        rw [if_neg hij]
        obtain ⟨m, y, hm, hy, hrest⟩ := hordered j hj
        refine ⟨m, y, hm, ?_, hrest⟩
        refine (slot_put_ne _ _ fun e => ?_).trans hy
        exact hl.paired.unnamed (unworked hk fun h => absurd h hb) j (e ▸ hm)

theorem lines_startPlan (plan station : Nat) (s : State) : Answers (LineLaws s) (startPlan plan station s) := by
  unfold startPlan
  split
  · exact .error
  · next k p h =>
    obtain ⟨-, hk, hl⟩ := planCheck_ok h
    rw [isLocked_iff] at hl
    split
    · exact .refuse
    · next i _ =>
      refine .unless fun hready => ?_
      rw [not_not] at hready
      split
      · exact .refuse
      · refine .unless fun _ => .unless fun _ => .unless fun _ => .done ?_
        rw [enterState_own (by rw [hready]; rfl)]
        exact lines_bind hk (by rw [hl]; decide) rfl rfl rfl rfl

theorem newLineMap_nodup {lines : Vector Nat 5} {m : Vector (Fin 5) 5} (h : newLineMap lines = some m) :
    m.toList.Nodup := by
  unfold newLineMap at h
  split at h
  · next hlt =>
    split at h
    · next hnodup =>
      cases h
      have vals : (Vector.ofFn fun i => (⟨slot lines i, hlt i⟩ : Fin 5)).toList.map Fin.val = lines.toList := by
        rw [toList_eq_map, toList_eq_map, List.map_map]
        exact List.map_congr_left fun i _ => by rw [Function.comp_apply, slot_ofFn]
      exact .of_map _ (vals ▸ hnodup)
    · cases h
  · cases h

/-- Lines mapped afresh, but for users that are DETACHED: an order outstanding has its station's line still (R64,
R69). -/
theorem lines_remapped {m : Vector (Fin 5) 5}
    (h : (List.finRange 5).all (fun u => slot m u == slot s.lineMap u || s.userDetached u) = true)
    (hm : m.toList.Nodup) : LineLaws s (({ s with lineMap := m } : State).enqueue settingsPage) := by
  refine ⟨id, fun hl => ⟨hm, hl.2⟩, id, id, fun hl => .congr' (s := s) rfl rfl hl.jobsSound, fun hl => hl.jobLines.2,
    fun hl => ?_⟩
  obtain ⟨hflows, hheld, hordered⟩ := hl.orders
  refine orderLaw_iff.mpr ⟨hflows, hheld, fun i hi => ?_⟩
  obtain ⟨k, p, hk, hp, hlt, hq⟩ := hordered i hi
  have same : slot m i.castSucc = slot s.lineMap i.castSucc := by
    have := List.all_eq_true.mp h i.castSucc (List.mem_finRange _)
    rw [Bool.or_eq_true, beq_iff_eq] at this
    refine this.resolve_right fun hd => ?_
    have hstate : (s.station i).state = .detached := by
      have user : User.ofIndex i.castSucc = .station i := dif_pos i.isLt
      rw [State.userDetached, user] at hd
      exact of_decide_eq_true hd
    have := hl.binding i false (by rw [hstate]; rfl)
    rw [hk] at this
    cases this
  refine ⟨k, p, hk, hp, hlt, fun f o hf => hq f o ?_⟩
  rw [State.stationLine, ← same]
  exact hf

theorem lines_mapLines (lines : Vector Nat 5) (s : State) : Answers (LineLaws s) (mapLines lines s) := by
  unfold mapLines
  split
  · exact .refuse
  · next m hm =>
    exact .ite (fun h => .done (.ite (.refl s) (lines_remapped h (newLineMap_nodup hm)))) fun _ => .refuse

/-! #### Every command -/

/-- Supply, port and waiting commands are read by none of these laws. -/
theorem orderly_outside {e w : Fin 4 → Prop} (h : t = { s with
      supply := t.supply, port := t.port, pending := t.pending }) :
    Orderly e w s t := by
  rw [h]
  exact .of_fields rfl rfl rfl rfl rfl rfl rfl rfl rfl rfl

theorem lines_resetAssert (s : State) : LineLaws s s.resetAssert := by
  unfold State.resetAssert
  split
  · exact lines_deviceReset ..
  · exact (orderly_outside (e := fun _ => True) (w := fun _ => True) rfl).lineLaws
  · exact .refl s

theorem lines_resetRelease (s : State) : LineLaws s s.resetRelease := by
  unfold State.resetRelease
  split
  · exact (orderly_outside (e := fun _ => True) (w := fun _ => True) rfl).lineLaws
  · exact (orderly_outside (e := fun _ => True) (w := fun _ => True) rfl).lineLaws
  · exact (orderly_outside (e := fun _ => True) (w := fun _ => True) rfl).lineLaws
  · exact .refl s

theorem lines_powerFails (s : State) : LineLaws s s.powerFails := by
  unfold State.powerFails
  split
  · exact .refl s
  · exact lines_deviceReset ..

theorem lines_startPageWrite (s : State) : LineLaws s s.startPageWrite := by
  have image (h : s.lineMapLaw) := images_startPageWrite h.2 (imageOf_mapOneToOne h.1)
  have jobs (h : Lawful s) := images_startPageWrite h.jobLines.2 (imageOf_withinTargets h.jobLines.1)
  obtain ⟨r, h⟩ : ∃ r, s.startPageWrite = { s with retention := r } := by
    unfold State.startPageWrite
    split
    · exact ⟨s.retention, rfl⟩
    · split
      · exact ⟨_, rfl⟩
      · exact ⟨s.retention, rfl⟩
  rw [h] at image jobs ⊢
  exact ⟨id, fun hl => ⟨hl.1, image hl⟩, id, id, fun hl => .congr' (s := s) rfl rfl hl.jobsSound, jobs,
    fun hl => hl.orders⟩

theorem orderly_takeFrame (s : State) (bytes : List Byte) : Orderly (fun _ => True) (fun _ => True) s
    (s.takeFrame bytes) := by
  refine .ite (.refl s) ?_
  split
  · exact orderly_answer ..
  · exact .of_fields rfl rfl rfl rfl rfl rfl rfl rfl rfl rfl

theorem orderly_transfer (s : State) (op : Byte) (early : Nat) (bytes : List Byte) :
    Orderly (fun _ => True) (fun _ => True) s (s.transfer op early bytes) := by
  have ended (bs : List Byte) : Orderly (fun _ => True) (fun _ => True) s (s.endTransfer bs) :=
    .of_fields rfl rfl rfl rfl rfl rfl rfl rfl rfl rfl
  refine .ite (.refl s) ?_
  dsimp only
  split
  · exact .ite ((ended _).trans (orderly_takeFrame ..)) (ended _)
  · exact .ite (.ite (.of_fields rfl rfl rfl rfl rfl rfl rfl rfl rfl rfl) (ended _)) (ended _)
  · exact ended _

theorem orderly_nextNotice (s : State) : Answers (Orderly (fun _ => True) (fun _ => True) s) (nextNotice s) := by
  unfold nextNotice
  split
  · exact .error
  · dsimp only
    split
    · exact .error
    · exact .done (.of_fields rfl rfl rfl rfl rfl rfl rfl rfl rfl rfl)

theorem orderly_noticeDone (s : State) : Answers (Orderly (fun _ => True) (fun _ => True) s) (noticeDone s) := by
  unfold noticeDone
  split
  · exact .refuse
  · exact .done (.of_fields rfl rfl rfl rfl rfl rfl rfl rfl rfl rfl)

theorem orderly_setNotice (source enable level : Nat) (s : State) :
    Answers (Orderly (fun _ => True) (fun _ => True) s) (setNotice source enable level s) := by
  unfold setNotice
  split
  · exact .refuse
  · exact .unless fun _ => .done (.of_fields rfl rfl rfl rfl rfl rfl rfl rfl rfl rfl)

theorem orderly_setSettings (record : Settings) (s : State) :
    Answers (Orderly (fun _ => True) (fun _ => True) s) (setSettings record s) :=
  .done (.ite (.refl s) (.of_fields rfl rfl rfl rfl rfl rfl rfl rfl rfl rfl))

theorem orderly_clearOverhead (s : State) : Answers (Orderly (fun _ => True) (fun _ => True) s) (clearOverhead s) :=
  .done (orderly_bookOverhead ..)

theorem Answers.mono {P Q : State → Prop} {x : Except Answer (State × List Byte)} (h : Answers P x)
    (g : ∀ t, P t → Q t) : Answers Q x := ⟨fun t fs e => g t (h.ok t fs e)⟩

theorem Answers.lines {x : Except Answer (State × List Byte)}
    (h : Answers (Orderly (fun _ => True) (fun _ => True) s) x) : Answers (LineLaws s) x :=
  h.mono fun _ => Orderly.lineLaws

theorem Answers.read {x : Except Answer (State × List Byte)} (h : Answers (· = s) x) : Answers (LineLaws s) x :=
  h.mono fun t e => by rw [e]; exact .refl s

theorem lines_serve {c : Instr} {h : Handler} (hh : Answers (LineLaws s) (h s)) (hn : exec c s = .next t)
    (he : exec c s = serve c h s) : LineLaws s t := by
  rw [he, serve] at hn
  split at hn
  · cases hn; exact .refl s
  · split at hn
    · cases hn
      unfold State.served
      split
      · next u fs hu => exact (hh.ok u fs hu).answer ..
      · exact (LineLaws.refl s).answer ..
    · cases hn; exact .refl s

theorem lines_next {x : State} (h : LineLaws s x) (hn : (.next x : Host.Outcome State Fault Refusal) = .next t) :
    LineLaws s t := by cases hn; exact h

theorem orderly_next {x : State} (h : Orderly (fun _ => True) (fun _ => True) s x)
    (hn : (.next x : Host.Outcome State Fault Refusal) = .next t) : LineLaws s t := lines_next h.lineLaws hn

theorem lines_exec (c : Instr) (hn : exec c s = .next t) : LineLaws s t := by
  cases c with
  | powerOn => exact lines_next (lines_deviceReset ..) hn
  | resetNAssert => exact lines_next (lines_resetAssert s) hn
  | resetNRelease => exact lines_next (lines_resetRelease s) hn
  | startUpRestoreEnd => exact lines_next (.ite (lines_restoreEnds s) (.refl s)) hn
  | send x => exact orderly_next (orderly_transfer ..) hn
  | fetch x => exact orderly_next (orderly_transfer ..) hn
  | pollTransfer x => exact orderly_next (orderly_transfer ..) hn
  | admitSlab => exact lines_serve (lines_admitSlab ..) hn rfl
  | readSlab => exact lines_serve (readSlab_reads ..).read hn rfl
  | listStock => exact lines_serve (listStock_reads ..).read hn rfl
  | findSlab => exact lines_serve (findSlab_reads ..).read hn rfl
  | moveSlab => exact lines_serve (lines_moveSlab ..) hn rfl
  | amendSlab => exact lines_serve (lines_amendSlab ..) hn rfl
  | retireSlab => exact lines_serve (lines_retireSlab ..) hn rfl
  | setMaterial => exact lines_serve (lines_setMaterial ..) hn rfl
  | clearMaterial => exact lines_serve (lines_clearMaterial ..) hn rfl
  | readMaterial => exact lines_serve (readMaterial_reads ..).read hn rfl
  | openPlan => exact lines_serve (lines_openPlan ..) hn rfl
  | addCut => exact lines_serve (lines_addCut ..) hn rfl
  | undoCut => exact lines_serve (lines_undoCut ..) hn rfl
  | markPiece => exact lines_serve (lines_markPiece ..) hn rfl
  | lockPlan => exact lines_serve (lines_lockPlan ..) hn rfl
  | unlockPlan => exact lines_serve (lines_unlockPlan ..) hn rfl
  | dropPlan => exact lines_serve (lines_dropPlan ..) hn rfl
  | readPlan => exact lines_serve (readPlan_reads ..).read hn rfl
  | abandonPlan => exact lines_serve (lines_abandonPlan ..) hn rfl
  | readLine => exact lines_serve (readLine_reads ..).read hn rfl
  | mapLines => exact lines_serve (lines_mapLines ..) hn rfl
  | attachStation => exact lines_serve (orderly_attachStation ..).lines hn rfl
  | detachStation => exact lines_serve (orderly_detachStation ..).lines hn rfl
  | startPlan => exact lines_serve (lines_startPlan ..) hn rfl
  | stopStation => exact lines_serve (orderly_stopStation ..).lines hn rfl
  | resumeStation => exact lines_serve (orderly_resumeRequest ..).lines hn rfl
  | readStation => exact lines_serve (readStation_reads ..).read hn rfl
  | fitBlade => exact lines_serve (orderly_fitBlade ..).lines hn rfl
  | removeBlade => exact lines_serve (orderly_removeBlade ..).lines hn rfl
  | readBlade => exact lines_serve (readBlade_reads ..).read hn rfl
  | attachPlant => exact lines_serve (orderly_attachPlant s).lines hn rfl
  | detachPlant => exact lines_serve (orderly_detachPlant s).lines hn rfl
  | pressNow => exact lines_serve (orderly_pressNow s).lines hn rfl
  | resetPeriod => exact lines_serve (orderly_resetPeriod ..).lines hn rfl
  | setWater => exact lines_serve (orderly_setWater ..).lines hn rfl
  | readWater => exact lines_serve (.done (.refl s)) hn rfl
  | openJob => exact lines_serve (lines_openJob ..) hn rfl
  | setLine => exact lines_serve (lines_setLine ..) hn rfl
  | readJob => exact lines_serve (readJob_reads ..).read hn rfl
  | closeJob => exact lines_serve (lines_closeJob ..) hn rfl
  | retireJob => exact lines_serve (lines_retireJob ..) hn rfl
  | readOverhead => exact lines_serve (.done (.refl s)) hn rfl
  | clearOverhead => exact lines_serve (orderly_clearOverhead s).lines hn rfl
  | retentionStatus => exact lines_serve (.done (.refl s)) hn rfl
  | setSettings => exact lines_serve (orderly_setSettings ..).lines hn rfl
  | readSettings => exact lines_serve (.done (.refl s)) hn rfl
  | readDevice => exact lines_serve (.done (.refl s)) hn rfl
  | nextNotice => exact lines_serve (orderly_nextNotice s).lines hn rfl
  | noticeDone => exact lines_serve (orderly_noticeDone s).lines hn rfl
  | setNotice => exact lines_serve (orderly_setNotice ..).lines hn rfl
  | character => exact orderly_next (.ite (orderly_decideCharacter ..) (.refl s)) hn
  | breakCharacter => exact orderly_next (.ite (orderly_zeroRun ..) (.refl s)) hn
  | idleRun => exact orderly_next (.ite (orderly_idleRun ..) (.refl s)) hn
  | gapTimerExpiry l =>
    have expired : Orderly (fun _ => True) (fun _ => True) s (s.setLine l { s.line l with gap := .expired }) :=
      orderly_setLine_same s l rfl rfl rfl
    exact orderly_next (.ite (expired.trans (orderly_assemblerGap ..)) (.refl s)) hn
  | accept => exact orderly_next (orderly_receive ..) hn
  | pass => exact orderly_next (orderly_receive ..) hn
  | finish => exact orderly_next (orderly_receive ..) hn
  | state => exact orderly_next (orderly_receive ..) hn
  | fault => exact orderly_next (orderly_receive ..) hn
  | levels => exact orderly_next (orderly_receive ..) hn
  | pressState => exact orderly_next (orderly_receive ..) hn
  | transmitStart => exact orderly_next (orderly_transmitStart ..) hn
  | frameSent => exact orderly_next (orderly_frameSent ..) hn
  | acceptWaitExpiry => exact orderly_next (orderly_acceptExpiry ..) hn
  | holdWaitExpiry => exact orderly_next (orderly_holdExpiry ..) hn
  | listeningReplyTimerExpiry => exact orderly_next (orderly_listeningExpiry ..) hn
  | silenceTimerExpiry => exact orderly_next (orderly_silenceExpiry ..) hn
  | stationQueryTimerExpiry => exact orderly_next (orderly_queryExpiry ..) hn
  | plantQueryTimerExpiry => exact orderly_next (orderly_plantQueryExpiry s) hn
  | staleTimerExpiry => exact orderly_next (orderly_staleExpiry s) hn
  | pressStartTimerExpiry => exact orderly_next (orderly_pressStartExpiry s) hn
  | settleTimerExpiry => exact orderly_next (orderly_settleExpiry ..) hn
  | pageWriteStart => exact lines_next (lines_startPageWrite s) hn
  | eraseDone => exact orderly_next (orderly_eraseEnds s) hn
  | programDone => exact orderly_next (orderly_programEnds s) hn
  | verifyDone => exact orderly_next (orderly_verifyEnds ..) hn
  | startBitVerified => exact orderly_next (.ite (orderly_takeSamples ..) (.refl s)) hn
  | powerFailure => exact lines_next (lines_powerFails s) hn

theorem Lawful.pending (h : Lawful s) (rest : List Instr) : Lawful { s with pending := rest } := { h with }

theorem lines_step (hn : step s = .next t) : LineLaws s t := by
  unfold step at hn
  split at hn
  · cases hn; exact .refl s
  · next c rest _ =>
    have h := lines_exec c hn
    exact ⟨h.transmit, h.lineMap, h.binding, h.closed, fun hl => h.jobs (hl.pending rest),
      fun hl => h.images (hl.pending rest), fun hl => h.orders (hl.pending rest)⟩

/-- Settles O58: each command by what it does to lines, stations, records and jobs. What all but a few operations keep
is `Orderly`; requests on the records are `Recorded`; the Line Map, START_PLAN, the resets and the write unit are read
off on their own. -/
theorem stepKeepsLineStationAndJobLaws : Obligations.StepKeepsLineStationAndJobLaws := by
  intro s t hn
  have h := lines_step hn
  exact ⟨h.transmit, h.lineMap, h.binding, h.closed, fun hl =>
    ⟨⟨(h.jobs hl).within, h.images hl⟩, (h.jobs hl).designations, h.orders hl⟩⟩

end LineSteps


end Sys2Proof.Machine

namespace Sys2Proof.Machine

/-! ### ADD_CUT and UNDO_CUT (R28, R29, R31, R32) -/

section Cutting

variable {s t : State} {k : Fin 12} {p : Plan} {i : Fin 64} {axis : Axis} {piece code offset : Nat} {r : Rect}
  {o : Option Origin} {g : Cut} {cuts : List Cut}

theorem axisOf_code (axis : Axis) : axisOf axis.code = some axis := by cases axis <;> rfl

theorem axisOf_none (h : 1 < code) : axisOf code = none := by
  match code, h with
  | _ + 2, _ => rfl

theorem code_le (h : code ≤ 1) : ∃ axis : Axis, code = axis.code := by
  match code, h with
  | 0, _ => exact ⟨.rip, rfl⟩
  | 1, _ => exact ⟨.cross, rfl⟩

/-! The answers of ADD_CUT, one check behind the other. -/

theorem addCut_outOfRange (hk : s.plan k = some p) (ho : p.state = .opened)
    (h : 63 < piece ∨ 1 < code ∨ 40000 < offset) : addCut k.val piece code offset s = refuse .badValue := by
  rw [addCut, planCheck_opened hk ho]
  dsimp only
  cases hi : index? 64 piece with
  | none => rfl
  | some i =>
    cases hx : axisOf code with
    | none => rfl
    | some axis =>
      have hpiece := index?_some.mp hi
      refine if_pos ?_
      rcases h with h | h | h
      · omega
      · rw [axisOf_none h] at hx; cases hx
      · exact h

theorem addCut_notLeaf (hk : s.plan k = some p) (ho : p.state = .opened) (hoff : offset ≤ 40000)
    (hi : ∀ r o d, slot p.pieces i ≠ .leaf r o d) : addCut k.val i.val axis.code offset s = refuse .notLeaf := by
  rw [addCut, planCheck_opened hk ho]
  dsimp only
  rw [index?_val, axisOf_code]
  refine (if_neg (Nat.not_lt.mpr hoff)).trans ?_
  cases hx : slot p.pieces i with
  | leaf r o d => exact absurd hx (hi r o d)
  | unused => rfl
  | split r o => rfl

theorem addCut_designated (hk : s.plan k = some p) (ho : p.state = .opened) (hoff : offset ≤ 40000)
    {d : Designation} (hi : slot p.pieces i = .leaf r o (some d)) :
    addCut k.val i.val axis.code offset s = refuse .designated := by
  rw [addCut, planCheck_opened hk ho]
  dsimp only
  rw [index?_val, axisOf_code]
  refine (if_neg (Nat.not_lt.mpr hoff)).trans ?_
  rw [hi]

/-- What ADD_CUT replies: the cut, its children with their rectangles, its travel and start point (R31). -/
def CutGeometry.reply (g : CutGeometry) (c : Nat) : List Byte :=
  leFields [(1, c), (1, 2 * c + 1), (1, 2 * c + 2), (2, g.low.x), (2, g.low.y), (2, g.low.length), (2, g.low.width),
    (2, g.high.x), (2, g.high.y), (2, g.high.length), (2, g.high.width), (2, g.travel), (2, g.startX), (2, g.startY)]

theorem addCut_leaf (hk : s.plan k = some p) (ho : p.state = .opened) (hoff : offset ≤ 40000)
    (hi : slot p.pieces i = .leaf r o none) : addCut k.val i.val axis.code offset s
      = if ¬ sliverOk axis p.kerf offset r then refuse .sliver
        else if 31 ≤ p.cuts.length then refuse .full
        else done (s.setPlan k (some (p.withCut i axis offset r o)))
          ((cutGeometry axis p.kerf offset r).reply p.cuts.length) := by
  rw [addCut, planCheck_opened hk ho]
  dsimp only
  rw [index?_val, axisOf_code]
  refine (if_neg (Nat.not_lt.mpr hoff)).trans ?_
  rw [hi]
  rfl

theorem addCut_cuts (hk : s.plan k = some p) (ho : p.state = .opened) (hoff : offset ≤ 40000)
    (hi : slot p.pieces i = .leaf r o none) (hs : sliverOk axis p.kerf offset r = true) (hc : p.cuts.length < 31) :
    addCut k.val i.val axis.code offset s = done (s.setPlan k (some (p.withCut i axis offset r o)))
      ((cutGeometry axis p.kerf offset r).reply p.cuts.length) := by
  rw [addCut_leaf hk ho hoff hi, if_neg (not_not_intro hs), if_neg (by omega)]

/-- The sliver rule by the axis's number (R29, R189). -/
theorem sliverOk_iff (axis : Axis) (kerf offset : Nat) (r : Rect) : sliverOk axis kerf offset r = true
    ↔ 200 ≤ offset ∧ offset + kerf + 200 ≤ if axis.code = 0 then r.width else r.length := by
  cases axis <;> simp [sliverOk, Axis.code]

theorem pieceIndex_eq_iff {n : Nat} (h : n < 64) {j : Fin 64} : pieceIndex n = j ↔ j.val = n := by
  rw [Fin.ext_iff, pieceIndex_val h]
  exact eq_comm

/-- Settles O8: the geometry axis by axis, and the refusals in the order of the checks. -/
theorem addCutSplitsTheLeaf : Obligations.AddCutSplitsTheLeaf := by
  refine ⟨?_, ?_⟩
  · intro s echo k p i offset x y l w c o axis low high cut hs hk ho hleaf hoff h200 hrip hcross hc hlt hlow hhigh hcut
    subst hc
    have hsliver : sliverOk axis p.kerf offset { x := x, y := y, length := l, width := w } = true := by
      cases axis with
      | rip => exact decide_eq_true ⟨h200, by have := hrip rfl; dsimp only; omega⟩
      | cross => exact decide_eq_true ⟨h200, by have := hcross rfl; dsimp only; omega⟩
    have hdone := exec_done hs rfl rfl (addCut_cuts hk ho hoff hleaf hsliver hlt)
    have hgeometry : cutGeometry axis p.kerf offset { x := x, y := y, length := l, width := w }
        = { low := low, high := high, travel := cut.travel, startX := cut.startX, startY := cut.startY } := by
      rw [hlow, hhigh, hcut]
      cases axis <;> rfl
    have hmade : p.withCut i axis offset { x := x, y := y, length := l, width := w } o = { p with
        cuts := p.cuts ++ [cut]
        pieces := (p.withCut i axis offset { x := x, y := y, length := l, width := w } o).pieces } := by
      rw [hcut]
      cases axis <;> rfl
    refine ⟨_, (p.withCut i axis offset { x := x, y := y, length := l, width := w } o).pieces, hdone, ?_, fun j => ?_,
      fun j hj => ?_, ?_⟩
    · rw [← hmade]
      exact slot_put_same ..
    · rw [slot_withCut, hgeometry]
      simp only [pieceIndex_eq_iff (show 2 * p.cuts.length + 1 < 64 by omega),
        pieceIndex_eq_iff (show 2 * p.cuts.length + 2 < 64 by omega), eq_comm (a := i) (b := j)]
    · exact slot_put_ne _ _ hj.symm
    · rw [hgeometry]
      rfl
  · intro s echo k p piece axis offset code hs hk ho h
    refine exec_refuse hs rfl rfl ?_
    obtain ⟨h, rfl⟩ | ⟨i, rfl, hax, hoff, h⟩ := h
    · exact addCut_outOfRange hk ho h
    · obtain ⟨ax, rfl⟩ := code_le hax
      obtain ⟨hi, rfl⟩ | ⟨r, o, hi, rfl⟩ | ⟨r, o, d, hi, rfl⟩ | ⟨r, o, hi, h⟩ := h
      · exact addCut_notLeaf hk ho hoff (by rw [hi]; nofun)
      · exact addCut_notLeaf hk ho hoff (by rw [hi]; nofun)
      · exact addCut_designated hk ho hoff hi
      · rw [addCut_leaf hk ho hoff hi]
        obtain ⟨hno, rfl⟩ | ⟨h200, hroom, hfull, rfl⟩ := h
        · refine if_pos fun hok => ?_
          have := (sliverOk_iff ..).mp hok
          omega
        · rw [if_neg (not_not_intro ((sliverOk_iff ..).mpr ⟨h200, hroom⟩)), if_pos hfull]

/-! The answers of UNDO_CUT, one check behind the other. -/

theorem undoCut_uncut (hk : s.plan k = some p) (ho : p.state = .opened) (hc : p.cuts = []) :
    undoCut k.val s = refuse .noSuch := by
  rw [undoCut, planCheck_opened hk ho]
  dsimp only
  rw [hc, List.getLast?_nil]

theorem undoCut_last (hk : s.plan k = some p) (ho : p.state = .opened) (hc : p.cuts = cuts ++ [g]) :
    undoCut k.val s = if (slot p.pieces (pieceIndex (2 * cuts.length + 1))).designated
        || (slot p.pieces (pieceIndex (2 * cuts.length + 2))).designated then refuse .designated
      else done (s.setPlan k (some (p.withoutCut g))) (leFields [(1, cuts.length), (1, g.target.val)]) := by
  have hlast : p.cuts.getLast? = some g := by rw [hc, List.getLast?_concat]
  have hlen : p.cuts.length - 1 = cuts.length := by rw [hc, List.length_append]; rfl
  rw [undoCut, planCheck_opened hk ho]
  dsimp only
  rw [hlast]
  dsimp only
  rw [hlen, Plan.withoutCut, hlen]

theorem designated_iff (x : Piece) : x.designated = true ↔ ∃ r o d, x = .leaf r o (some d) := by
  cases x with
  | leaf r o d => cases d <;> simp [Piece.designated]
  | _ => simp [Piece.designated]

theorem slot_withoutCut (hc : p.cuts = cuts ++ [g]) {low high : Fin 64}
    (hlow : low.val = 2 * cuts.length + 1) (hhigh : high.val = 2 * cuts.length + 2) (hl : low ≠ g.target)
    (hh : high ≠ g.target) (ht : slot p.pieces g.target = .split r o) (j : Fin 64) :
    slot (p.withoutCut g).pieces j
      = if j = g.target then .leaf r o none else if j = low ∨ j = high then .unused else slot p.pieces j := by
  have hlen : p.cuts.length - 1 = cuts.length := by rw [hc, List.length_append]; rfl
  have el := (pieceIndex_eq_iff (by omega)).mpr hlow
  have eh := (pieceIndex_eq_iff (by omega)).mpr hhigh
  rw [Plan.withoutCut, hlen, el, eh]
  dsimp only
  rw [slot_put, slot_put_ne _ _ hh, slot_put_ne _ _ hl, ht, slot_put, slot_put]
  simp only [eq_comm (b := j), Piece.rejoined]
  split
  · rfl
  · by_cases h1 : j = high
    · rw [if_pos h1, if_pos (.inr h1)]
    · by_cases h2 : j = low
      · rw [if_neg h1, if_pos h2, if_pos (.inl h2)]
      · rw [if_neg h1, if_neg h2, if_neg (not_or.mpr ⟨h2, h1⟩)]

/-- A cut taken back leaves the plan as it was (R31, R32). -/
theorem withoutCut_withCut (hleaf : slot p.pieces i = .leaf r o none) {low high : Fin 64}
    (hlow : low.val = 2 * p.cuts.length + 1) (hhigh : high.val = 2 * p.cuts.length + 2)
    (hl : slot p.pieces low = .unused) (hh : slot p.pieces high = .unused)
    (hg : (p.withCut i axis offset r o).cuts = p.cuts ++ [g]) (hi : g.target = i) :
    (p.withCut i axis offset r o).withoutCut g = p := by
  have ne {j : Fin 64} (hj : slot p.pieces j = .unused) : j ≠ i := by
    rintro rfl
    rw [hleaf] at hj; cases hj
  have el := (pieceIndex_eq_iff (by omega)).mpr hlow
  have eh := (pieceIndex_eq_iff (by omega)).mpr hhigh
  have hpieces : ((p.withCut i axis offset r o).withoutCut g).pieces = p.pieces := by
    refine slot_ext fun j => ?_
    have hsplit : slot (p.withCut i axis offset r o).pieces g.target = .split r o := by
      rw [slot_withCut, el, eh, hi, if_neg (ne hh), if_neg (ne hl), if_pos rfl]
    rw [slot_withoutCut hg hlow hhigh (hi ▸ ne hl) (hi ▸ ne hh) hsplit, slot_withCut, el, eh]
    simp only [hi, eq_comm (b := j)]
    split
    · next h => rw [h, hleaf]
    · split
      · next h => obtain rfl | rfl := h <;> simp [hl, hh]
      · next h =>
        obtain ⟨h1, h2⟩ := not_or.mp h
        rw [if_neg h2, if_neg h1]
  have hplan : (p.withCut i axis offset r o).withoutCut g = { p with
      cuts := (p.withCut i axis offset r o).cuts.dropLast
      pieces := ((p.withCut i axis offset r o).withoutCut g).pieces } := rfl
  rw [hplan, hpieces, hg, List.dropLast_concat]

theorem cutGeometry_children {kerf : Nat} (h : sliverOk axis kerf offset r = true) :
    (axis = .rip → 200 ≤ (cutGeometry axis kerf offset r).low.width
      ∧ 200 ≤ (cutGeometry axis kerf offset r).high.width)
    ∧ (axis = .cross → 200 ≤ (cutGeometry axis kerf offset r).low.length
      ∧ 200 ≤ (cutGeometry axis kerf offset r).high.length) := by
  have room := (sliverOk_iff ..).mp h
  cases axis with
  | rip =>
    change 200 ≤ offset ∧ offset + kerf + 200 ≤ r.width at room
    exact ⟨fun _ => ⟨room.1, Nat.le_sub_of_add_le (by omega)⟩, nofun⟩
  | cross =>
    change 200 ≤ offset ∧ offset + kerf + 200 ≤ r.length at room
    exact ⟨nofun, fun _ => ⟨room.1, Nat.le_sub_of_add_le (by omega)⟩⟩

theorem exec_undoCut {echo : Byte} (hs : s.serving (.undoCut echo k.val)) (hk : s.plan k = some p)
    (ho : p.state = .opened) {low high : Fin 64} (hc : p.cuts = cuts ++ [g]) (hlow : low.val = 2 * cuts.length + 1)
    (hhigh : high.val = 2 * cuts.length + 2)
    (hno : ∀ x y d, slot p.pieces low ≠ .leaf x y (some d) ∧ slot p.pieces high ≠ .leaf x y (some d)) :
    exec (.undoCut echo k.val) s = .next ((s.setPlan k (some (p.withoutCut g))).answer echo .ok
      (leFields [(1, cuts.length), (1, g.target.val)])) := by
  have hlast := undoCut_last hk ho hc
  rw [(pieceIndex_eq_iff (by omega)).mpr hlow, (pieceIndex_eq_iff (by omega)).mpr hhigh, if_neg] at hlast
  · exact exec_done hs rfl rfl hlast
  · rw [Bool.or_eq_true, designated_iff, designated_iff]
    rintro (⟨x, y, d, h⟩ | ⟨x, y, d, h⟩)
    · exact (hno x y d).1 h
    · exact (hno x y d).2 h

theorem exec_undoCut_designated {echo : Byte} (hs : s.serving (.undoCut echo k.val)) (hk : s.plan k = some p)
    (ho : p.state = .opened) {low high : Fin 64} (hc : p.cuts = cuts ++ [g]) (hlow : low.val = 2 * cuts.length + 1)
    (hhigh : high.val = 2 * cuts.length + 2)
    (h : ∃ r o d, slot p.pieces low = .leaf r o (some d) ∨ slot p.pieces high = .leaf r o (some d)) :
    exec (.undoCut echo k.val) s = .next { s with port := s.port.replied echo .designated [] } := by
  obtain ⟨r, o, d, h⟩ := h
  have hlast := undoCut_last hk ho hc
  rw [(pieceIndex_eq_iff (by omega)).mpr hlow, (pieceIndex_eq_iff (by omega)).mpr hhigh, if_pos] at hlast
  · exact exec_refuse hs rfl rfl hlast
  · rw [Bool.or_eq_true, designated_iff, designated_iff]
    exact h.imp (fun h => ⟨r, o, d, h⟩) fun h => ⟨r, o, d, h⟩

/-- Settles O9: the area law is that of the geometry; an undone cut leaves its target and the two pieces as ADD_CUT
found them. -/
theorem cutsAreExactAndCanBeTakenBack : Obligations.CutsAreExactAndCanBeTakenBack := by
  refine ⟨fun axis kerf offset r h => ⟨cutGeometry_area h, cutGeometry_children h⟩, ?_, ?_⟩
  · intro s echo k p hs hk ho
    refine ⟨fun hc => exec_refuse hs rfl rfl (undoCut_uncut hk ho hc), fun cuts g low high hc hlow hhigh =>
      ⟨exec_undoCut_designated hs hk ho hc hlow hhigh, fun r o hno hg ht => ?_⟩⟩
    refine ⟨_, (p.withoutCut g).pieces, exec_undoCut hs hk ho hc hlow hhigh hno,
      slot_withoutCut hc hlow hhigh (by omega) (by omega) ht, ?_⟩
    have hplan : p.withoutCut g = { p with cuts := cuts, pieces := (p.withoutCut g).pieces } := by
      rw [Plan.withoutCut, hc, List.dropLast_concat]
    rw [← hplan]
    rfl
  · intro s t echo echo' k p i offset c r o axis low high hs hk ho hleaf hc hlt hlow hhigh hl hh hoff hsliver ht
    subst hc
    rw [exec_done hs rfl rfl (addCut_cuts hk ho hoff hleaf hsliver hlt)] at ht
    cases ht
    have child {j : Fin 64} (hj : j.val = 2 * p.cuts.length + 1 ∨ j.val = 2 * p.cuts.length + 2) (x : Rect)
        (y : Option Origin) (d : Designation) : slot (p.withCut i axis offset r o).pieces j ≠ .leaf x y (some d) := by
      rw [slot_withCut]
      split
      · nofun
      · split
        · nofun
        · next h1 h2 =>
          rw [pieceIndex_eq_iff (by omega)] at h1 h2
          omega
    rw [exec_undoCut (p := p.withCut i axis offset r o) ⟨_, rfl, .inl rfl⟩ (by exact slot_put_same ..) ho rfl hlow hhigh
      fun x y d => ⟨child (.inl hlow) x y d, child (.inr hhigh) x y d⟩,
      withoutCut_withCut hleaf hlow hhigh hl hh rfl rfl]
    have back : put (put s.plans k (some (p.withCut i axis offset r o))) k (some p) = s.plans := by
      rw [put_put_same, ← hk]
      exact put_slot ..
    exact congrArg (fun v => Host.Outcome.next { s with
      plans := v, port := s.port.replied echo' .ok (leFields [(1, p.cuts.length), (1, i.val)]) }) back

end Cutting

end Sys2Proof.Machine

namespace Sys2Proof.Machine

/-! ### START_PLAN (R41, R74, R103) -/

section Starting

variable {s t : State} {k : Fin 12} {p : Plan} {i : Fin 4} {b : Blade} {station c d m n : Nat}

/-! The pass count and the depths of the passes (R103). -/

theorem passCountFor_le {thick : Nat} (ht : thick ≤ 600) (hm : 100 ≤ m) : passCountFor thick m ≤ 6 :=
  Nat.le_of_lt_succ ((Nat.div_lt_iff_lt_mul (by omega)).mpr (by omega))

theorem passCountFor_pos {thick : Nat} (ht : 1 ≤ thick) (hm : 1 ≤ m) : 1 ≤ passCountFor thick m :=
  (Nat.le_div_iff_mul_le hm).mpr (by omega)

/-- The passes at the blade's maximum depth would reach the thickness. -/
theorem le_passCountFor_mul {thick : Nat} (hm : 1 ≤ m) : thick ≤ passCountFor thick m * m := by
  have h := Nat.lt_div_mul_add (a := thick + m - 1) hm
  rw [passCountFor]
  omega

/-- The last pass takes the pass depth and what the division leaves. -/
theorem passDepthAt_last (thick : Nat) (hc : 1 ≤ c) :
    passDepthAt thick c (passDepthFor thick c) c = passDepthFor thick c + thick % c := by
  obtain ⟨c, rfl⟩ := Nat.exists_eq_add_of_le' hc
  have h := Nat.div_add_mod thick (c + 1)
  rw [Nat.add_mul, Nat.one_mul] at h
  rw [passDepthAt, if_neg (Nat.lt_irrefl _), passDepthFor, Nat.add_sub_cancel, Nat.mul_comm _ c]
  generalize thick / (c + 1) = q at h ⊢
  omega

theorem sum_passDepthAt {thick : Nat} (hc : 1 ≤ c) (hd : d * (c - 1) ≤ thick) :
    ((List.range c).map fun j => passDepthAt thick c d (j + 1)).sum = thick := by
  obtain ⟨c, rfl⟩ := Nat.exists_eq_add_of_le' hc
  have before : (List.range c).map (fun j => passDepthAt thick (c + 1) d (j + 1)) = List.replicate c d := by
    refine (List.map_congr_left fun j hj => if_pos (Nat.succ_lt_succ (List.mem_range.mp hj))).trans ?_
    rw [List.map_const', List.length_range]
  rw [Nat.add_sub_cancel] at hd
  rw [List.range_succ, List.map_append, List.sum_append, before, List.sum_replicate, List.map_singleton,
    List.sum_singleton, passDepthAt, if_neg (Nat.lt_irrefl _), Nat.add_sub_cancel, smul_eq_mul, Nat.mul_comm c d]
  omega

theorem derivedPasses {thick : Nat} (h1 : 100 ≤ thick) (h2 : thick ≤ 600) (h3 : 100 ≤ m)
    (hc : c = passCountFor thick m) (hd : d = passDepthFor thick c) :
    1 ≤ c ∧ c ≤ 6 ∧ ((List.range c).map fun j => passDepthAt thick c d (j + 1)).sum = thick
      ∧ d ≤ passDepthAt thick c d c ∧ passDepthAt thick c d c ≤ d + (c - 1) ∧ d ≤ m := by
  have hpos : 1 ≤ c := hc ▸ passCountFor_pos (by omega) (by omega)
  have hlast : passDepthAt thick c d c = d + thick % c := hd ▸ passDepthAt_last thick hpos
  have hmod : thick % c < c := Nat.mod_lt _ hpos
  have hle : d * c ≤ thick := hd ▸ Nat.div_mul_le_self ..
  refine ⟨hpos, hc ▸ passCountFor_le h2 h3,
    sum_passDepthAt hpos (Nat.le_trans (Nat.mul_le_mul_left d (Nat.sub_le c 1)) hle), by omega, by omega, ?_⟩
  rw [hd]
  exact Nat.div_le_of_le_mul (hc ▸ le_passCountFor_mul (by omega))

theorem planCheck_locked (hk : s.plan k = some p) (hl : p.state = .locked) :
    s.planCheck k.val PlanState.isLocked = .ok (k, p) := by
  rw [planCheck_takes hk, if_pos (isLocked_iff.mpr hl)]

/-! The answers of START_PLAN, one check behind the other (R74). -/

theorem startPlan_outOfRange (hk : s.plan k = some p) (hl : p.state = .locked) (h : 3 < station) :
    startPlan k.val station s = refuse .badValue := by
  rw [startPlan, planCheck_locked hk hl]
  dsimp only
  rw [index?_none.mpr h]

theorem startPlan_notReady (hk : s.plan k = some p) (hl : p.state = .locked) (h : (s.station i).state ≠ .ready) :
    startPlan k.val i.val s = refuse .wrongState := by
  rw [startPlan, planCheck_locked hk hl]
  dsimp only
  rw [index?_val]
  exact if_pos h

theorem startPlan_noBlade (hk : s.plan k = some p) (hl : p.state = .locked) (hr : (s.station i).state = .ready)
    (h : s.blade i = none) : startPlan k.val i.val s = refuse .noBlade := by
  rw [startPlan, planCheck_locked hk hl]
  dsimp only
  rw [index?_val]
  dsimp only
  rw [if_neg (not_not_intro hr), h]

/-- What START_PLAN answers for a READY station with a blade: the blade's checks, then the plan bound (R41, R74). -/
theorem startPlan_bladed (hk : s.plan k = some p) (hl : p.state = .locked) (hr : (s.station i).state = .ready)
    (hb : s.blade i = some b) (hc : c = passCountFor (s.slabThickness p.slabTag) b.maxPassDepth)
    (hd : d = passDepthFor (s.slabThickness p.slabTag) c) :
    startPlan k.val i.val s
      = if b.wearRemaining = 0 then refuse .bladeWorn
        else if p.kerf < b.kerf then refuse .kerf
        else if b.maxDepth < s.slabThickness p.slabTag then refuse .depth
        else done ((s.setPlan k (some (p.bind i c d))).setStation i
          { s.station i with
            state := .staged, plan := some k, loadedSinceStaging := false, orderOutstanding := false
            passesTaken := 0, progressCount := 0, condition := .none })
          (leFields [(1, c), (2, d), optField 3 16777215 (p.bind i c d).remainingTravel]) := by
  have dry : (s.station i).state.wet = StationState.wet .staged := by rw [hr]; rfl
  subst hd hc
  rw [startPlan, planCheck_locked hk hl]
  dsimp only
  rw [index?_val]
  dsimp only
  rw [if_neg (not_not_intro hr), hb]
  dsimp only
  rw [enterState_own (by exact dry)]

theorem slabThickness_of {n : Fin 512} {x : Slab} {tag : Nat} (h : s.slabOf tag = some (n, x)) :
    s.slabThickness tag = x.thickness := by
  rw [State.slabThickness, h]
  rfl

/-- Settles O19: START_PLAN check by check, and the pass count's bounds from ceiling and floor. -/
theorem startPlanBindsStagesAndDerivesPasses : Obligations.StartPlanBindsStagesAndDerivesPasses := by
  refine ⟨?_, ?_, ?_⟩
  · intro s echo k i p b n x c d hs hk hl hr hb hw hkerf hx hdepth hm hc hd
    have hthick := slabThickness_of hx
    refine exec_done (t := (s.setPlan k (some (p.bind i c d))).setStation i _) hs rfl rfl ?_
    rw [startPlan_bladed (c := c) (d := d) hk hl hr hb (hthick ▸ hc) (hthick ▸ hd), if_neg (by omega),
      if_neg (by omega), if_neg (by omega)]
    rfl
  · intro s echo k station p code hs hk hl h
    refine exec_refuse hs rfl rfl ?_
    obtain ⟨h, rfl⟩ | ⟨i, rfl, ⟨h, rfl⟩ | ⟨hr, hb, rfl⟩ | ⟨b, hr, hb, h⟩⟩ := h
    · exact startPlan_outOfRange hk hl h
    · exact startPlan_notReady hk hl h
    · exact startPlan_noBlade hk hl hr hb
    · rw [startPlan_bladed hk hl hr hb rfl rfl]
      obtain ⟨hw, rfl⟩ | ⟨hw, hkerf, rfl⟩ | ⟨hw, hkerf, rfl, n, x, hx, hdepth⟩ := h
      · rw [if_pos hw]
      · rw [if_neg (by omega), if_pos hkerf]
      · rw [if_neg (by omega), if_neg (by omega), if_pos (slabThickness_of hx ▸ hdepth)]
  · intro thick m c d h1 h2 h3 _ hc hd
    exact derivedPasses h1 h2 h3 hc hd

end Starting

end Sys2Proof.Machine

namespace Sys2Proof.Machine

/-! ### MARK_PIECE (R33 to R36) -/

section Marking

variable {s t u : State} {k : Fin 12} {p : Plan} {i : Fin 64} {r : Rect} {o : Option Origin}
  {d old new : Option Designation} {f : JobLine → JobLine} {a job line designation piece : Nat} {b : Fin 8} {n : Fin 96}
  {j : Job} {x : JobLine}

/-! #### The line a designation names, changed -/

/-- The job line a PART designation names changed by `f`, its page enqueued; no other designation names a line
(R33, R153). -/
def State.relined (s : State) (d : Option Designation) (f : JobLine → JobLine) : State :=
  match d with
  | some (.part a k) => s.updateJobLine a k f
  | _ => s

theorem releaseDesignation_eq (s : State) (d : Option Designation) :
    s.releaseDesignation d = s.relined d JobLine.undesignate := by
  match d with
  | none | some .remnant | some .scrap | some (.part _ _) => rfl

theorem relined_cases (s : State) (d : Option Designation) (f : JobLine → JobLine) :
    s.relined d f = s ∧ (∀ a k, d ≠ some (.part a k))
    ∨ ∃ a k, d = some (.part a k) ∧ s.relined d f = s.updateJobLine a k f := by
  match d with
  | none | some .remnant | some .scrap => exact .inl ⟨rfl, nofun⟩
  | some (.part a k) => exact .inr ⟨a, k, rfl, rfl⟩

theorem booked_relined (s : State) (d : Option Designation) (f : JobLine → JobLine) : Booked s (s.relined d f) := by
  obtain ⟨e, -⟩ | ⟨a, k, -, e⟩ := relined_cases s d f
  · rw [e]; exact .refl s
  · rw [e]; exact booked_updateJobLine ..

theorem relined_overhead (s : State) (d : Option Designation) (f : JobLine → JobLine) :
    (s.relined d f).overhead = s.overhead := by
  obtain ⟨e, -⟩ | ⟨a, k, -, e⟩ := relined_cases s d f
  · rw [e]
  · rw [e]; exact updateJobLine_overhead ..

theorem job_relined_bare (s : State) (d : Option Designation) (f : JobLine → JobLine) (n : Fin 96) :
    ((s.relined d f).job n).map Job.bare = (s.job n).map Job.bare := by
  obtain ⟨e, -⟩ | ⟨a, k, -, e⟩ := relined_cases s d f
  · rw [e]
  · rw [e]; exact job_updateJobLine_bare ..

theorem findJob_relined (s : State) (d : Option Designation) (f : JobLine → JobLine) (a : Nat) :
    (s.relined d f).findJob a = s.findJob a :=
  findJob_congr (job_relined_bare s d f) a

theorem jobLine_relined (s : State) (d : Option Designation) (f : JobLine → JobLine) (a : Nat) (b : Fin 8) :
    (s.relined d f).jobLine a b = if d = some (.part a b) then (s.jobLine a b).map f else s.jobLine a b := by
  obtain ⟨e, hd⟩ | ⟨a', b', rfl, e⟩ := relined_cases s d f
  · rw [e, if_neg (hd a b)]
  · rw [e, jobLine_updateJobLine]
    simp only [Option.some.injEq, Designation.part.injEq]

/-- The pages enqueued: that of the job whose line is changed (R153). -/
theorem mem_queue_relined (s : State) (d : Option Designation) (f : JobLine → JobLine) (q : Fin 648) :
    q ∈ (s.relined d f).retention.queue ↔ q ∈ s.retention.queue
      ∨ ∃ n a b x, d = some (.part a b) ∧ s.findJob a = some n ∧ s.jobLine a b = some x ∧ q = jobPage n := by
  obtain ⟨e, hd⟩ | ⟨a, b, rfl, e⟩ := relined_cases s d f
  · rw [e]
    refine (or_iff_left ?_).symm
    rintro ⟨n, a, b, x, h, -⟩
    exact hd a b h
  · rw [e]
    obtain ⟨hnone, e⟩ | ⟨n, j, x, hj, hx, e⟩ := updateJobLine_cases s a b f
    · rw [e]
      refine (or_iff_left ?_).symm
      rintro ⟨n, a', b', x, h, -, hx, -⟩
      cases h
      rw [hnone] at hx; cases hx
    · rw [e]
      change q ∈ queueWith s.retention.queue _ ↔ _
      rw [mem_queueWith]
      refine or_congr_right ⟨fun h => ⟨n, a, b, x, rfl, (jobOf_eq.mp hj).1, (jobLine_of_jobOf hj b).trans hx, h⟩, ?_⟩
      rintro ⟨n', a', b', x', h, hn, -, hq⟩
      cases h
      rw [(jobOf_eq.mp hj).1] at hn
      cases hn
      exact hq

theorem jobOf_relined (h : s.jobOf a = some (n, j)) : ∃ j', (s.relined d f).jobOf a = some (n, j')
    ∧ j'.closed = j.closed := by
  obtain ⟨hfind, hn⟩ := jobOf_eq.mp h
  have hbare := job_relined_bare s d f n
  rw [hn] at hbare
  obtain ⟨j', hj', e⟩ := Option.map_eq_some_iff.mp hbare
  have hclosed : j'.bare.closed = j.bare.closed := congrArg Job.closed e
  exact ⟨j', jobOf_eq.mpr ⟨(findJob_relined ..).trans hfind, hj'⟩, hclosed⟩

/-! #### The test of a PART designation (R36) -/

theorem partCheck_noJob (h : s.findJob a = none) : s.partCheck a b = refuse .noSuch := by
  rw [State.partCheck, jobOf_none h]

theorem partCheck_closed (hj : s.jobOf a = some (n, j)) (hc : j.closed = true) :
    s.partCheck a b = refuse .jobClosed := by
  rw [State.partCheck, hj]
  exact if_pos hc

theorem partCheck_noLine (hj : s.jobOf a = some (n, j)) (hc : j.closed = false) (hx : s.jobLine a b = none) :
    s.partCheck a b = refuse .noSuch := by
  rw [jobLine_of_jobOf hj] at hx
  rw [State.partCheck, hj]
  dsimp only
  rw [if_neg (by simp [hc]), hx]

theorem partCheck_line (hj : s.jobOf a = some (n, j)) (hc : j.closed = false) (hx : s.jobLine a b = some x) :
    s.partCheck a b = if x.delivered + x.designated < x.target then .ok () else refuse .lineFull := by
  rw [jobLine_of_jobOf hj] at hx
  rw [State.partCheck, hj]
  dsimp only
  rw [if_neg (by simp [hc]), hx]

/-! #### A designation read, tested and set (R34 to R36) -/

/-- The designations MARK_PIECE takes, by their numbers (R34, R189). -/
theorem designationOf_read (h : designation = 0 ∧ new = none ∨ designation = 2 ∧ new = some .remnant
      ∨ designation = 3 ∧ new = some .scrap
      ∨ ∃ b : Fin 8, designation = 1 ∧ 1 ≤ job ∧ job ≤ 65535 ∧ line = b.val + 1 ∧ new = some (.part job b)) :
    designationOf designation job line = some new := by
  obtain ⟨rfl, rfl⟩ | ⟨rfl, rfl⟩ | ⟨rfl, rfl⟩ | ⟨b, rfl, h1, h2, rfl, rfl⟩ := h
  · rfl
  · rfl
  · rfl
  · rw [designationOf, if_pos ⟨h1, h2⟩, jobLineOf, if_pos (Nat.le_add_left ..), Nat.add_sub_cancel, index?_val]
    rfl

/-- A designation that passes its test is set. -/
theorem designate_passes (hrem : d = some .remnant → ∃ c m, u.planMaterial p = some (c, m) ∧ remnantFits m r = true)
    (hpart : ∀ a b, d = some (.part a b) → u.partCheck a b = .ok ()) :
    u.designate p i r d = .ok (u.relined d JobLine.designate) := by
  match d with
  | none | some .scrap => rfl
  | some .remnant =>
    obtain ⟨c, m, hm, hfit⟩ := hrem rfl
    rw [State.designate, hm]
    exact if_pos hfit
  | some (.part a b) =>
    rw [State.designate, hpart a b rfl]
    rfl

theorem designate_tooSmall {c : Fin 32} {m : Material} (hm : u.planMaterial p = some (c, m))
    (hfit : ¬ remnantFits m r = true) :
    u.designate p i r (some .remnant) = .error { code := .tooSmall, fields := leFields [(1, i.val)] } := by
  rw [State.designate, hm, leFields_single]
  exact if_neg hfit

theorem designate_part {code : ReplyCode} (h : u.partCheck a b = refuse code) :
    u.designate p i r (some (.part a b)) = refuse code := by
  rw [State.designate, h]
  rfl

/-! #### What MARK_PIECE answers (R34) -/

theorem markPiece_error {e : Answer} (hk : s.plan k = some p) (ho : p.state = .opened)
    (hd : designationOf designation job line = some new) (hleaf : slot p.pieces i = .leaf r o old)
    (h : (s.relined old JobLine.undesignate).designate p i r new = .error e) :
    markPiece k.val i.val designation job line s = .error e := by
  rw [markPiece, planCheck_opened hk ho]
  dsimp only
  rw [index?_val, hd]
  dsimp only
  rw [hleaf]
  dsimp only
  rw [releaseDesignation_eq, h]

theorem markPiece_marks (hk : s.plan k = some p) (ho : p.state = .opened)
    (hd : designationOf designation job line = some new) (hleaf : slot p.pieces i = .leaf r o old)
    (h : (s.relined old JobLine.undesignate).designate p i r new = .ok t) :
    markPiece k.val i.val designation job line s
      = done (t.setPlan k (some { p with pieces := put p.pieces i (.leaf r o new) })) ((Piece.leaf r o new).block i.val)
      := by
  rw [markPiece, planCheck_opened hk ho]
  dsimp only
  rw [index?_val, hd]
  dsimp only
  rw [hleaf]
  dsimp only
  rw [releaseDesignation_eq, h]

theorem planMaterial_relined (s : State) (d : Option Designation) (f : JobLine → JobLine) (p : Plan) :
    (s.relined d f).planMaterial p = s.planMaterial p := by
  rw [(booked_relined s d f).eq]
  rfl

/-- The old designation's line gives one up, then the new one's gets one (R33, R34). -/
def State.moveDesignation (s : State) (old new : Option Designation) : State :=
  (s.relined old JobLine.undesignate).relined new JobLine.designate

theorem booked_moveDesignation (s : State) (old new : Option Designation) : Booked s (s.moveDesignation old new) :=
  (booked_relined ..).trans (booked_relined ..)

theorem moveDesignation_eq (s : State) (old new : Option Designation) : s.moveDesignation old new = { s with
    jobs := (s.moveDesignation old new).jobs
    retention := { s.retention with queue := (s.moveDesignation old new).retention.queue } } := by
  have hover : (s.moveDesignation old new).overhead = s.overhead :=
    (relined_overhead ..).trans (relined_overhead ..)
  have h := (booked_moveDesignation s old new).eq
  rwa [hover] at h

/-- The lines behind a designation moved: the old one's loses it, the new one's gets it (R33). -/
theorem jobLine_moveDesignation (s : State) (old new : Option Designation) (a : Nat) (b : Fin 8) :
    (s.moveDesignation old new).jobLine a b = (s.jobLine a b).map fun x =>
      { x with designated := (x.designated - if old = some (.part a b) then 1 else 0)
          + if new = some (.part a b) then 1 else 0 } := by
  rw [State.moveDesignation, jobLine_relined, jobLine_relined]
  cases s.jobLine a b with
  | none => simp only [Option.map_none, ite_self]
  | some x => split <;> split <;> rfl

theorem mem_queue_moveDesignation (s : State) (old new : Option Designation) (q : Fin 648) :
    q ∈ (s.moveDesignation old new).retention.queue ↔ q ∈ s.retention.queue
      ∨ ∃ n a b x, (old = some (.part a b) ∨ new = some (.part a b)) ∧ s.findJob a = some n
        ∧ s.jobLine a b = some x ∧ q = jobPage n := by
  have named (a : Nat) (b : Fin 8) : (∃ x, (s.relined old JobLine.undesignate).jobLine a b = some x)
      ↔ ∃ x, s.jobLine a b = some x := by
    simp only [← Option.isSome_iff_exists, jobLine_relined]
    split
    · rw [Option.isSome_map]
    · rfl
  simp only [State.moveDesignation, mem_queue_relined, findJob_relined, or_assoc]
  refine or_congr_right ⟨?_, ?_⟩
  · rintro (⟨n, a, b, x, h, hn, hx, hq⟩ | ⟨n, a, b, x, h, hn, hx, hq⟩)
    · exact ⟨n, a, b, x, .inl h, hn, hx, hq⟩
    · obtain ⟨x, hx⟩ := (named a b).mp ⟨x, hx⟩
      exact ⟨n, a, b, x, .inr h, hn, hx, hq⟩
  · rintro ⟨n, a, b, x, h | h, hn, hx, hq⟩
    · exact .inl ⟨n, a, b, x, h, hn, hx, hq⟩
    · obtain ⟨x, hx⟩ := (named a b).mpr ⟨x, hx⟩
      exact .inr ⟨n, a, b, x, h, hn, hx, hq⟩

/-- Settles O10: the old designation's line gives one up, then the new one is tested and its line gets one. -/
theorem markPieceMovesOneDesignation : Obligations.MarkPieceMovesOneDesignation := by
  refine ⟨?_, ?_⟩
  · intro s echo k p i designation job line r o old new hs hk ho hleaf hread hrem hpart
    have hd := designationOf_read hread
    have hrem' : new = some .remnant → ∃ c m,
        (s.relined old JobLine.undesignate).planMaterial p = some (c, m) ∧ remnantFits m r = true := by
      intro h
      obtain ⟨n, x, m, hx, hm, hfit⟩ := hrem h
      rw [planMaterial_relined]
      exact ⟨_, m, planMaterial_eq hx hm, (remnantFits_iff m r).mpr hfit⟩
    have hpart' : ∀ a b, new = some (.part a b) →
        (s.relined old JobLine.undesignate).partCheck a b = .ok () := by
      intro a b h
      have hjob : a = job := by
        obtain ⟨-, e⟩ | ⟨-, e⟩ | ⟨-, e⟩ | ⟨b', -, -, -, -, e⟩ := hread <;> rw [e] at h <;> cases h
        rfl
      subst hjob
      obtain ⟨n, j, x, hj, hc, hx, hroom⟩ := hpart b h
      obtain ⟨j', hj', hc'⟩ := jobOf_relined (d := old) (f := JobLine.undesignate) hj
      rw [← jobLine_of_jobOf hj] at hx
      rw [h] at hroom
      have hline : (s.relined old JobLine.undesignate).jobLine a b
          = some { x with designated := x.designated - if old = some (.part a b) then 1 else 0 } := by
        rw [← releaseDesignation_eq, jobLine_releaseDesignation, hx]
        rfl
      rw [partCheck_line hj' (hc'.trans hc) hline]
      exact if_pos hroom
    have hmark := markPiece_marks (t := s.moveDesignation old new) hk ho hd hleaf (designate_passes hrem' hpart')
    have hbooked := booked_moveDesignation s old new
    refine ⟨_, put p.pieces i (.leaf r o new), exec_done hs rfl rfl hmark, slot_put_same .., fun j => ?_,
      fun j hj => ?_, fun a b => ?_, fun n => ?_, fun q => ?_, hbooked.queue, ?_⟩
    · rw [slot_put]
      simp only [eq_comm]
    · exact (plan_setPlan ..).trans ((if_neg hj.symm).trans (congrArg (slot · j) hbooked.plans))
    · exact jobLine_moveDesignation s old new a b
    · exact (job_relined_bare ..).trans (job_relined_bare ..)
    · exact mem_queue_moveDesignation s old new q
    · rw [moveDesignation_eq]
      rfl
  · intro s echo k p i job line r o old hk ho hleaf
    refine ⟨fun hs n x m hx hm h1 h2 => ?_, fun b hline h1 h2 hs => ?_⟩
    · have hmat := (planMaterial_relined s old JobLine.undesignate p).trans (planMaterial_eq hx hm)
      exact exec_error hs rfl rfl (markPiece_error hk ho rfl hleaf
        (designate_tooSmall hmat fun h => ((remnantFits_iff m r).mp h).elim h1 h2))
    · have hd : designationOf 1 job line = some (some (.part job b)) :=
        designationOf_read (.inr (.inr (.inr ⟨b, rfl, h1, h2, hline, rfl⟩)))
      have refused {code : ReplyCode} (h : (s.relined old JobLine.undesignate).partCheck job b = refuse code) :
          exec (.markPiece echo k.val i.val 1 job line) s = .next { s with port := s.port.replied echo code [] } :=
        exec_refuse hs rfl rfl (markPiece_error hk ho hd hleaf (designate_part h))
      refine ⟨fun hno => refused (partCheck_noJob ((findJob_relined ..).trans (findJob_none hno))), fun n j hj => ?_⟩
      obtain ⟨j', hj', hc'⟩ := jobOf_relined (d := old) (f := JobLine.undesignate) hj
      have hl := jobLine_relined s old JobLine.undesignate job b
      rw [jobLine_of_jobOf hj] at hl
      refine ⟨fun hc => refused (partCheck_closed hj' (hc'.trans hc)), fun hc hx => ?_, fun x hc hx hold hfull => ?_⟩
      · rw [hx, Option.map_none, ite_self] at hl
        exact refused (partCheck_noLine hj' (hc'.trans hc) hl)
      · rw [if_neg hold, hx] at hl
        refine refused ((partCheck_line hj' (hc'.trans hc) hl).trans (if_neg ?_))
        omega

end Marking

end Sys2Proof.Machine

namespace Sys2Proof.Machine

/-! ### ACCEPT, and FINISH with cuts remaining (R47, R77 to R81, R84, R87) -/

section Finishing

variable {s t : State} {l : Fin 5} {i : Fin 4} {k : Fin 12} {p : Plan} {c : Cut} {cut : Nat} {st : Station}

/-- What a taken frame starts again, state by state (R84, R87). -/
theorem superviseAgain_timers (s : State) (i : Fin 4) : s.superviseAgain i = s.setStation i
    { s.station i with
      silenceTimer := if (s.station i).state.wet then some s.settings.silenceLimit else (s.station i).silenceTimer
      queryTimer := if (s.station i).state = .cutting then some (s.settings.silenceLimit / 2)
        else if (s.station i).state = .holding then some (s.settings.replyTimeout / 2)
        else (s.station i).queryTimer } := by
  by_cases hcut : (s.station i).state = .cutting
  · rw [State.superviseAgain.eq_def]
    simp only [hcut, StationState.wet, if_true]
  · rw [superviseAgain_eq hcut, if_neg hcut]
    by_cases hhold : (s.station i).state = .holding
    · simp only [hhold, StationState.wet, if_true]
    · have hdry : ¬ (s.station i).state.wet = true := by
        cases h : (s.station i).state with
        | cutting => exact absurd h hcut
        | holding => exact absurd h hhold
        | _ => decide
      rw [if_neg hhold, if_neg hhold, if_neg hdry]

/-- An ACCEPT of the order in hand (R79). -/
theorem exec_accept (he : (s.line l).enabled = true) (hb : (s.line l).inBreak = false) (hu : s.userOf l = .station i)
    (hst : (s.station i).state = .cutting ∨ (s.station i).state = .holding
      ∨ (s.station i).state = .paused ∨ (s.station i).state = .faulted)
    (hout : (s.station i).orderOutstanding = true) (hik : (s.station i).plan = some k) (hk : s.plan k = some p)
    (hcut : p.cutsDone = cut) (hc : p.cuts[cut]? = some c) (noise : Bool) :
    exec (.accept l noise (s.station i).toggle cut) s
      = .next (((s.stopAcceptWait i).superviseAgain i).takenFrame l noise) := by
  have hreport : s.sawReport i (.accept cut) = some (s.stopAcceptWait i) := by
    have hdet : ¬(s.station i).state = .detached := by
      rcases hst with h | h | h | h <;> rw [h] <;> decide
    unfold State.sawReport
    rw [if_neg hdet]
    dsimp only
    rw [State.takeAccept, orderInHand_eq hst hout hik hk hcut hc]
    rfl
  exact congrArg Host.Outcome.next (receive_taken he hb hu ⟨rfl, rfl⟩ (fun _ => rfl) hreport)

/-- Plan and station behind a FINISH of a cut whose passes are all reported (R47, R81). -/
def State.cutFinished (s : State) (i : Fin 4) (k : Fin 12) (p : Plan) (c : Cut) (cut : Nat) : State :=
  (s.setPlan k (some
    { p with
      cuts := p.cuts.set cut { c with state := .done }, cutsDone := cut + 1, passesReported := 0
      touched := true })).setStation i
    { s.station i with
      replyTimer := if (s.station i).state = .cutting then none else (s.station i).replyTimer
      passesTaken := 0, orderOutstanding := false }

theorem cutFinished_station (s : State) (i : Fin 4) (k : Fin 12) (p : Plan) (c : Cut) (cut : Nat) :
    (s.cutFinished i k p c cut).station i = { s.station i with
      replyTimer := if (s.station i).state = .cutting then none else (s.station i).replyTimer
      passesTaken := 0, orderOutstanding := false } :=
  slot_put_same ..

theorem cutFinished_plan (s : State) (i : Fin 4) (k : Fin 12) (p : Plan) (c : Cut) (cut : Nat) :
    (s.cutFinished i k p c cut).plan k = some { p with
      cuts := p.cuts.set cut { c with state := .done }, cutsDone := cut + 1, passesReported := 0
      touched := true } :=
  slot_put_same ..

/-- With nothing to book, a FINISH ends the cut and the order. -/
theorem orderOver_finishing (s : State) (i : Fin 4) (k : Fin 12) (p : Plan) (c : Cut) (cut : Nat) :
    (s.finishing i k p c cut 0).orderOver i = s.cutFinished i k p c cut := by
  have hown (q : Plan) (y : Station) : ((s.setPlan k (some q)).setStation i y).station i = y := slot_put_same ..
  have htravel : p.remainingTravel.map (· - c.travel * 0) = p.remainingTravel := by
    cases p.remainingTravel <;> rfl
  rw [State.orderOver, State.finishing, hown, htravel]
  simp only [State.setStation, put_put_same]
  rfl

/-- A FINISH of a cut whose passes are all reported: nothing is booked (R81). -/
theorem exec_finish_reported (he : (s.line l).enabled = true) (hb : (s.line l).inBreak = false)
    (hu : s.userOf l = .station i)
    (hst : (s.station i).state = .cutting ∨ (s.station i).state = .holding
      ∨ (s.station i).state = .paused ∨ (s.station i).state = .faulted)
    (hout : (s.station i).orderOutstanding = true) (hik : (s.station i).plan = some k) (hk : s.plan k = some p)
    (hcut : p.cutsDone = cut) (hc : p.cuts[cut]? = some c) (hall : p.passCount.getD 0 ≤ p.passesReported)
    (noise : Bool) :
    exec (.finish l noise (s.station i).toggle cut) s
      = .next ((((s.cutFinished i k p c cut).afterFinish i k).superviseAgain i).takenFrame l noise) := by
  have hexec := exec_finish he hb hu hst hout hik hk hcut hc noise rfl rfl
  rwa [Nat.sub_eq_zero_of_le hall, List.range_zero, List.map_nil, List.foldl_nil, orderOver_finishing] at hexec

theorem cutFinished_more (hmore : cut + 1 < p.cuts.length) : (s.cutFinished i k p c cut).allCutsDone k = false := by
  rw [Bool.eq_false_iff, ne_eq, allCutsDone_iff (cutFinished_plan ..), List.length_set]
  exact Nat.ne_of_lt hmore

/-- A station changed in its record alone stops as from before the change. -/
theorem stopsAt_of_setStation {y : Station} {src : Fin 24} {d : Detail} (hy : y.state = (s.station i).state)
    (h : (s.setStation i y).stopsAt t i st src d) : s.stopsAt t i st src d := by
  have own : (s.setStation i y).station i = y := slot_put_same ..
  obtain ⟨hstations, hnotices, hvalve, hsettle, hlines, hsent, hrest⟩ := h
  rw [own, hy] at hvalve hsettle
  refine ⟨hstations.trans (put_put_same ..), hnotices, hvalve, hsettle, hlines, hsent, hrest⟩

/-- Settles O22: an ACCEPT by the wait it stops; a FINISH that books nothing by what follows it, one lemma a course. -/
theorem acceptAndFinishMoveTheOrder : Obligations.AcceptAndFinishMoveTheOrder := by
  refine ⟨?_, ?_, ?_⟩
  · intro s l i noise cut k p c st he hb hu hst hstates hout hik hk hcut hc
    subst hst
    have own (y : Station) : (s.setStation i y).station i = y := slot_put_same ..
    rw [exec_accept he hb hu hstates hout hik hk hcut hc, stopAcceptWait_eq, superviseAgain_timers, own]
    simp only [State.setStation, put_put_same]
    rfl
  · intro s l i noise cut k p c st he hb hu hst hstates hout hik hk hcut hc hall hmore
    subst hst
    have hdry : (s.station i).state ≠ .cutting := by
      rcases hstates with h | h | h <;> rw [h] <;> decide
    rw [exec_finish_reported he hb hu (.inr hstates) hout hik hk hcut hc hall,
      finish_stays (cutFinished_more hmore) (by rw [cutFinished_station]; exact hdry), cutFinished_station,
      State.cutFinished, if_neg hdry]
    simp only [State.setStation, put_put_same]
    rfl
  · intro s l i noise cut limit k p c next sn n x b counted q he hbr hu hl hpl hst hout hik hk hcut hc hnext hall hsn hx
      hxc hb hq hlimit hcounted
    subst hq hcounted
    have hmore : cut + 1 < p.cuts.length := (List.getElem?_eq_some_iff.mp hnext).1
    have hexec := exec_finish_reported he hbr hu (.inl hst) hout hik hk hcut hc hall noise
    have hstation := cutFinished_station s i k p c cut
    rw [if_pos hst] at hstation
    have hcw : ((s.cutFinished i k p c cut).station i).state = .cutting := by rw [hstation]; exact hst
    have hkw : ((s.cutFinished i k p c cut).station i).plan = some k := by rw [hstation]; exact hik
    refine ⟨fun hsharp => ?_, fun hworn => ?_⟩
    · have hget : (p.cuts.set cut { c with state := .done })[cut + 1]? = some next := by
        rw [List.getElem?_set_ne (by omega)]
        exact hnext
      rw [hexec, finish_orders (cutFinished_more hmore) hcw hb hsharp,
        nextOrder_sent hcw hkw (cutFinished_plan ..) hget hsn hx hxc hl he (by rw [hstation]) hlimit, hstation]
      simp only [State.cutFinished, State.setStation, put_put_same]
      rfl
    · obtain ⟨hstops, hline⟩ := finish_pauses (cutFinished_plan ..) (cutFinished_more hmore) hcw hkw hb hworn hl hpl
        noise rfl
      rw [hstation] at hstops
      change ((s.setPlan k _).setStation i _).stopsAt _ _ _ _ _ at hstops
      exact ⟨_, hexec, stopsAt_of_setStation (by rfl) hstops, hline⟩

end Finishing

end Sys2Proof.Machine

namespace Sys2Proof.Machine

/-! ### A taken PASS (R46, R80, R104, R105, R117, R126, R142) -/

section Passing

variable {s y : State} {l : Fin 5} {i : Fin 4} {k : Fin 12} {p : Plan} {c : Cut} {b : Blade}
  {cut passIndex depth : Nat}

/-- The progress counter behind a pass (R80). -/
def Station.progressed (st : Station) (interval : Nat) : Station :=
  { st with progressCount := if interval = 0 then st.progressCount
      else if interval ≤ st.progressCount + 1 then 0 else st.progressCount + 1 }

/-- The notices behind it: PROGRESS where the interval is reached (R80, R177). -/
def State.progressNotices (s : State) (i : Fin 4) (k : Fin 12) (cut passIndex interval : Nat) :
    Vector NoticeSource 24 :=
  if interval ≠ 0 ∧ interval ≤ (s.station i).progressCount + 1 then
    put s.notices.sources (progressSource i) ((slot s.notices.sources (progressSource i)).raised
      (.progress k cut passIndex (((s.plan k).bind (·.remainingTravel)).getD 0)))
  else s.notices.sources

/-- The count of progress, whole state: none at interval 0, a notice and a fresh count at the interval, a count
below it (R80). -/
theorem countProgress_eq (s : State) (i : Fin 4) (k : Fin 12) (cut passIndex : Nat) : s.countProgress i k cut passIndex
    = { s with
      stations := put s.stations i ((s.station i).progressed (slot s.settings.progressInterval i))
      notices := { s.notices with
        sources := s.progressNotices i k cut passIndex (slot s.settings.progressInterval i) } } := by
  rw [State.countProgress, State.progressNotices, Station.progressed]
  generalize slot s.settings.progressInterval i = interval
  dsimp only
  by_cases h0 : interval = 0
  · rw [if_pos h0, if_pos h0, if_neg fun h => h.1 h0]
    exact (congrArg (fun v => { s with stations := v }) (put_slot s.stations i)).symm
  · rw [if_neg h0, if_neg h0]
    by_cases hle : interval ≤ (s.station i).progressCount + 1
    · rw [if_pos hle, if_pos hle, if_pos ⟨h0, hle⟩]
      rfl
    · rw [if_neg hle, if_neg hle, if_neg fun h => hle h.2]
      rfl

/-- A station's record behind the taken frame of a pass: progress counted, its timers started again (R80, R84). -/
def Station.passCounted (st : Station) (interval silence reply : Nat) : Station :=
  { st.progressed interval with
    silenceTimer := if st.state.wet then some silence else st.silenceTimer
    queryTimer := if st.state = .cutting then some (silence / 2)
      else if st.state = .holding then some (reply / 2) else st.queryTimer }

/-- What follows the bookings of a PASS, whole state. -/
theorem passCounted_eq (s : State) (l : Fin 5) (i : Fin 4) (k : Fin 12) (cut passIndex : Nat) (noise : Bool) :
    ((s.countProgress i k cut passIndex).superviseAgain i).takenFrame l noise = { s with
      stations := put s.stations i ((s.station i).passCounted (slot s.settings.progressInterval i)
        s.settings.silenceLimit s.settings.replyTimeout)
      notices := { s.notices with
        sources := s.progressNotices i k cut passIndex (slot s.settings.progressInterval i) }
      lines := put s.lines l ((s.line l).counted noise) } := by
  have own : (s.countProgress i k cut passIndex).station i
      = (s.station i).progressed (slot s.settings.progressInterval i) := by
    rw [countProgress_eq]
    exact slot_put_same ..
  rw [superviseAgain_timers, own, countProgress_eq]
  simp only [State.setStation, put_put_same]
  rfl

/-- Plan, station and blade behind a PASS, before its solids are booked (R46, R80, R104, R105). -/
def State.passTaken (s : State) (i : Fin 4) (k : Fin 12) (p : Plan) (b : Blade) (travel depth : Nat) : State :=
  { s with
    plans := put s.plans k (some (p.takePass travel))
    stations := put s.stations i
      { s.station i with
        passesTaken := (s.station i).passesTaken + 1
        replyTimer := if (s.station i).state = .cutting then none else (s.station i).replyTimer }
    blades := put s.blades i (some (b.passed travel depth p.hardness))
    notices := { s.notices with sources := s.lowNotices i b (b.worn travel depth p.hardness).wearRemaining }
    retention := { s.retention with queue := queueWith s.retention.queue (bladePage i) } }

/-- The state a taken PASS reports F from (R117, R126). -/
def State.passBooked (s : State) (i : Fin 4) (k : Fin 12) (p : Plan) (b : Blade) (travel depth : Nat) : State :=
  (s.passTaken i k p b travel depth).solidsBooked (travel * p.kerf * depth * p.density)
    (s.pressRequested (travel * p.kerf * depth * p.density))

/-- The pool of a plan behind saw time and wear (R142). -/
def Plan.passCharged (q : Plan) (saw wear : Nat) : Plan := (q.addPool saw).addPool wear

/-- A PASS of the order in hand at its turn: bookings, F told, pool and progress (R80). -/
theorem takePass_eq {seconds : Nat} (horder : s.orderInHand i cut = some (k, p, c)) (hk : s.plan k = some p)
    (hb : s.blade i = some b) (hindex : passIndex = (s.station i).passesTaken + 1)
    (hleft : p.passesReported < p.passCount.getD 0) (hdepth : depth = s.planPassDepth p passIndex)
    (hy : y = (s.passBooked i k p b c.travel depth).factorTold s.water.factor s.thresholds.resume false) :
    s.takePass i cut passIndex seconds = some ((y.updatePlan k fun q =>
      q.passCharged (clamp 0 3600 seconds * slot s.settings.stationRate i)
        (b.wearUnits c.travel depth p.hardness * b.costPerUnit)).countProgress i k cut passIndex) := by
  obtain ⟨u, hu⟩ : ∃ u : State, u = (s.setPlan k (some (p.takePass c.travel))).setStation i
      { s.station i with
        passesTaken := (s.station i).passesTaken + 1
        replyTimer := if (s.station i).state = .cutting then none else (s.station i).replyTimer } := ⟨_, rfl⟩
  have hplan : (s.stopAcceptWait i).updatePlan k (fun q => q.takePass c.travel)
      = (s.setPlan k (some (p.takePass c.travel))).setStation i
        { s.station i with
          replyTimer := if (s.station i).state = .cutting then none else (s.station i).replyTimer } := by
    have hk' : (s.stopAcceptWait i).plan k = some p := by rw [State.plan, stopAcceptWait_plans]; exact hk
    rw [updatePlan_eq hk', stopAcceptWait_eq]
    rfl
  have own (z : Station) : ((s.setPlan k (some (p.takePass c.travel))).setStation i z).station i = z := slot_put_same ..
  have hwear : u.passWear i c.travel depth p.hardness
      = (s.passTaken i k p b c.travel depth, b.wearUnits c.travel depth p.hardness * b.costPerUnit) := by
    rw [passWear_eq (b := b) (by rw [hu]; exact hb), hu]
    rfl
  unfold State.takePass
  rw [horder]
  dsimp only
  rw [if_pos ⟨hindex, hleft⟩, ← hdepth, hplan, own]
  simp only [State.setStation, put_put_same] at hu ⊢
  rw [← hu, hwear, addSolids_eq, hy]
  rfl

theorem exec_pass {seconds : Nat} (he : (s.line l).enabled = true) (hbr : (s.line l).inBreak = false)
    (hu : s.userOf l = .station i) (hdet : (s.station i).state ≠ .detached) {t : State} (noise : Bool)
    (h : s.takePass i cut passIndex seconds = some t) :
    exec (.pass l noise (s.station i).toggle cut passIndex seconds) s
      = .next ((t.superviseAgain i).takenFrame l noise) := by
  have hreport : s.sawReport i (.pass cut passIndex seconds) = some t := by
    unfold State.sawReport
    rw [if_neg hdet]
    exact h
  exact congrArg Host.Outcome.next (receive_taken he hbr hu ⟨rfl, rfl⟩ (fun _ => rfl) hreport)

/-- The pass depth by pass count, pass depth and thickness (R80, R103). -/
theorem planPassDepth_eq {n : Fin 512} {x : Slab} {count d : Nat} (hx : s.slabOf p.slabTag = some (n, x))
    (hcount : p.passCount = some count) (hd : p.passDepth = some d) :
    s.planPassDepth p passIndex = if passIndex < count then d else x.thickness - d * (count - 1) := by
  rw [State.planPassDepth, slabThickness_of hx, hcount, hd]
  rfl

theorem settings_passBooked (hy : y = (s.passBooked i k p b c.travel depth).factorTold s.water.factor
      s.thresholds.resume false) : y.settings = s.settings := by
  have h := (kept_addSolids (s.passTaken i k p b c.travel depth) c.travel p.kerf depth p.density).settings
  rw [addSolids_eq] at h
  rw [hy]
  exact h

/-- Settles O24: the bookings up to F by `takePass_eq`, what follows F by `passCounted_eq`. -/
theorem passIsBookedToPlanBladeWaterAndPool : Obligations.PassIsBookedToPlanBladeWaterAndPool := by
  intro s l i noise cut passIndex seconds depth sum saw wear k p c n slab sn b count d interval kept he hbr hu hpl hst
    hout hik hk hcut hc hx hsn hb hcount hd hindex hleft hdepth hinterval hsum hsaw hwear hkept
  have hhard : p.hardness = sn.entry.hardness := by rw [Plan.hardness, hsn]; rfl
  have hdens : p.density = sn.entry.density := by rw [Plan.density, hsn]; rfl
  have hdet : (s.station i).state ≠ .detached := by
    rcases hst with h | h | h | h <;> rw [h] <;> decide
  obtain ⟨y, hy⟩ : ∃ y, y = (s.passBooked i k p b c.travel depth).factorTold s.water.factor s.thresholds.resume
    false := ⟨_, rfl⟩
  have htaken := takePass_eq (seconds := seconds) (orderInHand_eq hst hout hik hk hcut hc) hk hb hindex
    (by rw [hcount]; exact hleft) (hdepth.trans (planPassDepth_eq hx hcount hd).symm) hy
  have hexec := exec_pass he hbr hu hdet noise htaken
  have hset := settings_passBooked hy
  rw [passCounted_eq] at hexec
  refine ⟨s.passBooked i k p b c.travel depth, y, _, s.pressRequested (c.travel * p.kerf * depth * p.density), hexec,
    rfl, rfl, ?_, ?_, ?_, ?_, rfl, enqueuedOnly_of rfl, rfl, hy, fun j => ?_, ?_, ?_, rfl, rfl⟩
  · rw [hsum, ← hhard]; rfl
  · rw [hsum, ← hhard]; rfl
  · rw [hkept, ← hdens]; rfl
  · rw [hkept, ← hdens]; rfl
  · have hclamp : clamp 0 3600 seconds = min 3600 seconds := Nat.zero_max ..
    refine (plan_setPlan y k j _).trans ?_
    rw [hclamp, hwear, hsum, hsaw, ← hhard]
    simp only [eq_comm (a := j)]
    rfl
  · rw [hinterval, ← hset]; rfl
  · have hleft : ((y.updatePlan k fun q => q.passCharged (clamp 0 3600 seconds * slot s.settings.stationRate i)
        (b.wearUnits c.travel depth p.hardness * b.costPerUnit)).plan k).bind Plan.remainingTravel
        = (y.plan k).bind Plan.remainingTravel := by
      rw [State.updatePlan, plan_setPlan, if_pos rfl]
      cases y.plan k <;> rfl
    have hint : interval = slot y.settings.progressInterval i := by rw [hset]; exact hinterval
    rw [hint, ← hleft]
    rfl

end Passing

end Sys2Proof.Machine

namespace Sys2Proof.Machine

/-! ### STOP_STATION (R86, R88) -/

section Stopping

variable {s t : State} {i : Fin 4} {echo : Byte}

/-- A record written back changes nothing. -/
theorem setStation_station (s : State) (i : Fin 4) : s.setStation i (s.station i) = s :=
  congrArg (fun v => { s with stations := v }) (put_slot s.stations i)

theorem stopStation_refuses (h : (s.station i).state = .detached ∨ (s.station i).state = .listening
      ∨ (s.station i).state = .ready) : stopStation i.val s = refuse .wrongState := by
  rw [stopStation, index?_val]
  rcases h with h | h | h <;> simp only [h]

theorem stopStation_stops (hst : ¬((s.station i).state = .detached ∨ (s.station i).state = .listening
      ∨ (s.station i).state = .ready)) :
    stopStation i.val s = done (s.stop i) ((s.stop i).station i).stateFields := by
  rw [stopStation, index?_val]
  dsimp only
  split
  · next h => exact absurd (.inl h) hst
  · next h => exact absurd (.inr (.inl h)) hst
  · next h => exact absurd (.inr (.inr h)) hst
  · rfl

/-- A stop that answers: what it does by `hstop`, its reply from the record it leaves (R88). -/
theorem exec_stopStation (hs : s.serving (.stopStation echo i.val)) (hst : ¬((s.station i).state = .detached
      ∨ (s.station i).state = .listening ∨ (s.station i).state = .ready)) (hstop : s.stop i = t)
    {state condition : Nat} (hcode : (t.station i).state.code = state)
    (hcond : (t.station i).condition.code = condition) : exec (.stopStation echo i.val) s
      = .next { t with port := t.port.replied echo .ok (leFields [(1, state), (1, condition)]) } := by
  refine exec_done hs rfl rfl ((stopStation_stops hst).trans ?_)
  rw [hstop, Station.stateFields, hcode, hcond]

theorem stop_staged (h : (s.station i).state = .staged) :
    s.stop i = s.setStation i { s.station i with state := .paused, condition := .hostStop } := by
  have dry : (s.station i).state.wet = StationState.wet .paused := by rw [h]; rfl
  rw [State.stop, h]
  exact enterState_own (x := { s.station i with condition := .hostStop }) dry

theorem stop_condition (h : (s.station i).state = .holding
      ∨ (s.station i).state = .paused ∧ (s.station i).condition = .waterHold) :
    s.stop i = s.setCondition i .hostStop := by
  rw [State.stop]
  obtain h | ⟨h, hc⟩ := h
  · rw [h]
    dsimp only
    rw [State.holdStation, h]
    exact if_pos rfl
  · rw [h]
    exact if_pos hc

theorem stop_stays (h : (s.station i).state = .faulted
      ∨ (s.station i).state = .paused ∧ (s.station i).condition ≠ .waterHold) : s.stop i = s := by
  rw [State.stop]
  obtain h | ⟨h, hc⟩ := h
  · rw [h]
  · rw [h]
    exact if_neg hc

/-- A HOLD handed to an enabled line, whole state (R63, R85). -/
theorem handHold_eq (he : (s.line (s.stationLine i)).enabled = true) : s.handHold i =
    (s.setLine (s.stationLine i)
      { s.line (s.stationLine i) with
        queue := { toggle := (s.station i).toggle, message := .hold }
          :: (s.line (s.stationLine i)).queue.filter
            (fun f => !f.message.withdrawable && f.message.kindCode != 2) }).setStation i
      { s.station i with
        orderOutstanding := (s.station i).orderOutstanding
          && !(s.line (s.stationLine i)).queue.any (fun f => f.message.isOrder) } := by
  have waits : s.orderWaiting i = (s.line (s.stationLine i)).queue.any fun f => f.message.isOrder := by
    rw [State.orderWaiting, he, Bool.true_and]
  rw [State.handHold, waits, State.handSaw, handFrame_eq, handed_enabled he]
  dsimp only
  cases hw : (s.line (s.stationLine i)).queue.any fun f => f.message.isOrder with
  | true =>
    rw [if_pos rfl, Bool.not_true, Bool.and_false]
    rfl
  | false =>
    rw [if_neg Bool.false_ne_true, Bool.not_false, Bool.and_true]
    exact (setStation_station (s.setLine (s.stationLine i) _) i).symm

theorem stop_cutting (h : (s.station i).state = .cutting) (he : (s.line (s.stationLine i)).enabled = true) : s.stop i =
    (s.setLine (s.stationLine i)
      { s.line (s.stationLine i) with
        queue := { toggle := (s.station i).toggle, message := .hold }
          :: (s.line (s.stationLine i)).queue.filter
            (fun f => !f.message.withdrawable && f.message.kindCode != 2) }).setStation i
      { s.station i with
        state := .holding, condition := .hostStop, replyTimer := none
        queryTimer := some (s.settings.replyTimeout / 2)
        orderOutstanding := (s.station i).orderOutstanding
          && !(s.line (s.stationLine i)).queue.any (fun f => f.message.isOrder) } := by
  have wet : (s.station i).state.wet = StationState.wet .holding := by rw [h]; rfl
  have own (u : State) (y : Station) : (u.setStation i y).station i = y := slot_put_same ..
  rw [State.stop]
  simp only [h, State.holdStation]
  rw [handHold_eq he, own, enterState_own (by exact wet)]
  simp only [State.setStation, put_put_same]

end Stopping

end Sys2Proof.Machine

namespace Sys2Proof.Machine

/-! ### RESUME_STATION (R77, R92) -/

section Resuming

variable {s w u : State} {i : Fin 4} {echo : Byte} {k : Fin 12} {p q : Plan} {c : Cut} {n : Fin 512} {x : Slab}
  {st : Station} {b : Blade}

/-! #### The checks (R92) -/

theorem resumable_iff : st.resumable = true ↔ st.state = .paused ∨ (st.state = .faulted ∧ st.plan ≠ none
    ∧ (st.sawMode = some .idle ∨ st.sawMode = some .held)) := by
  rw [Station.resumable]
  cases st.state with
  | faulted => cases st.plan <;> simp
  | _ => simp

theorem resumeStation_wrongState (h : ¬ (s.station i).resumable = true) :
    Machine.resumeStation i.val s = refuse .wrongState := by
  rw [Machine.resumeStation, index?_val]
  exact if_pos h

theorem resumeStation_checked (h : (s.station i).resumable = true) : Machine.resumeStation i.val s
    = if ¬ s.bladeSharp i then refuse .bladeWorn
      else if s.water.factor < s.thresholds.resume then refuse .waterHold
      else done (s.resumeStation i) ((s.resumeStation i).resumeFields i) := by
  rw [Machine.resumeStation, index?_val]
  exact if_neg (not_not_intro h)

theorem exec_resumeStation (hs : s.serving (.resumeStation echo i.val)) (h : (s.station i).resumable = true)
    (hb : s.blade i = some b) (hsharp : 0 < b.wearRemaining) (hf : s.thresholds.resume ≤ s.water.factor) :
    exec (.resumeStation echo i.val) s
      = .next ((s.resumeStation i).answer echo .ok ((s.resumeStation i).resumeFields i)) := by
  have sharp : s.bladeSharp i = true := by rw [State.bladeSharp, hb, Option.any_some]; exact decide_eq_true hsharp
  refine exec_done hs rfl rfl ?_
  rw [resumeStation_checked h, if_neg (not_not_intro sharp), if_neg (Nat.not_lt.mpr hf)]

/-! #### The reply (R92) -/

theorem resumeFields_unsent (h : (u.station i).state ≠ .cutting) :
    u.resumeFields i = leFields [(1, (u.station i).state.code), (1, 255), (1, 255)] := by
  rw [State.resumeFields, decide_eq_false h]
  rfl

theorem resumeFields_sent (h : (u.station i).state = .cutting) (hb : u.boundPlan i = some (k, q)) :
    u.resumeFields i = leFields [(1, 4), (1, q.cutsDone), (1, (u.station i).passesTaken + 1)] := by
  rw [State.resumeFields, State.currentCutNumber, hb, h]
  rfl

/-! #### An order sent again (R19, R77) -/

/-- An order sent finds a HELD slab and makes it CUTTING, or changes no record (R19). -/
theorem firstOrder_cases (s : State) (tag : Nat) : (∃ n x, s.slabOf tag = some (n, x) ∧ x.state = .held)
    ∨ ∀ t : State, t.stock = s.stock → t.firstOrder tag = t := by
  cases hx : s.slabOf tag with
  | none =>
    refine .inr fun t ht => ?_
    have none : t.slabOf tag = none := (slabOf_congr (congrArg Stock.slabs ht) tag).trans hx
    unfold State.firstOrder
    rw [none]
  | some y =>
    by_cases hy : y.2.state = .held
    · exact .inl ⟨y.1, y.2, rfl, hy⟩
    · exact .inr fun t ht => firstOrder_later ((slabOf_congr (congrArg Stock.slabs ht) tag).trans hx) hy

/-- An order sent reads the stock and touches stock and pages alone. -/
theorem firstOrder_congr {t : State} (h : t.stock = s.stock) (hr : t.retention = s.retention) (tag : Nat) :
    t.firstOrder tag
      = { t with stock := (s.firstOrder tag).stock, retention := (s.firstOrder tag).retention } := by
  obtain ⟨n, x, hx, hs⟩ | hsame := firstOrder_cases s tag
  · rw [firstOrder_eq hx hs, firstOrder_eq ((slabOf_congr (congrArg Stock.slabs h) tag).trans hx) hs, h, hr]
  · rw [hsame t h, hsame s rfl, ← h, ← hr]

/-- An order sent by a station that was not wet, and CUTTING entered, whole state (R19, R75, R77, R92). -/
theorem dispatchAndCut_eq (hb : s.boundPlan i = some (k, p)) (hc : p.currentCut = some c)
    (hdry : (s.station i).state.wet = false) (hl : s.plantLine ≠ s.stationLine i) : s.dispatchAndCut i =
    { s with
      stock := (s.firstOrder p.slabTag).stock
      retention := (s.firstOrder p.slabTag).retention
      stations := put s.stations i
        { (s.station i).ordered (s.planFeedLimit p) s.settings.silenceLimit with
          state := .cutting, condition := .none }
      lines := put (put s.lines (s.stationLine i) ((s.line (s.stationLine i)).handed
          { toggle := !(s.station i).toggle, message := .order (s.orderFor i k p c) }))
        s.plantLine (s.plantLineTold (supplyValve i) true)
      water := { s.water with
        commanded := put s.water.commanded (supplyValve i) true
        settle := s.water.settleOnCommand (supplyValve i) true s.settings.valveSettleTime } } := by
  obtain ⟨st, hst⟩ : ∃ st, st = (s.station i).ordered (s.planFeedLimit p) s.settings.silenceLimit := ⟨_, rfl⟩
  obtain ⟨ln, hln⟩ : ∃ ln, ln = (s.line (s.stationLine i)).handed
      { toggle := !(s.station i).toggle, message := .order (s.orderFor i k p c) } := ⟨_, rfl⟩
  obtain ⟨stock, hstock⟩ : ∃ stock, stock = (s.firstOrder p.slabTag).stock := ⟨_, rfl⟩
  obtain ⟨pages, hpages⟩ : ∃ pages, pages = (s.firstOrder p.slabTag).retention := ⟨_, rfl⟩
  have hdispatch : s.dispatch i = { s with
      stock := stock, retention := pages, stations := put s.stations i st
      lines := put s.lines (s.stationLine i) ln } := by
    rw [dispatch_eq hb hc, ← hst, ← hln]
    have moved := firstOrder_congr (s := s) (t := { s with
      stations := put s.stations i st, lines := put s.lines (s.stationLine i) ln }) rfl rfl p.slabTag
    rw [← hstock, ← hpages] at moved
    exact moved
  obtain ⟨u, hu⟩ : ∃ u, u = s.dispatch i := ⟨_, rfl⟩
  rw [← hu] at hdispatch
  have hust : u.station i = st := by rw [hdispatch]; exact slot_put_same ..
  have hplant : u.line u.plantLine = s.line s.plantLine := by rw [hdispatch]; exact slot_put_ne _ _ hl.symm
  have htold : u.plantLineTold (supplyValve i) true = s.plantLineTold (supplyValve i) true := by
    rw [State.plantLineTold, hplant, hdispatch]; rfl
  rw [State.dispatchAndCut, ← hu, enterCutting_dry u (by rw [hust, hst]; exact hdry), hust, htold,
    ← hst, ← hln, ← hstock, ← hpages, hdispatch]
  simp only [put_put_same]
  rfl

/-- The ORDER a resumed station sends (R76, R77). -/
def Station.orderAgain (st : Station) (k : Fin 12) (q : Plan) (c : Cut) (thickness limit : Nat) : TxFrame :=
  { toggle := !st.toggle
    message := .order
      { plan := k, cut := q.cutsDone, axis := c.axis, startX := c.startX, startY := c.startY, travel := c.travel
        totalDepth := thickness, passCount := q.passCount.getD 0, firstPass := st.passesTaken + 1
        passDepth := q.passDepth.getD 0, feedLimit := limit } }

/-- From `s`, its plans `plans` and its station's record `st`, to `u` the ORDER for plan `q`'s current cut is sent, the
supply valve opened and CUTTING entered (R77, R92, R123); `stock` and `pages` are what it leaves of the records. -/
structure OrderedAgain (s u : State) (i : Fin 4) (k : Fin 12) (q : Plan) (c : Cut) (thickness limit : Nat)
    (st : Station) (plans : Vector (Option Plan) 12) (stock : Stock) (pages : Retention) : Prop where
  ownLine : u.line (s.stationLine i) = { s.line (s.stationLine i) with
    queue := queueFrame (s.line (s.stationLine i)).queue (st.orderAgain k q c thickness limit) }
  lines : ∀ j, j ≠ s.stationLine i → j ≠ s.plantLine → u.line j = s.line j
  valves : s.valvesSent u
  commanded : u.water.commanded = put s.water.commanded (supplyValve i) true
  fields : u.resumeFields i = leFields [(1, 4), (1, q.cutsDone), (1, st.passesTaken + 1)]
  eq : u = { s with
    stock := stock, retention := pages, plans := plans
    stations := put s.stations i { st.ordered limit s.settings.silenceLimit with state := .cutting, condition := .none }
    lines := u.lines
    water := { s.water with commanded := u.water.commanded, settle := u.water.settle } }

theorem orderedAgain {sn : Snapshot} {limit : Nat} {plans : Vector (Option Plan) 12} {stock : Stock} {pages : Retention}
    (hw : w = { s with plans := plans, stations := put s.stations i st }) (hk : slot plans k = some q)
    (hik : st.plan = some k) (hc : q.cuts[q.cutsDone]? = some c) (hsn : q.snapshot = some sn)
    (hx : s.slabOf q.slabTag = some (n, x)) (hdry : st.state.wet = false)
    (hlimit : limit = max sn.entry.minFeed (sn.entry.baseFeed * s.water.factor / 1000))
    (hl : s.plantLine ≠ s.stationLine i) (he : (s.line (s.stationLine i)).enabled = true)
    (hstock : (s.firstOrder q.slabTag).stock = stock) (hpages : (s.firstOrder q.slabTag).retention = pages) :
    OrderedAgain s (w.dispatchAndCut i) i k q c x.thickness limit st plans stock pages := by
  have hst : w.station i = st := by rw [hw]; exact slot_put_same ..
  have hbound : w.boundPlan i = some (k, q) := by
    have hwk : w.plan k = some q := by rw [hw]; exact hk
    rw [State.boundPlan, hst, hik, Option.bind_some, hwk, Option.map_some]
  have hlimit' : w.planFeedLimit q = limit := by rw [State.planFeedLimit, hsn, hlimit, hw]; rfl
  have hthick : w.slabThickness q.slabTag = x.thickness := by
    have hwx : w.slabOf q.slabTag = some (n, x) := by rw [slabOf_congr (s := s) (by rw [hw])]; exact hx
    rw [State.slabThickness, hwx]; rfl
  have horder : { toggle := !st.toggle, message := .order (w.orderFor i k q c) }
      = st.orderAgain k q c x.thickness limit := by
    rw [State.orderFor, hthick, hst, hlimit']
    rfl
  have hfirst := firstOrder_congr (s := s) (t := w) (by rw [hw]) (by rw [hw]) q.slabTag
  rw [hstock, hpages] at hfirst
  have heq := dispatchAndCut_eq hbound hc (by rw [hst]; exact hdry) (by rw [hw]; exact hl)
  rw [hfirst, hst, hlimit', horder] at heq
  generalize w.dispatchAndCut i = u at heq
  have hust : u.station i
      = { st.ordered limit s.settings.silenceLimit with state := .cutting, condition := .none } := by
    rw [heq, hw]
    exact slot_put_same ..
  have huk : u.boundPlan i = some (k, q) := by
    have : u.plan k = some q := by rw [heq, hw]; exact hk
    rw [State.boundPlan, hust]
    simp only [Station.ordered, hik, Option.bind_some, this, Option.map_some]
  refine ⟨?_, fun j hj hp => ?_, ?_, ?_, ?_, ?_⟩
  · rw [heq, hw]
    exact (slot_put_ne _ _ hl).trans ((slot_put_same ..).trans (handed_enabled he))
  · rw [heq, hw]
    exact (slot_put_ne _ _ hp.symm).trans (slot_put_ne _ _ hj.symm)
  · rw [State.valvesSent, heq, hw]
    exact (slot_put_same ..).trans (plantLineTold_eq s _ _)
  · rw [heq, hw]
  · rw [resumeFields_sent (by rw [hust]) huk, hust]
    rfl
  · rw [heq, hw]
    simp only [put_put_same]

/-! #### The courses (R92) -/

theorem boundPlan_eq (hik : (s.station i).plan = some k) (hk : s.plan k = some p) : s.boundPlan i = some (k, p) := by
  rw [State.boundPlan, hik, Option.bind_some, hk, Option.map_some]

/-- The station's record as RESUME_STATION stages it (R92). -/
def Station.restaged (st : Station) : Station := { st with state := .staged, condition := .none }

theorem resumeStation_held (hb : s.boundPlan i = some (k, p)) (hx : s.slabOf p.slabTag = some (n, x))
    (hheld : x.state = .held) (hdry : (s.station i).state.wet = false) : s.resumeStation i
      = (s.setStation i (s.station i).restaged).tryStaged i := by
  unfold State.resumeStation
  rw [hb]
  dsimp only
  rw [hx, Option.any_some, decide_eq_true hheld, if_pos rfl]
  exact congrArg (State.tryStaged · i) (enterState_own (x := { s.station i with condition := .none }) hdry)

theorem markCutDone_eq (hk : s.plan k = some p) (hc : p.cuts[p.cutsDone]? = some c)
    (hdry : (s.station i).state.wet = false) : s.markCutDone i k c.travel 0 = s.cutFinished i k p c p.cutsDone := by
  have hcut : (s.station i).state ≠ .cutting := fun h => by rw [h] at hdry; cases hdry
  have htravel : p.remainingTravel.map (· - c.travel * 0) = p.remainingTravel := by
    cases p.remainingTravel <;> rfl
  rw [State.markCutDone, updatePlan_eq hk, finishCut_eq rfl hc, htravel, State.cutFinished, if_neg hcut]
  rfl

theorem resumeStation_finished (hb : s.boundPlan i = some (k, p)) (hk : s.plan k = some p)
    (hc : p.cuts[p.cutsDone]? = some c) (hx : s.slabOf p.slabTag = some (n, x)) (hcut : x.state = .cutting)
    (hall : p.passCount = some (s.station i).passesTaken) (hdry : (s.station i).state.wet = false) :
    s.resumeStation i = if (s.cutFinished i k p c p.cutsDone).allCutsDone k
      then (s.cutFinished i k p c p.cutsDone).closePlan i k
      else (s.cutFinished i k p c p.cutsDone).dispatchAndCut i := by
  have hnot : ¬ x.state = .held := by rw [hcut]; decide
  have hcur : p.currentCut = some c := hc
  unfold State.resumeStation
  rw [hb]
  dsimp only
  rw [hx, Option.any_some, decide_eq_false hnot, if_neg Bool.false_ne_true, if_pos hall, hcur, Option.map_some,
    Option.getD_some, markCutDone_eq hk hc hdry]

theorem resumeStation_later (hb : s.boundPlan i = some (k, p)) (hx : s.slabOf p.slabTag = some (n, x))
    (hcut : x.state = .cutting) (hleft : p.passCount ≠ some (s.station i).passesTaken) :
    s.resumeStation i = s.dispatchAndCut i := by
  have hnot : ¬ x.state = .held := by rw [hcut]; decide
  unfold State.resumeStation
  rw [hb]
  dsimp only
  rw [hx, Option.any_some, decide_eq_false hnot, if_neg Bool.false_ne_true, if_neg hleft]

end Resuming

end Sys2Proof.Machine

namespace Sys2Proof.Machine

/-! ### The courses of RESUME_STATION, each from the state it is taken up in (R92) -/

section Courses

variable {s t : State} {i : Fin 4} {k : Fin 12} {p q : Plan} {c next : Cut} {n : Fin 512} {x : Slab}
  {sn : Snapshot} {limit : Nat}

theorem setStation_restaged (s : State) (i : Fin 4) :
    (s.setStation i (s.station i).restaged).station i = (s.station i).restaged :=
  slot_put_same ..

/-- The reply does not touch what a close says. -/
theorem closesPlan_answer (h : s.closesPlan t i k p n x) (echo : Byte) (code : ReplyCode) (fields : List Byte) :
    s.closesPlan (t.answer echo code fields) i k p n x := by
  obtain ⟨r, h0, h1, h2, h3, h4, h5, h6, h7, h8, h9, h10, h11, h12, h13⟩ := h
  refine ⟨r, h0, h1, h2, h3, h4, h5, h6, h7, h8, h9, h10, h11, h12, ?_⟩
  rw [h13]
  rfl

theorem cutFinished_last (hlast : p.cutsDone + 1 = p.cuts.length) :
    (s.cutFinished i k p c p.cutsDone).allCutsDone k = true := by
  rw [allCutsDone_iff (cutFinished_plan ..), List.length_set]
  exact hlast

/-- Plan and station behind a cut finished at a station that is not CUTTING, in one record each. -/
theorem cutFinished_dry (hdry : (s.station i).state.wet = false) (hq : q = { p with
      cuts := p.cuts.set p.cutsDone { c with state := .done }, cutsDone := p.cutsDone + 1, passesReported := 0
      touched := true }) :
    s.cutFinished i k p c p.cutsDone = { s with
      plans := put s.plans k (some q)
      stations := put s.stations i { s.station i with passesTaken := 0, orderOutstanding := false } } := by
  have hcut : (s.station i).state ≠ .cutting := fun h => by rw [h] at hdry; cases hdry
  rw [State.cutFinished, if_neg hcut, hq]
  rfl

/-- The stations RESUME_STATION takes up are not wet. -/
theorem dry_of_resumable (h : (s.station i).state = .paused ∨ ((s.station i).state = .faulted
      ∧ ((s.station i).sawMode = some .idle ∨ (s.station i).sawMode = some .held))) :
    (s.station i).state.wet = false := by
  obtain h | ⟨h, -⟩ := h <;> rw [h] <;> rfl

theorem resumable_of_plan (hik : (s.station i).plan = some k) (h : (s.station i).state = .paused
      ∨ ((s.station i).state = .faulted
        ∧ ((s.station i).sawMode = some .idle ∨ (s.station i).sawMode = some .held))) :
    (s.station i).resumable = true :=
  resumable_iff.mpr (h.imp_right fun ⟨hf, hm⟩ => ⟨hf, by rw [hik]; nofun, hm⟩)

section Taken

variable (hik : (s.station i).plan = some k) (hk : s.plan k = some p) (hdry : (s.station i).state.wet = false)
include hik hk hdry

/-- A HELD slab, the loaded edge not seen: STAGED (R92). -/
theorem resumeStation_stages (hx : s.slabOf p.slabTag = some (n, x)) (hheld : x.state = .held)
    (hload : (s.station i).loadedSinceStaging = false) :
    s.resumeStation i = s.setStation i (s.station i).restaged := by
  rw [resumeStation_held (boundPlan_eq hik hk) hx hheld hdry, State.tryStaged, if_neg]
  rintro ⟨h, -⟩
  rw [setStation_restaged, Station.restaged, hload] at h
  cases h

/-- The last cut finished: the plan closes, and the station is READY (R48, R92, R96). -/
theorem resumeStation_closes (hc : p.cuts[p.cutsDone]? = some c) (hn : s.tagNames p.slabTag n x)
    (hcut : x.state = .cutting) (hrack : x.rack = none) (hall : p.passCount = some (s.station i).passesTaken)
    (hlast : p.cutsDone + 1 = p.cuts.length) (hl : s.plantLine ≠ s.stationLine i) :
    s.closesPlan (s.resumeStation i) i k p n x ∧ (s.resumeStation i).port = s.port
      ∧ (s.resumeStation i).line (s.stationLine i) = (s.line (s.stationLine i)).withdrawn
      ∧ (s.resumeStation i).resumeFields i = leFields [(1, 2), (1, 255), (1, 255)] := by
  rw [resumeStation_finished (boundPlan_eq hik hk) hk hc (slabOf_names hn) hcut hall hdry,
    if_pos (cutFinished_last hlast)]
  have hready : (((s.cutFinished i k p c p.cutsDone).closePlan i k).station i).state = .ready :=
    closePlan_state (cutFinished_plan ..) i
  have hfields := resumeFields_unsent (by rw [hready]; decide)
  rw [hready] at hfields
  obtain ⟨hcloses, hport, hline⟩ :=
    closePlan_closes (s := s.cutFinished i k p c p.cutsDone) (i := i) (cutFinished_plan ..) hn hrack hl
  exact ⟨closesPlan_finished (by rfl) (by rfl) (by rfl) (by rfl) hcloses, hport, hline, hfields⟩

section Sent

variable (hsn : p.snapshot = some sn) (hx : s.slabOf p.slabTag = some (n, x))
  (hlimit : limit = max sn.entry.minFeed (sn.entry.baseFeed * s.water.factor / 1000))
  (hl : s.plantLine ≠ s.stationLine i) (he : (s.line (s.stationLine i)).enabled = true)
include hsn hx hlimit hl he

/-- A HELD slab, the loaded edge seen: the first ORDER goes out and the slab is CUTTING (R19, R75, R92). -/
theorem resumeStation_restarts (hc : p.cuts[p.cutsDone]? = some c) (hheld : x.state = .held)
    (hload : (s.station i).loadedSinceStaging = true) (hf : s.thresholds.resume ≤ s.water.factor) :
    OrderedAgain s (s.resumeStation i) i k p c x.thickness limit (s.station i).restaged s.plans
      (s.stock.startCutting n x) { s.retention with queue := queueWith s.retention.queue (slabPage n) } := by
  have hloaded : ((s.setStation i (s.station i).restaged).station i).loadedSinceStaging = true := by
    rw [setStation_restaged]
    exact hload
  rw [resumeStation_held (boundPlan_eq hik hk) hx hheld hdry, State.tryStaged, if_pos ⟨hloaded, hf⟩]
  have hfirst := firstOrder_eq hx hheld
  exact orderedAgain rfl hk hik hc hsn hx rfl hlimit hl he (by rw [hfirst]) (by rw [hfirst])

/-- The slab being cut, passes of the current cut to go: its ORDER again (R77, R92). -/
theorem resumeStation_again (hc : p.cuts[p.cutsDone]? = some c) (hcut : x.state = .cutting)
    (hleft : p.passCount ≠ some (s.station i).passesTaken) :
    OrderedAgain s (s.resumeStation i) i k p c x.thickness limit (s.station i) s.plans s.stock s.retention := by
  rw [resumeStation_later (boundPlan_eq hik hk) hx hcut hleft]
  have hfirst := firstOrder_later hx (by rw [hcut]; decide)
  refine orderedAgain ?_ hk hik hc hsn hx hdry hlimit hl he (by rw [hfirst]) (by rw [hfirst])
  rw [State.station, put_slot]

/-- The current cut's passes all taken and cuts remaining: the cut is finished and the next one's ORDER goes out
(R77, R92). -/
theorem resumeStation_next (hc : p.cuts[p.cutsDone]? = some c) (hcut : x.state = .cutting)
    (hall : p.passCount = some (s.station i).passesTaken) (hnext : p.cuts[p.cutsDone + 1]? = some next)
    (hq : q = { p with
      cuts := p.cuts.set p.cutsDone { c with state := .done }, cutsDone := p.cutsDone + 1, passesReported := 0
      touched := true }) :
    OrderedAgain s (s.resumeStation i) i k q next x.thickness limit
      { s.station i with passesTaken := 0, orderOutstanding := false } (put s.plans k (some q)) s.stock
      s.retention := by
  have hmore : p.cutsDone + 1 < p.cuts.length := (List.getElem?_eq_some_iff.mp hnext).1
  have hget : q.cuts[q.cutsDone]? = some next := by
    rw [hq]
    exact (List.getElem?_set_ne (Nat.ne_of_lt (Nat.lt_succ_self p.cutsDone))).trans hnext
  have htag : q.slabTag = p.slabTag := by rw [hq]
  have hsn' : q.snapshot = some sn := by rw [hq]; exact hsn
  rw [resumeStation_finished (boundPlan_eq hik hk) hk hc hx hcut hall hdry, cutFinished_more hmore,
    if_neg Bool.false_ne_true]
  have hfirst := firstOrder_later hx (by rw [hcut]; decide)
  exact orderedAgain (cutFinished_dry hdry hq) (slot_put_same ..) hik hget hsn' (htag ▸ hx) hdry hlimit hl he
    (by rw [htag, hfirst]) (by rw [htag, hfirst])

end Sent

end Taken

end Courses

/-- Settles O28: STOP_STATION state by state, RESUME_STATION check by check and course by course. -/
theorem stationsAreStoppedAndResumed : Obligations.StationsAreStoppedAndResumed := by
  refine ⟨?_, ?_, ?_, ?_⟩
  · intro s echo i hs
    have own (u : State) (y : Station) : (u.setStation i y).station i = y := slot_put_same ..
    refine ⟨fun h => exec_refuse hs rfl rfl (stopStation_refuses h), fun h => ?_, fun h => ?_, fun h => ?_,
      fun h he => ?_⟩
    · exact exec_stopStation hs (by rw [h]; decide) (stop_staged h) (by rw [own]; rfl) (by rw [own]; rfl)
    · have hst : (s.station i).state = .holding ∨ (s.station i).state = .paused := h.imp_right And.left
      exact exec_stopStation hs (by rcases hst with e | e <;> rw [e] <;> decide) (stop_condition h)
        (congrArg (fun y => y.state.code) (own s _)) (congrArg (fun y => y.condition.code) (own s _))
    · have hst : (s.station i).state = .faulted ∨ (s.station i).state = .paused := h.imp_right And.left
      exact exec_stopStation hs (by rcases hst with e | e <;> rw [e] <;> decide) (stop_stays h) rfl rfl
    · exact exec_stopStation hs (by rw [h]; decide) (stop_cutting h he) (by rw [own]; rfl) (by rw [own]; rfl)
  · intro s echo i k p c sn n x b limit order sent l hs hl hpl hst hik hk hc hsn hn hb hsharp hf he hlimit horder hsent
    subst hl hsent
    have hx := slabOf_names hn
    have hdry := dry_of_resumable hst
    have hexec := exec_resumeStation hs (resumable_of_plan hik hst) hb hsharp hf
    refine ⟨fun hheld hload => ?_, fun hheld hload => ?_, fun next hcut hall hnext => ?_,
      fun hcut hrack hall hlast => ?_⟩
    · rw [hexec, resumeStation_stages hik hk hdry hx hheld hload, resumeFields_unsent, setStation_restaged]
      · rfl
      · rw [setStation_restaged]
        nofun
    · have h := resumeStation_restarts hik hk hdry hsn hx hlimit hpl he hc hheld hload hf
      rw [h.fields] at hexec
      refine ⟨_, hexec, ?_, h.lines, h.valves, h.commanded, fun r => ?_, enqueuedOnly_of ?_, ?_⟩
      · rw [horder]
        exact h.ownLine
      · rw [h.eq]
        exact startCutting_rackMap ..
      · rw [h.eq]
        rfl
      · rw [h.eq]
        rfl
    · have h := resumeStation_next hik hk hdry hsn hx hlimit hpl he hc hcut hall hnext rfl
      rw [h.fields] at hexec
      refine ⟨_, hexec, ?_, h.lines, h.valves, h.commanded, ?_⟩
      · rw [horder]
        exact h.ownLine
      · rw [h.eq]
        rfl
    · obtain ⟨hcloses, hport, hline, hfields⟩ := resumeStation_closes hik hk hdry hc hn hcut hrack hall hlast hpl
      rw [hfields] at hexec
      refine ⟨_, hexec, closesPlan_answer hcloses .., ?_, hline⟩
      rw [← hport]
      rfl
  · intro s echo i k p c sn n x b limit hs hpl hst hik hk hc hsn hx hcut hleft hb hsharp hf he hlimit
    have hdry := dry_of_resumable hst
    have hexec := exec_resumeStation hs (resumable_of_plan hik hst) hb hsharp hf
    have h := resumeStation_again hik hk hdry hsn hx hlimit hpl he hc hcut hleft
    rw [h.fields] at hexec
    refine ⟨_, hexec, ?_, fun j hj => ?_, h.ownLine, h.lines, h.valves, fun v => ?_, ?_⟩
    · rw [h.eq]
      exact slot_put_same ..
    · rw [h.eq]
      exact slot_put_ne _ _ hj.symm
    · refine (congrArg (slot · v) h.commanded).trans ?_
      rw [slot_put]
      simp only [eq_comm]
    · rw [h.eq]
      rfl
  · intro s echo i hs
    refine ⟨fun h1 h2 => exec_refuse hs rfl rfl (resumeStation_wrongState fun h => ?_), fun h => ⟨fun hdull => ?_,
      fun hsharp hf => ?_⟩⟩
    · obtain h | ⟨hf, hp, hm⟩ := resumable_iff.mp h
      · exact h1 h
      · exact h2.elim (· hf) (Or.rec (fun e => hp e) fun e => hm.elim e.1 e.2)
    · refine exec_refuse hs rfl rfl ((resumeStation_checked (resumable_iff.mpr h)).trans (if_pos ?_))
      exact fun e => Bool.false_ne_true (hdull.symm.trans e)
    · refine exec_refuse hs rfl rfl ((resumeStation_checked (resumable_iff.mpr h)).trans ?_)
      exact (if_neg (not_not_intro hsharp)).trans (if_pos hf)

end Sys2Proof.Machine

namespace Sys2Proof.Machine

/-! ### The reads of lines, stations and the water loop (R60, R95, R128) -/

section LineReads

/-- The feed limit READ_STATION gives, as R76 computes it; 0 where it is absent (R95). -/
theorem presentFeedLimit_getD (s : State) (i : Fin 4) : (s.presentFeedLimit i).getD 0 =
    if s.water.factor = 0 then 0 else ((s.boundPlan i).map fun x =>
      (x.2.snapshot.map fun y => max y.entry.minFeed (y.entry.baseFeed * s.water.factor / 1000)).getD 0).getD 0 := by
  unfold State.presentFeedLimit
  split <;> rfl

/-- Settles O30: each read answers with the fields of its block, and hands the state back. -/
theorem lineStationAndWaterReadsChangeNothing : Obligations.LineStationAndWaterReadsChangeNothing := by
  refine ⟨fun s echo => ⟨fun l hs => exec_done hs rfl rfl ?_, fun line hline hs => exec_refuse hs rfl rfl ?_⟩,
    fun s echo => ⟨fun i hs => exec_done hs rfl rfl ?_, fun station hi hs => exec_refuse hs rfl rfl ?_⟩,
    fun s echo hs => exec_done hs rfl rfl ?_⟩
  · rw [readLine, index?_val]
    dsimp only
    cases s.userOf l <;> cases (s.line l).transmitter <;> rfl
  · rw [readLine, index?_none.mpr hline]
  · rw [readStation, index?_val, ← presentFeedLimit_getD]
    rfl
  · rw [readStation, index?_none.mpr hi]
  · rfl

end LineReads

end Sys2Proof.Machine

namespace Sys2Proof.Machine

/-! ### The frames of the saws and the plant, read back (R57, R190) -/

section Frames

variable {v : Nat}

/-- One byte of a field that fits it is the field. -/
theorem toNat_byte (h : fits 1 v = true) : (BitVec.ofNat 8 v).toNat = v := by
  rw [BitVec.toNat_ofNat]
  exact Nat.mod_eq_of_lt (of_decide_eq_true h)

theorem leNat_fits {n : Nat} (h : fits n v = true) : leNat (leBytes n v) = v := leNat_leBytes (of_decide_eq_true h)

/-- A lead byte keeps kind, toggle and direction apart (R190). -/
theorem leadByte_fields (toggle direction : Bool) : ∀ kindCode < 16,
    (leadByte kindCode toggle direction).toNat = kindCode + (if toggle then 64 else 0) + (if direction then 128 else 0)
      ∧ (leadByte kindCode toggle direction).toNat % 16 = kindCode
      ∧ (leadByte kindCode toggle direction).getLsbD 6 = toggle
      ∧ (leadByte kindCode toggle direction).getLsbD 7 = direction := by
  cases toggle <;> cases direction <;> decide

theorem kindCode_lt (m : Message) : m.kindCode < 16 := by
  cases m <;> exact of_decide_eq_true rfl

/-- Each kind has its length (11.6.1). -/
theorem payload_length (m : Message) : (m.kindCode, m.payload.length)
    ∈ [(8, 1), (9, 4), (10, 1), (11, 3), (12, 2), (13, 11), (14, 4)] := by
  cases m <;> simp [Message.kindCode, Message.payload, leFields_length, Function.comp_def]

theorem payload_length_lt (m : Message) : m.payload.length < 256 := by
  have := payload_length m
  simp only [List.mem_cons, Prod.mk.injEq, List.not_mem_nil, or_false] at this
  omega

theorem ofPayload_levels {r : LevelsReport} (h : r.fitsWire = true) :
    Message.ofPayload 13 (Message.levels r).payload = some (.levels r) := by
  simp only [LevelsReport.fitsWire, Bool.and_eq_true, Vector.all_eq_true] at h
  obtain ⟨⟨⟨hclear, hsettling⟩, hmeter⟩, hdraw⟩ := h
  have draws (i : Fin 4) : (BitVec.ofNat 8 (slot r.draw i)).toNat = slot r.draw i := toNat_byte (hdraw i.val i.isLt)
  have drawn : #v[slot r.draw 0, slot r.draw 1, slot r.draw 2, slot r.draw 3] = r.draw :=
    slot_ext fun i => by fin_cases i <;> rfl
  have bytes : (Message.levels r).payload = leBytes 2 r.clear ++ (leBytes 2 r.settling ++ (leBytes 2 r.meter ++
      [BitVec.ofNat 8 (slot r.draw 0), BitVec.ofNat 8 (slot r.draw 1), BitVec.ofNat 8 (slot r.draw 2),
        BitVec.ofNat 8 (slot r.draw 3), r.valves])) := by
    rw [Message.payload, toList_eq_map]
    rfl
  have read : Message.ofPayload 13 (Message.levels r).payload
      = some (.levels ⟨leNat (leBytes 2 r.clear), leNat (leBytes 2 r.settling), leNat (leBytes 2 r.meter),
        #v[(BitVec.ofNat 8 (slot r.draw 0)).toNat, (BitVec.ofNat 8 (slot r.draw 1)).toNat,
          (BitVec.ofNat 8 (slot r.draw 2)).toNat, (BitVec.ofNat 8 (slot r.draw 3)).toNat], r.valves⟩) := by
    rw [bytes]
    rfl
  rw [read, leNat_fits hclear, leNat_fits hsettling, leNat_fits hmeter, draws, draws, draws, draws, drawn]

/-- The payload of a message that fits the wire spells that message (11.6.1). -/
theorem ofPayload_payload {m : Message} (h : m.fitsWire = true) : Message.ofPayload m.kindCode m.payload = some m := by
  cases m with
  | accept cut | finish cut =>
    exact congrArg some (congrArg _ (toNat_byte h))
  | pass cut passIndex seconds =>
    simp only [Message.fitsWire, Bool.and_eq_true] at h
    obtain ⟨⟨hcut, hindex⟩, hseconds⟩ := h
    have read : Message.ofPayload 9 (Message.pass cut passIndex seconds).payload
        = some (.pass (BitVec.ofNat 8 cut).toNat (BitVec.ofNat 8 passIndex).toNat (leNat (leBytes 2 seconds))) := rfl
    exact read.trans (by rw [toNat_byte hcut, toNat_byte hindex, leNat_fits hseconds])
  | state mode table passesDone =>
    simp only [Message.fitsWire, Bool.and_eq_true] at h
    obtain ⟨⟨hmode, htable⟩, hdone⟩ := h
    have read : Message.ofPayload 11 (Message.state mode table passesDone).payload
        = some (.state (BitVec.ofNat 8 mode).toNat (BitVec.ofNat 8 table).toNat
          (BitVec.ofNat 8 passesDone).toNat) := rfl
    exact read.trans (by rw [toNat_byte hmode, toNat_byte htable, toNat_byte hdone])
  | fault code cut =>
    simp only [Message.fitsWire, Bool.and_eq_true] at h
    obtain ⟨hcode, hcut⟩ := h
    have read : Message.ofPayload 12 (Message.fault code cut).payload
        = some (.fault (BitVec.ofNat 8 code).toNat (BitVec.ofNat 8 cut).toNat) := rfl
    exact read.trans (by rw [toNat_byte hcode, toNat_byte hcut])
  | levels r => exact ofPayload_levels h
  | pressState report cake =>
    simp only [Message.fitsWire, Bool.and_eq_true] at h
    obtain ⟨hreport, hcake⟩ := h
    have read : Message.ofPayload 14 (Message.pressState report cake).payload
        = some (.pressState (BitVec.ofNat 8 report).toNat (leNat (leBytes 3 cake))) := rfl
    exact read.trans (by rw [toNat_byte hreport, leNat_fits hcake])

/-- A frame byte by byte: lead, length, payload, check (R190). -/
theorem lineFrame_eq (kindCode : Nat) (toggle direction : Bool) (payload : List Byte) : ∃ check,
    lineFrame kindCode toggle direction payload
      = leadByte kindCode toggle direction :: BitVec.ofNat 8 payload.length :: (payload ++ [check]) := ⟨_, rfl⟩

/-- Settles O15: the sum, the direction bit and the length pass, and kind and payload spell the message. -/
theorem stationLineFramesRoundTrip : Obligations.StationLineFramesRoundTrip := by
  intro m toggle h
  obtain ⟨check, hframe⟩ := lineFrame_eq m.kindCode toggle false m.payload
  obtain ⟨-, hkind, htoggle, hdirection⟩ := leadByte_fields toggle false m.kindCode (kindCode_lt m)
  have hsum : byteSum (m.frame toggle) = 0 := byteSum_withCheck _
  have hlen : (BitVec.ofNat 8 m.payload.length).toNat + 1 = (m.payload ++ [check]).length := by
    rw [BitVec.toNat_ofNat, Nat.mod_eq_of_lt (payload_length_lt m), List.length_append, List.length_singleton]
  rw [Message.frame] at hsum ⊢
  rw [hframe] at hsum ⊢
  refine (if_pos ⟨hsum, hdirection, hlen⟩).trans ?_
  rw [hkind, List.dropLast_concat, ofPayload_payload h, htoggle]
  rfl

end Frames

end Sys2Proof.Machine

namespace Sys2Proof.Machine

/-! ### MAP_LINES (R64, R175) -/

section Mapping

variable {s : State} {lines : Vector Nat 5} {m : Vector (Fin 5) 5}

/-- A map is made of line numbers 0 to 4, no two the same (R64). -/
theorem newLineMap_none (h : ¬((∀ n ∈ lines.toList, n ≤ 4) ∧ lines.toList.Nodup)) :
    newLineMap lines = none := by
  unfold newLineMap
  split
  · next hlt =>
    refine if_neg fun hnodup => h ⟨fun n hn => ?_, hnodup⟩
    rw [toList_eq_map] at hn
    obtain ⟨i, -, rfl⟩ := List.mem_map.mp hn
    exact Nat.lt_succ_iff.mp (hlt i)
  · rfl

theorem newLineMap_some (hm : m.toList.Nodup) : newLineMap (m.map (·.val)) = some m := by
  have below (i : Fin 5) : slot (m.map (·.val)) i < 5 := by
    rw [slot_map]
    exact (slot m i).isLt
  have nodup : (m.map (·.val)).toList.Nodup := by
    rw [Vector.toList_map]
    exact hm.map Fin.val_injective
  rw [newLineMap, dif_pos below, if_pos nodup]
  refine congrArg some (slot_ext fun i => ?_)
  rw [slot_ofFn]
  exact Fin.ext (congrArg id (slot_map m _ i))

/-- Each user keeps its line or is DETACHED, user by user (R64). -/
theorem usersRemappable_iff (s : State) (m : Vector (Fin 5) 5) :
    (List.finRange 5).all (fun u => slot m u == slot s.lineMap u || s.userDetached u) = true
      ↔ (∀ i : Fin 4, slot m i.castSucc = s.stationLine i ∨ (s.station i).state = .detached)
        ∧ (slot m 4 = s.plantLine ∨ s.water.link = .detached) := by
  have station (i : Fin 4) : s.userDetached i.castSucc = decide ((s.station i).state = .detached) := by
    have user : User.ofIndex i.castSucc = .station i := dif_pos i.isLt
    rw [State.userDetached, user]
  have plant : s.userDetached (Fin.last 4) = decide (s.water.link = .detached) := rfl
  simp only [List.all_eq_true, List.mem_finRange, true_implies, Bool.or_eq_true, beq_iff_eq]
  rw [Fin.forall_fin_succ']
  simp only [station, plant, decide_eq_true_eq]
  rfl

theorem mapLines_eq (hm : m.toList.Nodup) : mapLines (m.map (·.val)) s =
    if (∀ i : Fin 4, slot m i.castSucc = s.stationLine i ∨ (s.station i).state = .detached)
        ∧ (slot m 4 = s.plantLine ∨ s.water.link = .detached) then
      done (if m = s.lineMap then s else ({ s with lineMap := m } : State).enqueue settingsPage)
        (leFields (m.toList.map fun l => (1, l.val)))
    else refuse .wrongState := by
  rw [mapLines, newLineMap_some hm]
  exact if_congr (usersRemappable_iff s m) rfl rfl

/-- Settles O12: the map is checked, then its users; a new one replaces the old and enqueues the settings page. -/
theorem mapLinesReplacesTheMapOfDetachedUsers : Obligations.MapLinesReplacesTheMapOfDetachedUsers := by
  intro s echo lines hs
  refine ⟨fun h => exec_refuse hs rfl rfl (by rw [mapLines, newLineMap_none h]), fun m hlines hm => ?_⟩
  subst hlines
  refine ⟨fun h => exec_refuse hs rfl rfl ((mapLines_eq hm).trans (if_neg ?_)), fun hstations hplant => ?_⟩
  · rintro ⟨hstations, hplant⟩
    obtain ⟨i, hline, hstate⟩ | ⟨hline, hlink⟩ := h
    · exact (hstations i).elim hline hstate
    · exact hplant.elim hline hlink
  · have fields : leFields (m.toList.map fun l => (1, l.val))
        = leFields ((m.map (·.val)).toList.map fun n => (1, n)) := by
      rw [Vector.toList_map, List.map_map]
      rfl
    refine ⟨_, exec_done hs rfl rfl ((mapLines_eq hm).trans (if_pos ⟨hstations, hplant⟩)), ?_, ?_⟩
    · split
      · exact enqueuedOnly_of rfl
      · exact enqueuedOnly_of rfl
    · rw [← fields]
      split
      · next h =>
        subst h
        rfl
      · rfl

end Mapping

end Sys2Proof.Machine

namespace Sys2Proof.Machine

/-! ### ATTACH_STATION and DETACH_STATION (R50, R71, R73) -/

section Attaching

variable {s : State} {i : Fin 4}

theorem attachStation_refuses (h : (s.station i).state ≠ .detached) :
    attachStation i.val s = refuse .wrongState := by
  rw [attachStation, index?_val]
  exact if_pos h

/-- The record of a station as it is attached (R71). -/
def Station.attached (st : Station) (timeout : Nat) : Station :=
  { st with
    state := .listening, tableLoaded := false, loadedSinceStaging := false, sawMode := none, sawPassesDone := 0
    faultCode := none, condition := .none, progressCount := 0, replyTimer := some timeout }

/-- A line just enabled, with frames waiting (R50, R51, R71, R110). -/
def State.freshLine (s : State) (l : Fin 5) (frames : List TxFrame) : Line where
  enabled := true
  divisor := slot s.settings.rateDivisor l
  receiver := .startSearch
  onesSeen := 0
  breakRun := false
  inBreak := false
  assembler := .settling
  gap := .running
  badCount := 0
  queue := frames
  transmitter := .openingIdle
  takenFrames := 0
  badFrames := 0
  noisyFrames := 0
  staleReports := 0

theorem enableLine_eq (s : State) (l : Fin 5) : s.enableLine l = s.setLine l (s.freshLine l []) := rfl

/-- A DETACHED station is attached: its line enabled, its record fresh but for the toggle, a QUERY waiting (R71). -/
theorem attachStation_attaches (h : (s.station i).state = .detached) : attachStation i.val s =
    done ((s.setLine (s.stationLine i)
        (s.freshLine (s.stationLine i) [{ toggle := (s.station i).toggle, message := .query }])).setStation i
      ((s.station i).attached s.settings.replyTimeout)) (leBytes 1 (s.stationLine i).val) := by
  have handed (u : State) (y : Station) (x : Line) (hx : x.enabled = true) (hq : x.queue = []) :
      ((u.setLine (u.stationLine i) x).setStation i y).handSaw i .query
        = (u.setLine (u.stationLine i)
          { x with queue := [{ toggle := y.toggle, message := .query }] }).setStation i y := by
    have own : ((u.setLine (u.stationLine i) x).setStation i y).station i = y := slot_put_same ..
    have line : ((u.setLine (u.stationLine i) x).setStation i y).line (u.stationLine i) = x := slot_put_same ..
    rw [State.handSaw, handFrame_eq, own]
    refine (congrArg _ (congrArg (Line.handed · _) line)).trans ?_
    rw [handed_enabled hx, hq]
    simp only [State.setLine, State.setStation, put_put_same, State.stationLine]
    rfl
  rw [attachStation, index?_val]
  refine (if_neg (not_not_intro h)).trans (congrArg (done · _) ?_)
  rw [enableLine_eq, enterState_own (by rw [h]; rfl)]
  exact handed s _ _ rfl rfl

theorem detachStation_refuses (h : (s.station i).state = .detached ∨ (s.station i).plan ≠ none) :
    detachStation i.val s = refuse .wrongState := by
  rw [detachStation, index?_val]
  exact if_pos (h.imp_right Option.ne_none_iff_isSome.mp)

/-- A line disabled: what it holds is as after a reset, but for the divisor and the counters (R50). -/
def Line.disabled (x : Line) : Line :=
  { x with
    enabled := false, receiver := .startSearch, onesSeen := 0, breakRun := false, inBreak := false
    assembler := .settling, gap := .expired, badCount := 0, queue := [], transmitter := .off }

theorem disableLine_eq (s : State) (l : Fin 5) : s.disableLine l = s.setLine l (s.line l).disabled := rfl

/-- An attached station without a plan is detached (R73). -/
theorem detachStation_detaches (h : (s.station i).state ≠ .detached) (hdry : (s.station i).state.wet = false)
    (hp : (s.station i).plan = none) : detachStation i.val s =
    done ((s.setLine (s.stationLine i) (s.line (s.stationLine i)).disabled).setStation i
      { Station.afterReset with toggle := (s.station i).toggle }) [] := by
  have stays : ¬((s.station i).state = .detached ∨ (s.station i).plan.isSome = true) := by
    rw [hp]
    exact fun e => e.elim h Bool.false_ne_true
  rw [detachStation, index?_val]
  refine (if_neg stays).trans (congrArg (done · _) ?_)
  have dry : ((s.disableLine (s.stationLine i)).station i).state.wet = StationState.wet .detached := hdry
  rw [enterState_eq, if_pos dry, disableLine_eq]
  simp only [State.setStation, put_put_same]

/-- Settles O18: each request is refused by the station's state, or leaves its line and its record as R71 and R73
say. -/
theorem stationsAreAttachedAndDetached : Obligations.StationsAreAttachedAndDetached := by
  refine ⟨fun s echo i hs => ⟨fun h => exec_refuse hs rfl rfl (attachStation_refuses h),
    fun h => exec_done hs rfl rfl (attachStation_attaches h)⟩, fun s echo i hs => ⟨fun h hdry hp => ?_,
    fun h => exec_refuse hs rfl rfl (detachStation_refuses h)⟩⟩
  rw [reset_station]
  exact exec_done hs rfl rfl (detachStation_detaches h hdry hp)

end Attaching

end Sys2Proof.Machine

namespace Sys2Proof.Machine

/-! ### The transmit queue (R62, R63) -/

section TransmitQueue

variable {s : State} {l : Fin 5} {q before after : List TxFrame} {f old : TxFrame}

/-- A frame that is no HOLD takes the place of the frame of its kind, else the tail (R62). -/
theorem queueFrame_of_ne_hold (h : f.message ≠ .hold) : queueFrame q f =
    if q.any (fun g => g.message.kindCode == f.message.kindCode) then
      q.map (fun g => if g.message.kindCode = f.message.kindCode then f else g)
    else q ++ [f] := by
  unfold queueFrame
  split
  · next e => exact absurd e h
  · rfl

theorem queueFrame_hold (h : f.message = .hold) :
    queueFrame q f = f :: q.filter (fun g => !g.message.withdrawable && g.message.kindCode != 2) := by
  rw [queueFrame, h]

theorem queueFrame_joins (h : f.message ≠ .hold) (hq : ∀ g ∈ q, g.message.kindCode ≠ f.message.kindCode) :
    queueFrame q f = q ++ [f] := by
  rw [queueFrame_of_ne_hold h, if_neg]
  rw [List.any_eq_true]
  rintro ⟨g, hg, e⟩
  exact hq g hg (beq_iff_eq.mp e)

theorem queueFrame_replaces (h : f.message ≠ .hold) (he : old.message.kindCode = f.message.kindCode)
    (hq : ((before ++ old :: after).map fun g => g.message.kindCode).Nodup) :
    queueFrame (before ++ old :: after) f = before ++ f :: after := by
  have waits : (before ++ old :: after).any (fun g => g.message.kindCode == f.message.kindCode) = true :=
    List.any_eq_true.mpr ⟨old, by simp, by rw [he, beq_self_eq_true]⟩
  have stays (xs : List TxFrame) (hx : ∀ g ∈ xs, g.message.kindCode ≠ old.message.kindCode) :
      xs.map (fun g => if g.message.kindCode = f.message.kindCode then f else g) = xs :=
    (List.map_congr_left fun g hg => if_neg (he ▸ hx g hg)).trans (List.map_id xs)
  rw [List.map_append, List.map_cons, List.nodup_middle, List.nodup_cons] at hq
  obtain ⟨hold, -⟩ := hq
  have other (g : TxFrame) (hg : g ∈ before ∨ g ∈ after) : g.message.kindCode ≠ old.message.kindCode := by
    intro e
    rw [← e] at hold
    refine hold (List.mem_append.mpr ?_)
    exact hg.imp (List.mem_map_of_mem (f := fun g : TxFrame => g.message.kindCode))
      (List.mem_map_of_mem (f := fun g : TxFrame => g.message.kindCode))
  rw [queueFrame_of_ne_hold h, if_pos waits, List.map_append, List.map_cons, if_pos he,
    stays before fun g hg => other g (.inl hg), stays after fun g hg => other g (.inr hg)]

/-- What a HOLD leaves in the queue: all but HOLD, ORDER and FEED (R63). -/
theorem staysBehindHold_iff (m : TxMessage) : (!m.withdrawable && m.kindCode != 2) = true
    ↔ m ≠ .hold ∧ (∀ o, m ≠ .order o) ∧ ∀ v, m ≠ .feed v := by
  cases m <;> simp [TxMessage.withdrawable, TxMessage.kindCode]

theorem handFrame_enabled (h : (s.line l).enabled = true) :
    s.handFrame l f = s.setLine l { s.line l with queue := queueFrame (s.line l).queue f } := if_pos h

end TransmitQueue

/-! ### The transmitter and its pin (R51, R61, R190) -/

section TransmitPin

variable {s : State} {l : Fin 5} {f : TxFrame}

theorem byteSum_eq_sum (bs : List Byte) : byteSum bs = bs.sum := by
  induction bs with
  | nil => rfl
  | cons b bs ih =>
    have head : byteSum [b] = b := BitVec.zero_add b
    rw [List.sum_cons, ← ih, ← List.singleton_append, byteSum_append, head]

theorem TxMessage.kindCode_lt (m : TxMessage) : m.kindCode < 16 := by
  cases m <;> exact of_decide_eq_true rfl

/-- Blocks of one length follow one another. -/
theorem getElem?_flatMap_block {α β : Type} {xs : List α} {f : α → List β} {w j k : Nat} {x : α}
    (hw : ∀ x ∈ xs, (f x).length = w) (hx : xs[j]? = some x) (hk : k < w) :
    (xs.flatMap f)[w * j + k]? = (f x)[k]? := by
  induction xs generalizing j with
  | nil => cases hx
  | cons y ys ih =>
    have len : (f y).length = w := hw y (List.mem_cons_self ..)
    rw [List.flatMap_cons]
    cases j with
    | zero =>
      cases hx
      rw [Nat.mul_zero, Nat.zero_add]
      exact List.getElem?_append_left (by rwa [len])
    | succ j =>
      have behind : w * (j + 1) + k = (f y).length + (w * j + k) := by rw [len, Nat.mul_succ]; omega
      rw [behind, List.getElem?_append_right (Nat.le_add_right ..), Nat.add_sub_cancel_left]
      exact ih (fun x hx => hw x (List.mem_cons_of_mem _ hx)) hx

/-- Characters follow one another, ten bit times each (R51, R61). -/
theorem levels_getElem? (bs : List Byte) {j k : Nat} {b : Byte} (hb : bs[j]? = some b) (hk : k < 10) :
    (bs.flatMap characterLevels)[10 * j + k]? = (characterLevels b)[k]? :=
  getElem?_flatMap_block (fun b _ => characterLevels_length b) hb hk

theorem levels_length (bs : List Byte) : (bs.flatMap characterLevels).length = 10 * bs.length := by
  simp [List.length_flatMap, Nat.mul_comm]

/-- Without a frame on the wire the transmitter sends 1 (R61). -/
theorem transmitPin_idle (h : (s.line l).enabled = true) (hf : ∀ f, (s.line l).transmitter ≠ .sending f)
    (bit : Nat) : s.transmitPin l bit = some true := by
  have ones (n : Nat) : ((List.replicate n true)[bit]?).getD true = true := by
    rw [List.getElem?_replicate]
    split <;> rfl
  rw [State.transmitPin, if_pos h]
  cases ht : (s.line l).transmitter with
  | off => rfl
  | openingIdle => exact congrArg some (ones 10)
  | separatingIdle => exact congrArg some (ones 20)
  | sending f => exact absurd ht (hf f)

theorem transmitPin_sending (h : (s.line l).enabled = true) (ht : (s.line l).transmitter = .sending f) (bit : Nat) :
    s.transmitPin l bit = some (((f.bytes.flatMap characterLevels)[bit]?).getD true) := by
  rw [State.transmitPin, if_pos h, ht]
  rfl

/-- A character on the wire: start bit, eight data bits LSB first, stop bit (R51). -/
theorem transmitPin_character (h : (s.line l).enabled = true) (ht : (s.line l).transmitter = .sending f) {j : Nat}
    {b : Byte} (hb : f.bytes[j]? = some b) :
    s.transmitPin l (10 * j) = some false
      ∧ (∀ k, k < 8 → s.transmitPin l (10 * j + 1 + k) = some (b.getLsbD k))
      ∧ s.transmitPin l (10 * j + 9) = some true := by
  have at' {k : Nat} (hk : k < 10) : s.transmitPin l (10 * j + k) = some (((characterLevels b)[k]?).getD true) := by
    rw [transmitPin_sending h ht, levels_getElem? _ hb hk]
  refine ⟨at' (k := 0) (by decide), fun k hk => ?_, at' (by decide)⟩
  have data : (characterLevels b)[1 + k]? = some (b.getLsbD k) := by
    interval_cases k <;> rfl
  rw [Nat.add_assoc, at' (by omega), data]
  rfl

/-- The bytes of a frame on the wire (R190). -/
theorem txBytes (f : TxFrame) : ∃ lead check,
    f.bytes = lead :: BitVec.ofNat 8 f.message.payload.length :: f.message.payload ++ [check]
      ∧ lead.toNat = f.message.kindCode + (if f.toggle then 64 else 0) + 128 ∧ f.bytes.sum = 0 := by
  obtain ⟨check, hframe⟩ := lineFrame_eq f.message.kindCode f.toggle true f.message.payload
  refine ⟨_, check, hframe, (leadByte_fields f.toggle true _ f.message.kindCode_lt).1, ?_⟩
  rw [← byteSum_eq_sum]
  exact byteSum_withCheck _

/-- The free transmitter takes the head of the queue (R61). -/
theorem transmitStart_takes {rest : List TxFrame} (hq : (s.line l).queue = f :: rest)
    (ht : (s.line l).transmitter = .openingIdle ∨ (s.line l).transmitter = .separatingIdle) :
    s.transmitStart l = s.setLine l { s.line l with transmitter := .sending f, queue := rest } := by
  rw [State.transmitStart, hq]
  obtain ht | ht := ht <;> rw [ht]

theorem transmitStart_waits (h : (∃ f, (s.line l).transmitter = .sending f) ∨ (s.line l).transmitter = .off
    ∨ (s.line l).queue = []) : s.transmitStart l = s := by
  unfold State.transmitStart
  dsimp only
  split
  · next ht hq => simp [ht, hq] at h
  · next ht hq => simp [ht, hq] at h
  · rfl

/-- What the sent event starts at a station (R85). -/
theorem tellSent_eq (s : State) (i : Fin 4) (f : TxFrame) : s.tellSent i f =
    if f.message.isOrder = true ∧ (s.station i).state = .cutting
          ∧ (s.station i).orderOutstanding = true ∧ f.toggle = (s.station i).toggle
        ∨ f.message = .hold ∧ (s.station i).state = .holding then
      s.setStation i { s.station i with replyTimer := some s.settings.replyTimeout }
    else s := by
  unfold State.tellSent
  cases hm : f.message with
  | order o => simp only [TxMessage.isOrder, true_and, reduceCtorEq, false_and, or_false]; rfl
  | hold => simp only [TxMessage.isOrder, Bool.false_eq_true, true_and, false_and, false_or]; rfl
  | feed v => simp [TxMessage.isOrder]
  | query => simp [TxMessage.isOrder]
  | valves v => simp [TxMessage.isOrder]
  | press => simp [TxMessage.isOrder]

theorem frameSent_station {i : Fin 4} (ht : (s.line l).transmitter = .sending f) (hu : s.userOf l = .station i) :
    s.frameSent l = (s.setLine l { s.line l with transmitter := .separatingIdle }).tellSent i f := by
  simp only [State.frameSent, ht, hu]

theorem frameSent_plant (ht : (s.line l).transmitter = .sending f) (hu : s.userOf l = .plant) :
    s.frameSent l = s.setLine l { s.line l with transmitter := .separatingIdle } := by
  simp only [State.frameSent, ht, hu]

/-- Settles O13: the queue by `queueFrame`, the transmitter by its states, the pin by the levels it sends. -/
theorem transmitQueueAndTransmitter : Obligations.TransmitQueueAndTransmitter := by
  refine ⟨fun s l f he => ⟨fun before old after hq hm hk hl => ?_, fun hm hq => ?_, fun hm => ?_⟩,
    fun s l f he => if_neg (by rw [he]; exact Bool.false_ne_true),
    fun s l => ⟨fun f rest ht hq => congrArg _ (transmitStart_takes hq ht),
      fun h => congrArg _ (transmitStart_waits h)⟩,
    fun s l => ⟨rfl, fun he => ⟨fun hf bit => transmitPin_idle he hf bit, fun f ht => ?_⟩⟩,
    fun s l f ht => ⟨fun i hu => ?_, fun hu => ?_⟩⟩
  · obtain ⟨hnodup, -⟩ := hl l
    rw [hq] at hnodup
    rw [handFrame_enabled he, hq, queueFrame_replaces hm hk hnodup]
  · rw [handFrame_enabled he, queueFrame_joins hm hq]
  · refine ⟨_, (handFrame_enabled he).trans (by rw [queueFrame_hold hm]), List.filter_sublist, fun g => ?_⟩
    rw [List.mem_filter, staysBehindHold_iff]
  · obtain ⟨lead, check, hbytes, hlead, hsum⟩ := txBytes f
    refine ⟨lead, check, f.bytes, hbytes, hlead, hsum, fun j b hb => transmitPin_character he ht hb,
      fun bit hbit => ?_⟩
    rw [transmitPin_sending he ht, List.getElem?_eq_none (by rwa [levels_length])]
    rfl
  · exact congrArg _ ((frameSent_station ht hu).trans (tellSent_eq ..))
  · exact congrArg _ (frameSent_plant ht hu)

end TransmitPin

end Sys2Proof.Machine

namespace Sys2Proof.Machine

/-! ### A station that stops, and bad frames at the limit (R59, R70, R90) -/

section Faulting

variable {s t u : State} {i : Fin 4} {l : Fin 5} {x y : Station} {c : Condition} {new : StationState} {src : Fin 24}
  {d : Detail}

/-- A dry state entered with a notice: supply valve, plant's line and notice as `stopsAt` says, no other line touched
(R69, R70, R123). -/
theorem enterDry_stops (hy : y.state = (s.station i).state) (hnew : new.wet = false)
    (ht : t = ((s.setStation i y).enterState i new).raise src d) :
    s.stopsAt t i { y with state := new } src d ∧ ∀ j, j ≠ s.plantLine → t.line j = s.line j := by
  subst ht
  cases hwet : (s.station i).state.wet with
  | false =>
    rw [enterState_own (by rw [hy, hwet, hnew])]
    refine ⟨⟨rfl, rfl, ?_, ?_, fun _ _ _ _ => rfl, fun _ _ => ?_, rfl⟩, fun _ _ => rfl⟩
    · rw [hwet]; rfl
    · rw [hwet]; rfl
    · have same : ((s.setStation i { y with state := new }).raise src d).water.commanded = s.water.commanded := rfl
      rw [State.valvesSent, same, if_neg fun h => h.1 rfl]
      rfl
  | true =>
    have closes : (s.setStation i y).enterState i new
        = (s.setStation i { y with state := new }).commandValve (supplyValve i) false := by
      have own : (s.setStation i y).station i = y := slot_put_same ..
      rw [enterState_eq, own, if_neg (by rw [hy, hwet, hnew]; decide), hnew]
      simp only [State.setStation, put_put_same]
    rw [closes, commandValve_eq, plantLineTold_eq]
    refine ⟨⟨rfl, rfl, ?_, ?_, fun j _ _ hp => slot_put_ne _ _ hp.symm, fun _ _ => slot_put_same .., rfl⟩,
      fun j hp => slot_put_ne _ _ hp.symm⟩
    · rw [hwet]; rfl
    · rw [hwet]; rfl

/-- The cut a notice names follows from the station's plan (R70). -/
theorem currentCutNumber_congr (hplans : t.plans = s.plans) (hplan : (t.station i).plan = (s.station i).plan) :
    t.currentCutNumber i = s.currentCutNumber i := by
  simp only [State.currentCutNumber, State.boundPlan, State.plan, hplan, hplans]

theorem raiseStop_halt (hc : (s.station i).condition = c) (he : c ≠ .estop) (hh : c ≠ .hostStop) :
    s.raiseStop i = s.raiseHalt i c := by
  unfold State.raiseStop
  dsimp only
  split
  · next h => exact absurd (hc.symm.trans h) he
  · next h => exact absurd (hc.symm.trans h) hh
  · rw [hc]

theorem raiseStop_estop (hc : (s.station i).condition = .estop) : s.raiseStop i
    = s.raise (estopSource i) (.estop (s.station i).state (s.station i).plan (s.currentCutNumber i)) := by
  unfold State.raiseStop
  dsimp only
  rw [hc]

/-- The station a fault leaves (R70). -/
def Station.faulted (st : Station) (c : Condition) : Station :=
  { st.stopTimers with state := .faulted, condition := c }

/-- A fault stops the station with the notice of its condition, whichever notice that is (R70). -/
theorem faultStation_stops (hy : y.state = (s.station i).state) (hplan : y.plan = (s.station i).plan)
    (hraise : ∀ u : State, u.station i = y.faulted c → u.currentCutNumber i = s.currentCutNumber i →
      u.raiseStop i = u.raise src d) (ht : t = (s.setStation i y).faultStation i c) :
    s.stopsAt t i (y.faulted c) src d ∧ ∀ j, j ≠ s.plantLine → t.line j = s.line j := by
  obtain ⟨z, hz⟩ : ∃ z : Station, z = { y.stopTimers with condition := c } := ⟨_, rfl⟩
  have own (w : Station) : (s.setStation i w).station i = w := slot_put_same ..
  have stop : t = ((s.setStation i z).enterState i .faulted).raiseStop i := by
    rw [ht, State.faultStation, own, hz]
    simp only [State.setStation, put_put_same]
  have station : ((s.setStation i z).enterState i .faulted).station i = y.faulted c := by
    rw [enterState_station, if_pos rfl, own, hz]
    rfl
  have cut : ((s.setStation i z).enterState i .faulted).currentCutNumber i = s.currentCutNumber i :=
    currentCutNumber_congr (enterState_plans ..) (by rw [station]; exact hplan)
  rw [hraise _ station cut] at stop
  have hstops := enterDry_stops (y := z) (by rw [hz]; exact hy) rfl stop
  rw [hz] at hstops
  exact hstops

/-- A fault that HALT tells (R70, R183). -/
theorem faultStation_halts (hy : y.state = (s.station i).state) (hplan : y.plan = (s.station i).plan)
    (he : c ≠ .estop) (hh : c ≠ .hostStop) (ht : t = (s.setStation i y).faultStation i c) :
    s.stopsAt t i (y.faulted c) (haltSource i) (.halt c .faulted (if c = .sawFault then y.faultCode else none)
        y.plan (s.currentCutNumber i) (if c = .sawFault then some y.faultCut else none))
      ∧ ∀ j, j ≠ s.plantLine → t.line j = s.line j := by
  refine faultStation_stops hy hplan (fun u hu hcut => ?_) ht
  rw [raiseStop_halt (by rw [hu]; rfl) he hh, State.raiseHalt, hu, hcut]
  rfl

/-- The emergency stop (R70, R89). -/
theorem faultStation_estops (hy : y.state = (s.station i).state) (hplan : y.plan = (s.station i).plan)
    (ht : t = (s.setStation i y).faultStation i .estop) :
    s.stopsAt t i (y.faulted .estop) (estopSource i) (.estop .faulted y.plan (s.currentCutNumber i))
      ∧ ∀ j, j ≠ s.plantLine → t.line j = s.line j := by
  refine faultStation_stops hy hplan (fun u hu hcut => ?_) ht
  rw [raiseStop_estop (by rw [hu]; rfl), hu, hcut]
  rfl

/-- A failed link faults the station and hands its line a QUERY (R90). -/
theorem linkFault_stops (hl : s.stationLine i = l) (hp : s.plantLine ≠ l) (he : c ≠ .estop) (hh : c ≠ .hostStop)
    (hf : c ≠ .sawFault) : s.stopsAt (s.linkFault i c) i
        { (s.station i).stopTimers with state := .faulted, condition := c, sawMode := none }
        (haltSource i) (.halt c .faulted none (s.station i).plan (s.currentCutNumber i) none)
      ∧ (s.linkFault i c).line l
        = (s.line l).handed { toggle := (s.station i).toggle, message := .query } := by
  obtain ⟨u, hu⟩ : ∃ u, u = (s.setStation i { s.station i with sawMode := none }).faultStation i c := ⟨_, rfl⟩
  obtain ⟨hstops, hlines⟩ := faultStation_halts (y := { s.station i with sawMode := none }) rfl rfl he hh hu
  rw [if_neg hf, if_neg hf] at hstops
  obtain ⟨hstations, -, -, -, -, -, hrest⟩ := id hstops
  have htoggle : (u.station i).toggle = (s.station i).toggle := by
    rw [State.station, hstations, slot_put_same]
    rfl
  have hline : u.stationLine i = l := by
    rw [hrest]
    exact hl
  have hquery : s.linkFault i c
      = u.setLine l ((s.line l).handed { toggle := (s.station i).toggle, message := .query }) := by
    have : s.linkFault i c = u.handSaw i .query := by
      rw [hu]
      rfl
    rw [this, State.handSaw, handFrame_eq, hline, hlines l hp.symm, htoggle]
  rw [hquery]
  exact ⟨stopsAt_setLine hstops hl _, slot_put_same ..⟩

end Faulting

/-! ### LINE_NOISE and the bad-frame count (R59, R60, R90, R113) -/

section BadFrames

variable {s t : State} {i : Fin 4} {l : Fin 5} {x y : Line}

/-- LINE_NOISE at a station by its state (R90). -/
theorem stationNoise_cases (s : State) (i : Fin 4) :
    ((s.station i).state = .detached → s.stationNoise i = s)
    ∧ ((s.station i).state.wet = true → s.stationNoise i = s.linkFault i .lineNoise)
    ∧ ((s.station i).state ≠ .detached → (s.station i).state.wet = false →
      s.stationNoise i = s.raiseHalt i .lineNoise) := by
  unfold State.stationNoise
  cases (s.station i).state <;> simp [StationState.wet]

theorem tellNoise_station (hu : s.userOf l = .station i) : s.tellNoise l = s.stationNoise i := by
  rw [State.tellNoise, hu]

theorem tellNoise_plant (hu : s.userOf l = .plant) :
    s.tellNoise l = if s.water.link = .detached then s else s.raisePlant .lineNoise none := by
  rw [State.tellNoise, hu]

/-- What the line's user does is what the statements say of LINE_NOISE. -/
theorem tellNoise_told (s : State) (l : Fin 5) : s.noiseTold (s.tellNoise l) l := by
  refine ⟨fun i hu => ?_, tellNoise_plant⟩
  rw [tellNoise_station hu]
  obtain ⟨detached, wet, dry⟩ := stationNoise_cases s i
  refine ⟨detached, fun hwet hl hp => ?_, fun hd hdry => ?_⟩
  · rw [wet hwet]
    exact linkFault_stops hl hp (by decide) (by decide) (by decide)
  · rw [dry hd hdry]
    rfl

theorem setLine_setLine (s : State) (l : Fin 5) (x y : Line) : (s.setLine l x).setLine l y = s.setLine l y := by
  simp only [State.setLine, put_put_same]

theorem line_setLine_same (s : State) (l : Fin 5) (x : Line) : (s.setLine l x).line l = x := slot_put_same ..

theorem setLine_line (s : State) (l : Fin 5) : s.setLine l (s.line l) = s :=
  congrArg (fun v => { s with lines := v }) (put_slot s.lines l)

/-- A bad frame is counted, and told at the limit (R59). -/
theorem badFrame_counts (s : State) (l : Fin 5) (x : Line) : s.countsBadFrame ((s.setLine l x).badFrame l) l x := by
  rw [State.badFrame, line_setLine_same]
  refine ⟨fun h => ?_, fun h => ?_⟩
  · exact (if_neg (Nat.not_le.mpr h)).trans (setLine_setLine ..)
  · have atLimit : (s.setLine l x).settings.badFrameLimit ≤ x.badCount + 1 := h
    rw [if_pos atLimit, setLine_setLine]
    exact tellNoise_told ..

/-- A message answered bad counts one bad frame on its line as it stands. -/
theorem badFrame_counts_line (s : State) (l : Fin 5) : s.countsBadFrame (s.badFrame l) l (s.line l) := by
  have h := badFrame_counts s l (s.line l)
  rwa [setLine_line] at h

/-- The assembler drops the frame in DISCARDING and counts it (R56). -/
theorem discardFrame_counts (s : State) (l : Fin 5) (x : Line) :
    s.countsBadFrame ((s.setLine l x).discardFrame l) l { x with assembler := .discarding } := by
  rw [State.discardFrame, State.setAssembler, line_setLine_same, setLine_setLine]
  exact badFrame_counts ..

end BadFrames

end Sys2Proof.Machine

namespace Sys2Proof.Machine

/-! ### Reports that are stale, foreign, undefined or off the order (R57, R58, R78, R80) -/

section Answered

variable {s t : State} {l : Fin 5} {i : Fin 4} {noise toggle : Bool} {m : Message} {cut passIndex seconds : Nat}
  {k : Fin 12} {p : Plan}

theorem receive_open (he : (s.line l).enabled = true) (hb : (s.line l).inBreak = false) :
    ¬(¬(s.line l).enabled = true ∨ (s.line l).inBreak = true) := by
  rw [he, hb]
  decide

/-- An answer to another order than the last is counted as stale, and no more (R58). -/
theorem receive_stale (he : (s.line l).enabled = true) (hb : (s.line l).inBreak = false)
    (hu : s.userOf l = .station i) (hm : m.answersOrder = true) (ht : toggle ≠ (s.station i).toggle) :
    s.receive l noise toggle m = s.staleFrame l := by
  have saw : m.fromSaw = true ∧ m.codedFieldsDefined = true := by
    cases m with
    | accept | pass | finish => exact ⟨rfl, rfl⟩
    | state | fault | levels | pressState => cases hm
  rw [State.receive, if_neg (receive_open he hb), hu]
  exact (if_neg (not_not_intro saw)).trans (if_pos ⟨hm, ht⟩)

/-- A report a saw does not send, or with an undefined code, is a bad frame of a station's line (R57). -/
theorem receive_foreignToStation (he : (s.line l).enabled = true) (hb : (s.line l).inBreak = false)
    (hu : s.userOf l = .station i) (hm : ¬(m.fromSaw = true ∧ m.codedFieldsDefined = true)) :
    s.receive l noise toggle m = s.badFrame l := by
  rw [State.receive, if_neg (receive_open he hb), hu]
  exact if_pos hm

theorem receive_foreignToPlant (he : (s.line l).enabled = true) (hb : (s.line l).inBreak = false)
    (hu : s.userOf l = .plant) (hm : m.fromSaw = true ∨ ¬m.codedFieldsDefined = true) :
    s.receive l noise toggle m = s.badFrame l := by
  rw [State.receive, if_neg (receive_open he hb), hu]
  exact if_pos hm

/-- A report the Station Controller answers bad is a bad frame (R59, R78). -/
theorem receive_bad (he : (s.line l).enabled = true) (hb : (s.line l).inBreak = false)
    (hu : s.userOf l = .station i) (hm : m.fromSaw = true ∧ m.codedFieldsDefined = true)
    (hr : s.sawReport i m = none) : s.receive l noise (s.station i).toggle m = s.badFrame l := by
  rw [State.receive, if_neg (receive_open he hb), hu]
  refine (if_neg (not_not_intro hm)).trans ((if_neg fun h => h.2 rfl).trans ?_)
  rw [hr]

/-- A message command hands its frame over (assumption 6). -/
theorem exec_counts {c : Instr} (hc : exec c s = .next (s.receive l noise toggle m))
    (h : s.receive l noise toggle m = s.badFrame l) :
    ∃ t, exec c s = .next t ∧ s.countsBadFrame t l (s.line l) :=
  ⟨_, hc.trans (congrArg _ h), badFrame_counts_line s l⟩

/-- Settles O17: the toggle is compared first with the station's, kind and coded fields with the line's user. -/
theorem staleForeignAndUndefinedReports : Obligations.StaleForeignAndUndefinedReports := by
  refine ⟨fun s l i noise toggle cut passIndex seconds c he hb hu ht hc => ?_,
    fun s l noise toggle cut passIndex seconds mode table done code report cake levels c he hb h => ?_⟩
  · obtain rfl | rfl | rfl := hc <;> exact congrArg _ (receive_stale he hb hu rfl ht)
  · have undefinedState (h : 3 < mode ∨ 1 < table) :
        ¬(Message.state mode table done).codedFieldsDefined = true := by
      simp only [Message.codedFieldsDefined, decide_eq_true_eq]
      omega
    obtain ⟨⟨i, hu⟩, h⟩ | ⟨hu, h⟩ := h
    · have foreign {m : Message} (hm : ¬(m.fromSaw = true ∧ m.codedFieldsDefined = true)) :=
        receive_foreignToStation (noise := noise) (toggle := toggle) he hb hu hm
      obtain rfl | rfl | ⟨rfl, hcode⟩ | rfl := h
      · exact exec_counts rfl (foreign (by simp [Message.fromSaw]))
      · exact exec_counts rfl (foreign (by simp [Message.fromSaw]))
      · exact exec_counts rfl (foreign fun hm => undefinedState hcode hm.2)
      · exact exec_counts rfl (foreign (by simp [Message.codedFieldsDefined]))
    · have foreign {m : Message} (hm : m.fromSaw = true ∨ ¬m.codedFieldsDefined = true) :=
        receive_foreignToPlant (noise := noise) (toggle := toggle) he hb hu hm
      obtain rfl | rfl | rfl | rfl | rfl | ⟨rfl, hvalves⟩ | ⟨rfl, hreport⟩ := h
      · exact exec_counts rfl (foreign (.inl rfl))
      · exact exec_counts rfl (foreign (.inl rfl))
      · exact exec_counts rfl (foreign (.inl rfl))
      · exact exec_counts rfl (foreign (.inl rfl))
      · exact exec_counts rfl (foreign (.inl rfl))
      · exact exec_counts rfl (foreign (.inr fun hm => Nat.not_lt.mpr hvalves (of_decide_eq_true hm)))
      · exact exec_counts rfl (foreign (.inr fun hm => Nat.not_le.mpr hreport (of_decide_eq_true hm)))

/-- An order in hand is outstanding at a station that takes reports (R78). -/
theorem orderInHand_inTurn {x : Fin 12 × Plan × Cut} (h : s.orderInHand i cut = some x) :
    ((s.station i).state = .cutting ∨ (s.station i).state = .holding ∨ (s.station i).state = .paused
      ∨ (s.station i).state = .faulted) ∧ (s.station i).orderOutstanding = true := by
  have outstanding {y : Option (Fin 12 × Plan × Cut)}
      (h : (if (s.station i).orderOutstanding then y else none) = some x) :
      (s.station i).orderOutstanding = true := by
    by_contra ho
    rw [if_neg ho] at h
    cases h
  unfold State.orderInHand at h
  dsimp only at h
  split at h
  · next hst => exact ⟨.inl hst, outstanding h⟩
  · next hst => exact ⟨.inr (.inl hst), outstanding h⟩
  · next hst => exact ⟨.inr (.inr (.inl hst)), outstanding h⟩
  · next hst => exact ⟨.inr (.inr (.inr hst)), outstanding h⟩
  · cases h

/-- No order is in hand for a report out of turn (R78). -/
theorem orderInHand_none (h : (s.station i).state = .detached ∨ (s.station i).state = .listening
      ∨ (s.station i).state = .ready ∨ (s.station i).state = .staged ∨ (s.station i).orderOutstanding = false
      ∨ ∃ k p, (s.station i).plan = some k ∧ s.plan k = some p ∧ p.cutsDone ≠ cut) :
    s.orderInHand i cut = none := by
  refine Option.eq_none_iff_forall_ne_some.mpr fun ⟨k, p, c⟩ horder => ?_
  obtain ⟨hst, hout⟩ := orderInHand_inTurn horder
  obtain ⟨hplan, hcut, -⟩ := orderInHand_some horder
  obtain h | h | h | h | h | ⟨k', p', hik, hk, hother⟩ := h
  · simp [h] at hst
  · simp [h] at hst
  · simp [h] at hst
  · simp [h] at hst
  · exact Bool.false_ne_true (h.symm.trans hout)
  · rw [boundPlan_eq hik hk] at hplan
    cases hplan
    exact hother hcut

/-- A PASS out of order, or beyond the pass count, is answered bad (R80). -/
theorem takePass_none (hik : (s.station i).plan = some k) (hk : s.plan k = some p)
    (h : passIndex ≠ (s.station i).passesTaken + 1 ∨ p.passCount.getD 0 ≤ p.passesReported) :
    s.takePass i cut passIndex seconds = none := by
  unfold State.takePass
  split
  · rfl
  · next q c horder =>
    obtain ⟨hplan, -, -⟩ := orderInHand_some horder
    rw [boundPlan_eq hik hk] at hplan
    cases hplan
    exact if_neg fun e => h.elim (· e.1) (Nat.not_le.mpr e.2)

/-- Settles O23: without an order in hand, or with the pass out of order, the report is answered bad. -/
theorem reportsOffTheOrderAreAnsweredBad : Obligations.ReportsOffTheOrderAreAnsweredBad := by
  refine ⟨fun s l i noise cut passIndex seconds c he hb hu h hc => ?_,
    fun s l i noise cut passIndex seconds k p he hb hu hik hk h => ?_⟩
  · have none := orderInHand_none h
    obtain rfl | rfl | rfl := hc
    · refine exec_counts rfl (receive_bad he hb hu ⟨rfl, rfl⟩ ?_)
      rw [State.sawReport, State.takeAccept, none]
      exact ite_self _
    · refine exec_counts rfl (receive_bad he hb hu ⟨rfl, rfl⟩ ?_)
      rw [State.sawReport, State.takePass, none]
      exact ite_self _
    · refine exec_counts rfl (receive_bad he hb hu ⟨rfl, rfl⟩ ?_)
      rw [State.sawReport, State.takeFinish, none]
      exact ite_self _
  · refine exec_counts rfl (receive_bad he hb hu ⟨rfl, rfl⟩ ?_)
    rw [State.sawReport, takePass_none hik hk h]
    exact ite_self _

end Answered

end Sys2Proof.Machine

namespace Sys2Proof.Machine

/-! ### FAULT and BREAK (R54, R82, R89) -/

section Stopped

variable {s t : State} {l : Fin 5} {i : Fin 4} {noise toggle : Bool} {m : Message} {x : Line} {st : Station}
  {src : Fin 24} {d : Detail} {c : CharSamples} {mark : Bool}

/-- The line the report or the break came on is not spoken of where its station stops. -/
theorem stopsAt_userLine (h : (s.setLine l x).stopsAt t i st src d) (hu : s.userOf l = .station i)
    (hp : s.plantLine ≠ l) : s.stopsAt t i st src d := by
  obtain ⟨hstations, hnotices, hvalve, hsettle, hlines, hsent, hrest⟩ := h
  have other {j : Fin 5} (hj : j ≠ l) : (s.setLine l x).line j = s.line j := slot_put_ne _ _ hj.symm
  refine ⟨hstations, hnotices, hvalve, hsettle, fun j hj huj hpj => ?_, fun hup hl => ?_, hrest⟩
  · exact (hlines j hj huj hpj).trans (other fun e => huj (e ▸ hu))
  · have sent := hsent hup hl
    unfold State.valvesSent at sent ⊢
    have plant : (s.setLine l x).plantLine = s.plantLine := rfl
    rw [plant, other hp] at sent
    exact sent

theorem stopsAt_setUserLine (h : s.stopsAt t i st src d) (hu : s.userOf l = .station i) (hp : s.plantLine ≠ l)
    (x : Line) : s.stopsAt (t.setLine l x) i st src d := by
  obtain ⟨hstations, hnotices, hvalve, hsettle, hlines, hsent, hrest⟩ := h
  have other {j : Fin 5} (hj : j ≠ l) : (t.setLine l x).line j = t.line j := slot_put_ne _ _ hj.symm
  refine ⟨hstations, hnotices, hvalve, hsettle, fun j hj huj hpj => ?_, fun hup hl => ?_, ?_⟩
  · exact (other (j := j) fun e => huj (e ▸ hu)).trans (hlines j hj huj hpj)
  · exact (other hp).trans (hsent hup hl)
  · rw [hrest]
    rfl

theorem stopsAt_station (h : s.stopsAt t i st src d) : t.station i = st := by
  obtain ⟨hstations, -⟩ := h
  rw [State.station, hstations]
  exact slot_put_same ..

/-- A FAULT of an attached saw (R82). -/
theorem exec_fault {code cut : Nat} (he : (s.line l).enabled = true) (hb : (s.line l).inBreak = false)
    (hu : s.userOf l = .station i) (hp : s.plantLine ≠ l)
    (hd : (s.station i).state ≠ .detached) (hcode : 1 ≤ code) :
    ∃ t, exec (.fault l noise toggle code cut) s = .next t
      ∧ s.stopsAt t i
        { (s.station i).stopTimers with
          state := .faulted, condition := .sawFault, sawMode := some .fault, faultCode := some code
          faultCut := cut }
        (haltSource i) (.halt .sawFault .faulted (some code) (s.station i).plan (s.currentCutNumber i) (some cut))
      ∧ t.line l = (s.line l).counted noise := by
  obtain ⟨u, htaken⟩ : ∃ u, u = s.takeFault i code cut := ⟨_, rfl⟩
  obtain ⟨hstops, hlines⟩ := faultStation_halts (s := s) (i := i) (c := .sawFault)
    (y := { s.station i with faultCode := some code, faultCut := cut, sawMode := some .fault })
    rfl rfl (by decide) (by decide) htaken
  have idle : u.superviseAgain i = u := by
    have hstation := stopsAt_station hstops
    exact superviseAgain_idle (by rw [hstation]; nofun) (by rw [hstation]; nofun)
  have hexec : exec (.fault l noise toggle code cut) s = .next (u.setLine l ((u.line l).counted noise)) := by
    have defined : (Message.fault code cut).codedFieldsDefined = true := decide_eq_true (by omega)
    have taken : s.sawReport i (.fault code cut) = some u := by
      rw [htaken]
      exact if_neg hd
    refine congrArg _ ((receive_taken he hb hu ⟨rfl, defined⟩ nofun taken).trans ?_)
    rw [idle, takenFrame_eq]
  refine ⟨_, hexec, stopsAt_setUserLine hstops hu hp _, ?_⟩
  rw [line_setLine_same, hlines l hp.symm]

/-- The line as BREAK begins: a frame in assembly is thrown away (R54 to R56). -/
def Line.broken (x : Line) (seen : Nat) : Line :=
  { x with
    receiver := .startSearch
    onesSeen := seen
    inBreak := true
    gap := .stopped
    assembler := match x.assembler with
      | .assembling _ _ => .discarding
      | a => a }

theorem isBreak_iff : c.isBreak = true ↔ c.framing = true ∧ c.byte = 0 := by
  rw [CharSamples.isBreak, Bool.and_eq_true, decide_eq_true_eq]

/-- Every command that decides a break character hands the same on to the line (R53, R54). -/
theorem exec_decidesBreak {e : Instr} {seen : Nat} (he : (s.line l).enabled = true) (h : s.decidesBreak l e seen) :
    ∃ noise, exec e s = .next ((s.setLine l { s.line l with onesSeen := seen }).breakCharacter l noise) := by
  obtain ⟨rfl, ⟨ones, zeros, hr⟩, rfl⟩ | ⟨mark, c, rfl, hr, hframing, hbyte, rfl⟩ := h
  · have searching : (s.line l).enabled = true ∧ (s.line l).receiver.searching = true := ⟨he, by rw [hr]; rfl⟩
    exact ⟨false, congrArg _ (if_pos searching)⟩
  · refine ⟨mark || c.noisy, congrArg _ ((if_pos he).trans ?_)⟩
    rw [State.decideCharacter, hr]
    exact if_pos (isBreak_iff.mpr ⟨hframing, hbyte⟩)

/-- A break character in a break run begins BREAK (R54). -/
theorem breakCharacter_begins {seen : Nat} (hb : (s.line l).inBreak = false) (hrun : (s.line l).breakRun = true) :
    (s.setLine l { s.line l with onesSeen := seen }).breakCharacter l noise
      = (s.setLine l ((s.line l).broken seen)).tellBreak l := by
  rw [State.breakCharacter, line_setLine_same]
  dsimp only
  rw [if_neg (by rw [hb]; exact Bool.false_ne_true), if_pos hrun, State.beginBreak, setLine_setLine]
  simp only [line_setLine_same, setLine_setLine]
  rfl

theorem tellBreak_station (hu : s.userOf l = .station i) (hd : (s.station i).state ≠ .detached) :
    s.tellBreak l = (s.setStation i { s.station i with sawMode := none }).faultStation i .estop := by
  rw [State.tellBreak, hu]
  exact if_neg hd

/-- Settles O26: the report and the break each fault the station, by `faultStation`. -/
theorem faultAndBreakFaultTheStation : Obligations.FaultAndBreakFaultTheStation := by
  refine ⟨fun s l i noise toggle code cut he hb hu hp hd hcode => exec_fault he hb hu hp hd hcode,
    fun s l i e seen he hb hrun h hu hp hd => ?_⟩
  obtain ⟨noise, hexec⟩ := exec_decidesBreak he h
  obtain ⟨b, hbroken⟩ : ∃ b, b = s.setLine l ((s.line l).broken seen) := ⟨_, rfl⟩
  obtain ⟨t, ht⟩ : ∃ t, t = b.tellBreak l := ⟨_, rfl⟩
  have huser : b.userOf l = .station i := by rw [hbroken]; exact hu
  have hstation : b.station i = s.station i := by rw [hbroken]; rfl
  obtain ⟨hstops, hlines⟩ := faultStation_estops (s := b) (y := { b.station i with sawMode := none }) rfl rfl
    (ht.trans (tellBreak_station huser (by rwa [hstation])))
  rw [hstation] at hstops
  rw [breakCharacter_begins hb hrun, ← hbroken, ← ht] at hexec
  subst hbroken
  refine ⟨t, hexec, stopsAt_userLine hstops hu hp, (hlines l hp.symm).trans ((line_setLine_same ..).trans ?_)⟩
  unfold Line.broken
  rfl

end Stopped

end Sys2Proof.Machine

namespace Sys2Proof.Machine

/-! ### The gap timer, break runs and idle runs (R53 to R56, R59) -/

section Gaps

variable {s : State} {l : Fin 5} {i : Fin 4} {x : Line} {noise toggle : Bool} {seen ones zeros : Nat}

/-- The gap ends what the assembler waits out: it is READY (R56). -/
theorem assemblerGap_readies (h : x.assembler = .settling ∨ x.assembler = .separating ∨ x.assembler = .discarding
    ∨ x.assembler = .ready) : (s.setLine l x).assemblerGap l = s.setLine l { x with assembler := .ready } := by
  rw [State.assemblerGap, line_setLine_same]
  obtain h | h | h | h := h
  · rw [h, State.setAssembler, line_setLine_same, setLine_setLine]
  · rw [h, State.setAssembler, line_setLine_same, setLine_setLine]
  · rw [h, State.setAssembler, line_setLine_same, setLine_setLine]
  · rw [h]
    exact congrArg (s.setLine l) (by rw [← h])

/-- The gap ends a frame in assembly short (R56). -/
theorem assemblerGap_counts {bs : List Byte} (h : x.assembler = .assembling bs noise) :
    s.countsBadFrame ((s.setLine l x).assemblerGap l) l { x with assembler := .ready } := by
  rw [State.assemblerGap, line_setLine_same, h]
  dsimp only
  rw [State.setAssembler, line_setLine_same, setLine_setLine]
  exact badFrame_counts ..

/-- A character with a framing error at the assembler: discarded and counted, but where nothing is assembled
(R56). -/
theorem assemble_framing_counts (h : x.assembler = .ready ∨ x.assembler = .separating
      ∨ ∃ bs noise, x.assembler = .assembling bs noise) (b : Byte) :
    s.countsBadFrame ((s.setLine l x).assemble l b true noise) l { x with assembler := .discarding } := by
  have discards : (s.setLine l x).assemble l b true noise = (s.setLine l x).discardFrame l := by
    rw [State.assemble, line_setLine_same]
    obtain h | h | ⟨bs, n, h⟩ := h
    · rw [h]; rfl
    · rw [h]
    · rw [h]; rfl
  rw [discards]
  exact discardFrame_counts ..

/-- In SETTLING and DISCARDING a character is thrown away (R56). -/
theorem assemble_ignores (h : x.assembler = .settling ∨ x.assembler = .discarding) (b : Byte) (framing : Bool) :
    (s.setLine l x).assemble l b framing noise = s.setLine l x := by
  rw [State.assemble, line_setLine_same]
  obtain h | h := h <;> rw [h]

/-- The first break character of a run is a character with a framing error (R53, R54). -/
theorem breakCharacter_first (hb : (s.line l).inBreak = false) (hrun : (s.line l).breakRun = false) :
    (s.setLine l { s.line l with onesSeen := seen }).breakCharacter l noise
      = (s.setLine l { s.line l with
          receiver := .startSearch, onesSeen := seen, breakRun := true, gap := .running }).assemble l 0 true noise := by
  rw [State.breakCharacter, line_setLine_same]
  dsimp only
  rw [if_neg (by rw [hb]; exact Bool.false_ne_true), if_neg (by rw [hrun]; exact Bool.false_ne_true), setLine_setLine]

/-- During BREAK a break character reports nothing (R54). -/
theorem breakCharacter_inBreak (hb : (s.line l).inBreak = true) :
    (s.setLine l { s.line l with onesSeen := seen }).breakCharacter l noise
      = s.setLine l { s.line l with receiver := .startSearch, onesSeen := seen, breakRun := true } := by
  rw [State.breakCharacter, line_setLine_same]
  dsimp only
  rw [if_pos hb, setLine_setLine]

/-- BREAK_CHARACTER and IDLE_RUN come in the start search alone (assumption 7). -/
theorem searching_iff (r : Receiver) : r.searching = true ↔ ∃ ones zeros, r = .search ones zeros := by
  cases r <;> simp [Receiver.searching]

theorem exec_idleRun (he : (s.line l).enabled = true) (hr : (s.line l).receiver = .search ones zeros) :
    exec (.idleRun l) s = .next (s.idleRun l) :=
  congrArg _ (if_pos ⟨he, (searching_iff _).mpr ⟨ones, zeros, hr⟩⟩)

/-- The end of BREAK at the user's own line: a QUERY joins its queue (R89, R113). -/
theorem tellBreakEnd_queries (he : (s.line l).enabled = true) (hq : ∀ g ∈ (s.line l).queue, g.message ≠ .query)
    (hstation : ∀ i, s.userOf l = .station i → s.stationLine i = l ∧ toggle = (s.station i).toggle)
    (hplant : s.userOf l = .plant → s.plantLine = l ∧ toggle = false) :
    s.tellBreakEnd l
      = s.setLine l { s.line l with queue := (s.line l).queue ++ [{ toggle := toggle, message := .query }] } := by
  have joins : s.handFrame l { toggle := toggle, message := .query }
      = s.setLine l { s.line l with queue := (s.line l).queue ++ [{ toggle := toggle, message := .query }] } := by
    have kind (m : TxMessage) (hm : m ≠ .query) : m.kindCode ≠ TxMessage.query.kindCode := by
      cases m with
      | query => exact absurd rfl hm
      | order | hold | feed | valves | press => exact of_decide_eq_true rfl
    rw [handFrame_enabled he, queueFrame_joins (f := ⟨toggle, .query⟩) nofun fun g hg => kind _ (hq g hg)]
  unfold State.tellBreakEnd
  split
  · next i hu =>
    obtain ⟨hline, htoggle⟩ := hstation i hu
    rw [State.handSaw, hline, ← htoggle, joins]
  · next hu =>
    obtain ⟨hline, htoggle⟩ := hplant hu
    rw [State.handPlant, hline, ← htoggle, joins]

/-- Settles O16: the gap by the assembler's state, the break character by the run it finds, the idle run by BREAK. -/
theorem gapAndBreakRunsEndFrames : Obligations.GapAndBreakRunsEndFrames := by
  refine ⟨fun s l => ⟨fun h => congrArg _ (if_neg ?_), fun he hg => ?_⟩,
    fun s l he => ⟨fun h => ?_, fun e seen x h hx => ?_, fun ones zeros hr => ⟨fun hb => ?_,
      fun hb hq toggle hstation hplant => ?_⟩⟩⟩
  · rintro ⟨he, hg⟩
    exact h.elim (fun e => Bool.false_ne_true (e.symm.trans he)) (· hg)
  · have expires : exec (.gapTimerExpiry l) s
        = .next ((s.setLine l { s.line l with gap := .expired }).assemblerGap l) := congrArg _ (if_pos ⟨he, hg⟩)
    exact ⟨fun h => expires.trans (congrArg _ (assemblerGap_readies h)),
      fun ⟨bs, noise, h⟩ => ⟨_, expires, assemblerGap_counts h⟩⟩
  · have elsewhere : ¬((s.line l).enabled = true ∧ (s.line l).receiver.searching = true) := by
      rintro ⟨-, hs⟩
      obtain ⟨ones, zeros, hr⟩ := (searching_iff _).mp hs
      exact h ones zeros hr
    exact ⟨congrArg _ (if_neg elsewhere), congrArg _ (if_neg elsewhere)⟩
  · obtain ⟨noise, hexec⟩ := exec_decidesBreak he h
    refine ⟨fun hb hrun ha => ?_, fun hb hrun ha => ?_, fun hb => ?_⟩
    · rw [breakCharacter_first hb hrun, ← hx] at hexec
      exact ⟨_, hexec, assemble_framing_counts (by rw [hx]; exact ha) 0⟩
    · rw [breakCharacter_first hb hrun, ← hx, assemble_ignores (by rw [hx]; exact ha)] at hexec
      exact hexec
    · rw [breakCharacter_inBreak hb] at hexec
      exact hexec
  · refine (exec_idleRun he hr).trans (congrArg _ (if_neg ?_))
    rw [hb]
    exact Bool.false_ne_true
  · refine (exec_idleRun he hr).trans (congrArg _ ((if_pos hb).trans ?_))
    obtain ⟨b, hbase⟩ : ∃ b, b = s.setLine l { s.line l with
        receiver := .search 4 0, onesSeen := 160, breakRun := false, inBreak := false, gap := .expired
        assembler := .ready } := ⟨_, rfl⟩
    have hline : b.line l = { s.line l with
        receiver := .search 4 0, onesSeen := 160, breakRun := false, inBreak := false, gap := .expired
        assembler := .ready } := by rw [hbase, line_setLine_same]
    have queries := tellBreakEnd_queries (s := b) (l := l) (toggle := toggle) (by rw [hline]; exact he)
      (by rw [hline]; exact hq) (by rw [hbase]; exact hstation) (by rw [hbase]; exact hplant)
    rw [hline] at queries
    rw [← hbase, queries, hbase, setLine_setLine]

end Gaps

end Sys2Proof.Machine

namespace Sys2Proof.Machine

/-! ### The samples of the start search and the start check (R52 to R54) -/

section StartSamples

variable {s t : State} {l : Fin 5} {r r' : Receiver} {ones zeros seen n : Nat} {a x y z : Bool}

theorem setReceiver_line (s : State) (l : Fin 5) (r : Receiver) (n : Nat) :
    (s.setReceiver l r n).line l = { s.line l with receiver := r, onesSeen := n } := line_setLine_same ..

theorem setReceiver_setReceiver (s : State) (l : Fin 5) (r r' : Receiver) (n m : Nat) :
    (s.setReceiver l r n).setReceiver l r' m = s.setReceiver l r' m := by
  rw [State.setReceiver, setReceiver_line]
  exact setLine_setLine ..

theorem startVerified_setReceiver (s : State) (l : Fin 5) (r : Receiver) (mark : Bool) (n m : Nat) :
    (s.setReceiver l r n).startVerified l mark m = s.startVerified l mark m := by
  rw [State.startVerified, setReceiver_line]
  exact setLine_setLine ..

theorem setReceiver_receiver (s : State) (l : Fin 5) :
    s.setReceiver l (s.line l).receiver (s.line l).onesSeen = s := setLine_line ..

/-- 1-samples of the search lead to a search behind at least as many, where none of them ends an idle run (R52). -/
theorem takeSamples_ones (hn : seen + n < 160 ∨ 160 ≤ seen) : ∃ ones' zeros' seen', min 4 (ones + n) ≤ ones'
    ∧ (s.setReceiver l (.search ones zeros) seen).takeSamples l (List.replicate n true)
      = s.setReceiver l (.search ones' zeros') seen' := by
  induction n generalizing ones zeros seen with
  | zero => exact ⟨ones, zeros, seen, Nat.min_le_right .., rfl⟩
  | succ n ih =>
    obtain ⟨ones', zeros', seen', hones, htaken⟩ :=
      ih (ones := min 4 (ones + 1)) (zeros := 0) (seen := onesOn seen true) (by
        simp only [onesOn, if_true]
        omega)
    refine ⟨ones', zeros', seen', by omega, ?_⟩
    have first : (s.setReceiver l (.search ones zeros) seen).takeSample l true
        = s.setReceiver l (.search (min 4 (ones + 1)) 0) (onesOn seen true) := by
      rw [takeSample_search_one (by rw [setReceiver_line]), setReceiver_line, setReceiver_setReceiver]
      exact if_neg (by dsimp only; omega)
    exact (congrArg (fun t : State => t.takeSamples l (List.replicate n true)) first).trans htaken

/-- The five samples of a start check, behind four 1-samples (R52). -/
theorem takeSamples_startCheck (ho : 4 ≤ ones) :
    (s.setReceiver l (.search ones zeros) seen).takeSamples l [false, a, x, y, z]
      = if 2 ≤ [x, y, z].count false then
          s.startVerified l (decide ([x, y, z].count false ≠ 3)) (onesRun 0 [a, x, y, z])
        else s.setReceiver l .startSearch (onesRun 0 [a, x, y, z]) := by
  have first : (s.setReceiver l (.search ones zeros) seen).takeSample l false
      = s.setReceiver l (.startCheck [false]) 0 := by
    rw [takeSample_search_start (by rw [setReceiver_line]) ho, setReceiver_setReceiver]
  have next {bs : List Bool} (hbs : bs.length < 4) (n : Nat) (b : Bool) :
      (s.setReceiver l (.startCheck bs) n).takeSample l b = s.setReceiver l (.startCheck (bs ++ [b])) (onesOn n b) := by
    rw [takeSample_check (by rw [setReceiver_line]) hbs, setReceiver_line, setReceiver_setReceiver]
  have last (n : Nat) : (s.setReceiver l (.startCheck [false, a, x, y]) n).takeSample l z
      = if 2 ≤ [x, y, z].count false then s.startVerified l (decide ([x, y, z].count false ≠ 3)) (onesOn n z)
        else s.setReceiver l .startSearch (onesOn n z) := by
    rw [takeSample_decide (by rw [setReceiver_line]) rfl, setReceiver_line, setReceiver_setReceiver,
      startVerified_setReceiver]
    rfl
  simp only [State.takeSamples, List.foldl_cons, List.foldl_nil]
  rw [first, next (by simp), next (by simp), next (by simp)]
  exact last _

/-- The run of 1-samples behind the start check is what ends it (R54). -/
theorem onesRun_startCheck (a x y z : Bool) : onesRun 0 [a, x, y, z] = ([z, y, x, a].takeWhile id).length := by
  cases z
  · rfl
  · cases y
    · rfl
    · cases x
      · rfl
      · cases a <;> rfl

/-- A running gap timer stops with the start bit (R55). -/
theorem startVerified_eq (s : State) (l : Fin 5) (mark : Bool) (n : Nat) : s.startVerified l mark n = s.setLine l
    { s.line l with
      receiver := .inCharacter mark
      onesSeen := n
      gap := match (s.line l).gap with
        | .running => .stopped
        | g => g } := by
  have stops (g : GapTimer) : (if g = .running then .stopped else g : GapTimer) = match g with
      | .running => .stopped
      | g => g := by
    cases g <;> rfl
  exact congrArg (fun g => s.setLine l { s.line l with receiver := .inCharacter mark, onesSeen := n, gap := g })
    (stops _)

theorem exec_samples (he : (s.line l).enabled = true) (samples : List Bool) :
    exec (.startBitVerified l samples) s = .next (s.takeSamples l samples) := congrArg _ (if_pos he)

/-- A 1-sample that ends no idle run (R52, R54). -/
theorem exec_one (he : (s.line l).enabled = true) (hr : (s.line l).receiver = .search ones zeros)
    (hn : (s.line l).onesSeen + 1 < 160 ∨ 160 ≤ (s.line l).onesSeen) :
    exec (.startBitVerified l [true]) s
      = .next (s.setReceiver l (.search (min 4 (ones + 1)) 0) (min 160 ((s.line l).onesSeen + 1))) :=
  (exec_samples he _).trans (congrArg _ ((takeSample_search_one hr).trans (if_neg (by omega))))

/-- The 160th 1-sample in a row is IDLE_RUN's (R54). -/
theorem exec_one_idleRun (he : (s.line l).enabled = true) (hr : (s.line l).receiver = .search ones zeros)
    (hn : (s.line l).onesSeen + 1 = 160) : exec (.startBitVerified l [true]) s = exec (.idleRun l) s := by
  rw [exec_idleRun he hr, exec_samples he]
  exact congrArg _ ((takeSample_search_one hr).trans (if_pos (by omega)))

/-- A 0-sample in a row of fewer than 160 (R53). -/
theorem exec_zero (he : (s.line l).enabled = true) (hr : (s.line l).receiver = .search ones zeros) (ho : ones < 4)
    (hz : zeros + 1 < 160) :
    exec (.startBitVerified l [false]) s = .next (s.setReceiver l (.search 0 (zeros + 1)) 0) :=
  (exec_samples he _).trans (congrArg _ ((takeSample_search_zero hr ho).trans (if_pos hz)))

/-- The 160th 0-sample in a row is BREAK_CHARACTER's (R53). -/
theorem exec_zero_breakCharacter (he : (s.line l).enabled = true) (hr : (s.line l).receiver = .search ones zeros)
    (ho : ones < 4) (hz : zeros + 1 = 160) : exec (.startBitVerified l [false]) s = exec (.breakCharacter l) s := by
  have breaks : exec (.breakCharacter l) s = .next (s.zeroRun l) :=
    congrArg _ (if_pos ⟨he, (searching_iff _).mpr ⟨ones, zeros, hr⟩⟩)
  rw [breaks, exec_samples he]
  exact congrArg _ ((takeSample_search_zero hr ho).trans (if_neg (by omega)))

/-- A start bit, verified or false, behind four 1-samples (R52). -/
theorem exec_startCheck (he : (s.line l).enabled = true) (hr : (s.line l).receiver = .search ones zeros)
    (ho : 4 ≤ ones + n) (hn : (s.line l).onesSeen + n < 160 ∨ 160 ≤ (s.line l).onesSeen) :
    exec (.startBitVerified l (List.replicate n true ++ [false, a, x, y, z])) s
      = .next (if 2 ≤ [x, y, z].count false then
          s.startVerified l (decide ([x, y, z].count false ≠ 3)) (onesRun 0 [a, x, y, z])
        else s.setReceiver l .startSearch (onesRun 0 [a, x, y, z])) := by
  obtain ⟨ones', zeros', seen', hones, htaken⟩ :=
    takeSamples_ones (s := s) (l := l) (ones := ones) (zeros := zeros) hn
  rw [← hr, setReceiver_receiver] at htaken
  rw [exec_samples he, takeSamples_append, htaken, takeSamples_startCheck (by omega)]

end StartSamples

/-! ### The samples of a character (R53, R54) -/

section CharacterSamples

variable {w k : Nat}

theorem bitSamples_length (x : BitVec w) : (bitSamples x).length = w := by simp [bitSamples]

theorem bitSamples_getElem? (x : BitVec w) (hk : k < w) : (bitSamples x)[k]? = some (x.getLsbD k) := by
  simp [bitSamples, hk]

variable (c : CharSamples)

theorem samples_start (hk : k < 11) : c.samples[k]? = some (c.start.getLsbD k) := by
  rw [CharSamples.samples, List.append_assoc, List.getElem?_append_left (by rwa [bitSamples_length]),
    bitSamples_getElem? _ hk]

theorem dataSamples_length : (c.data.toList.flatMap bitSamples).length = 128 := by
  simp [List.length_flatMap, bitSamples_length]

theorem samples_data (bit : Fin 8) (hk : k < 16) :
    c.samples[11 + 16 * bit.val + k]? = some ((slot c.data bit).getLsbD k) := by
  have data : c.data.toList[bit.val]? = some (slot c.data bit) := by simp [slot]
  rw [CharSamples.samples, List.append_assoc, Nat.add_assoc,
    List.getElem?_append_right (by rw [bitSamples_length]; omega), bitSamples_length, Nat.add_sub_cancel_left,
    List.getElem?_append_left (by rw [dataSamples_length]; omega),
    getElem?_flatMap_block (fun _ _ => bitSamples_length _) data hk, bitSamples_getElem? _ hk]

theorem samples_stop (hk : k < 9) : c.samples[139 + k]? = some (c.stop.getLsbD k) := by
  have before : (bitSamples c.start ++ c.data.toList.flatMap bitSamples).length = 139 := by
    rw [List.length_append, bitSamples_length, dataSamples_length]
  rw [CharSamples.samples, List.getElem?_append_right (by rw [before]; omega), before, Nat.add_sub_cancel_left,
    bitSamples_getElem? _ hk]

theorem onesRun_behind_zero (n k : Nat) (xs : List Bool) :
    onesRun n (xs ++ false :: List.replicate k true) = min 160 k := by
  have run := onesRun_replicate (n := 0) (k := k) (by decide)
  rw [Nat.zero_add] at run
  rw [onesRun_append, onesRun_cons]
  exact run

/-- A decided bit of an undisturbed character is that bit, without a noise mark (R53). -/
theorem deciding_clean (x : Bool) : majority (deciding (if x then BitVec.allOnes 16 else 0)) = x
    ∧ uneven (deciding (if x then BitVec.allOnes 16 else 0 : BitVec 16)) = false := by
  cases x <;> decide

theorem clean_data (b : Byte) : (CharSamples.clean b).data.toList
    = (List.finRange 8).map fun i => if b.getLsbD i.val then BitVec.allOnes 16 else 0 := by
  rw [CharSamples.clean, Vector.toList_ofFn, List.ofFn_eq_map]

theorem clean_framing (b : Byte) : (CharSamples.clean b).framing = false := by
  have stop : majority (deciding (BitVec.allOnes 9)) = true := by decide
  exact congrArg not stop

theorem clean_noisy (b : Byte) : (CharSamples.clean b).noisy = false := by
  have stop : uneven (deciding (BitVec.allOnes 9)) = false := by decide
  have data : (CharSamples.clean b).data.any (fun x => uneven (deciding x)) = false := by
    rw [← Vector.any_toList, clean_data, List.any_map, List.any_eq_false]
    intro i _
    rw [Function.comp_apply, (deciding_clean _).2]
    exact Bool.false_ne_true
  rw [CharSamples.noisy, data, Bool.false_or]
  exact stop

/-- A byte is read LSB first (R51). -/
theorem bits_byte (b : Byte) : BitVec.ofNat 8
    ((List.finRange 8).foldr (fun i acc => (b.getLsbD i.val).toNat + 2 * acc) 0) = b := by
  revert b
  decide

theorem clean_byte (b : Byte) : (CharSamples.clean b).byte = b := by
  rw [CharSamples.byte, clean_data, List.foldr_map]
  simp only [(deciding_clean _).1]
  exact bits_byte b

end CharacterSamples

end Sys2Proof.Machine

namespace Sys2Proof.Machine

/-! ### Decided characters at the assembler (R53 to R57) -/

section Characters

variable {s : State} {l : Fin 5} {x : Line} {c : CharSamples} {mark noise : Bool} {lead n b : Byte}
  {bs rest : List Byte}

/-- The line behind a decided character that is no break character (R54, R55). -/
def Line.decided (x : Line) (c : CharSamples) : Line :=
  { x with
    receiver := .startSearch, onesSeen := onesRun x.onesSeen c.samples, breakRun := false, gap := .running }

theorem exec_ordinary (he : (s.line l).enabled = true) (hr : (s.line l).receiver = .inCharacter mark)
    (hc : ¬(c.framing = true ∧ c.byte = 0)) :
    exec (.character l c) s = .next ((s.setOnesSeen l (onesRun (s.line l).onesSeen c.samples)).ordinaryCharacter l
      c.byte c.framing (mark || c.noisy)) := by
  refine congrArg _ ((if_pos he).trans ?_)
  rw [State.decideCharacter, hr]
  exact if_neg (isBreak_iff.not.mpr hc)

/-- Outside BREAK a character goes to the assembler (R54, R55). -/
theorem exec_character (he : (s.line l).enabled = true) (hb : (s.line l).inBreak = false)
    (hr : (s.line l).receiver = .inCharacter mark) (hc : ¬(c.framing = true ∧ c.byte = 0)) :
    exec (.character l c) s
      = .next ((s.setLine l ((s.line l).decided c)).assemble l c.byte c.framing (mark || c.noisy)) := by
  rw [exec_ordinary he hr hc, State.ordinaryCharacter, State.setOnesSeen, line_setLine_same]
  dsimp only
  rw [if_neg (by rw [hb]; exact Bool.false_ne_true), setLine_setLine]
  rfl

theorem exec_character_inBreak (he : (s.line l).enabled = true) (hb : (s.line l).inBreak = true)
    (hr : (s.line l).receiver = .inCharacter mark) (hc : ¬(c.framing = true ∧ c.byte = 0)) :
    exec (.character l c) s = .next (s.setLine l
      { s.line l with
        receiver := .startSearch, onesSeen := onesRun (s.line l).onesSeen c.samples, breakRun := false }) := by
  rw [exec_ordinary he hr hc, State.ordinaryCharacter, State.setOnesSeen, line_setLine_same]
  dsimp only
  rw [if_pos hb, setLine_setLine]

/-- Outside a character there is none to decide (assumption 7). -/
theorem exec_character_outside (h : ∀ m, (s.line l).receiver ≠ .inCharacter m) :
    exec (.character l c) s = .next s := by
  have none : s.decideCharacter l c = s := by
    rw [State.decideCharacter]
    split
    · next m hr => exact absurd hr (h m)
    · rfl
    · rfl
  have decides : exec (.character l c) s = .next (if (s.line l).enabled then s.decideCharacter l c else s) := rfl
  rw [decides, none, ite_self]

theorem setAssembler_setLine (s : State) (l : Fin 5) (x : Line) (a : Assembler) :
    (s.setLine l x).setAssembler l a = s.setLine l { x with assembler := a } := by
  rw [State.setAssembler, line_setLine_same, setLine_setLine]

/-- The first character of a frame is its lead byte (R56). -/
theorem assemble_lead (h : x.assembler = .ready) (b : Byte) :
    (s.setLine l x).assemble l b false noise = s.setLine l { x with assembler := .assembling [b] noise } := by
  rw [State.assemble, line_setLine_same, h]
  exact setAssembler_setLine ..

theorem assemble_extends (h : x.assembler = .assembling bs mark) (b : Byte) :
    (s.setLine l x).assemble l b false noise = (s.setLine l x).extendFrame l (bs ++ [b]) (mark || noise) := by
  rw [State.assemble, line_setLine_same, h]
  rfl

theorem lengthTooLong_eq_false (h : n.toNat ≤ 24) : lengthTooLong (lead :: n :: rest) = false := by
  cases rest with
  | nil => exact decide_eq_false (by omega)
  | cons => rfl

theorem extendFrame_joins (hn : n.toNat ≤ 24) (hlen : (lead :: n :: rest).length < 3 + n.toNat) :
    s.extendFrame l (lead :: n :: rest) noise = s.setAssembler l (.assembling (lead :: n :: rest) noise) := by
  have short : frameComplete (lead :: n :: rest) = false := decide_eq_false (by omega)
  rw [State.extendFrame, lengthTooLong_eq_false hn, short]
  rfl

/-- The `3 + n`th character completes the frame (R56). -/
theorem extendFrame_completes (hn : n.toNat ≤ 24) (hlen : rest.length = n.toNat + 1) :
    s.extendFrame l (lead :: n :: rest) noise
      = (s.setAssembler l .separating).judge l (lead :: n :: rest) noise := by
  have whole : frameComplete (lead :: n :: rest) = true :=
    decide_eq_true (by rw [List.length_cons, List.length_cons]; omega)
  rw [State.extendFrame, lengthTooLong_eq_false hn, whole]
  rfl

/-- A length byte above 24 ends the frame (R56). -/
theorem assemble_tooLong (h : x.assembler = .assembling [lead] mark) (hb : 24 < b.toNat) :
    s.countsBadFrame ((s.setLine l x).assemble l b false noise) l { x with assembler := .discarding } := by
  have discards : (s.setLine l x).extendFrame l ([lead] ++ [b]) (mark || noise) = (s.setLine l x).discardFrame l :=
    if_pos (decide_eq_true hb)
  rw [assemble_extends h, discards]
  exact discardFrame_counts ..

/-- A character in the separation of frames is a bad frame, framing error or not (R56). -/
theorem assemble_separating (h : x.assembler = .separating) (b : Byte) (framing : Bool) :
    s.countsBadFrame ((s.setLine l x).assemble l b framing noise) l { x with assembler := .discarding } := by
  rw [State.assemble, line_setLine_same, h]
  exact discardFrame_counts ..

/-- No kind with that length: no message (R57). -/
theorem ofPayload_eq_none {kind : Nat} {payload : List Byte}
    (h : (kind, payload.length) ∉ [(8, 1), (9, 4), (10, 1), (11, 3), (12, 2), (13, 11), (14, 4)]) :
    Message.ofPayload kind payload = none := by
  unfold Message.ofPayload
  split
  case h_8 => rfl
  all_goals exact absurd h (by simp)

theorem decodeFrame_cons (lead n : Byte) (rest : List Byte) : decodeFrame (lead :: n :: rest)
    = if byteSum (lead :: n :: rest) = 0 ∧ lead.getLsbD 7 = false ∧ n.toNat + 1 = rest.length then
        (Message.ofPayload (lead.toNat % 16) rest.dropLast).map fun m => (lead.getLsbD 6, m)
      else none := rfl

theorem decodeFrame_eq_none (hlen : rest.length = n.toNat + 1)
    (h : (lead :: n :: rest).sum ≠ 0 ∨ 128 ≤ lead.toNat ∨ (lead.toNat % 16, n.toNat)
      ∉ [(8, 1), (9, 4), (10, 1), (11, 3), (12, 2), (13, 11), (14, 4)]) :
    decodeFrame (lead :: n :: rest) = none := by
  have direction : ∀ b : Byte, 128 ≤ b.toNat → b.getLsbD 7 = true := by decide
  rw [decodeFrame_cons]
  obtain h | h | h := h
  · exact if_neg fun ⟨hsum, _⟩ => h (by rwa [← byteSum_eq_sum])
  · exact if_neg fun ⟨_, hdir, _⟩ => Bool.false_ne_true (hdir.symm.trans (direction _ h))
  · have payload : rest.dropLast.length = n.toNat := by rw [List.length_dropLast, hlen, Nat.add_sub_cancel]
    rw [ofPayload_eq_none (by rwa [payload])]
    exact ite_self _

/-- A complete frame's last character, undisturbed (R53, R56). -/
theorem exec_completes (he : (s.line l).enabled = true) (hb : (s.line l).inBreak = false)
    (hr : (s.line l).receiver = .inCharacter mark) (ha : (s.line l).assembler = .assembling bs noise)
    (hbs : bs ++ [b] = lead :: n :: rest) (hn : n.toNat ≤ 24) (hlen : rest.length = n.toNat + 1) :
    exec (.character l (.clean b)) s
      = .next ((s.setLine l { (s.line l).decided (.clean b) with assembler := .separating }).judge l
        (lead :: n :: rest) (noise || mark)) := by
  have framing := clean_framing b
  rw [exec_character he hb hr (by rw [framing]; exact fun h => Bool.false_ne_true h.1), framing, clean_byte,
    clean_noisy, Bool.or_false, assemble_extends (by exact ha), hbs, extendFrame_completes hn hlen,
    setAssembler_setLine]

theorem judge_message {toggle : Bool} {m : Message} (h : decodeFrame bs = some (toggle, m)) :
    s.judge l bs noise = s.receive l noise toggle m := by
  rw [State.judge, h]

theorem judge_bad (h : decodeFrame bs = none) : s.judge l bs noise = s.badFrame l := by
  rw [State.judge, h]

/-- A message's frame, in the parts the assembler counts (R190). -/
theorem frame_parts (m : Message) (toggle : Bool) : ∃ lead n rest, m.frame toggle = lead :: n :: rest
    ∧ n.toNat ≤ 24 ∧ rest.length = n.toNat + 1 := by
  obtain ⟨check, hframe⟩ := lineFrame_eq m.kindCode toggle false m.payload
  have length : (BitVec.ofNat 8 m.payload.length).toNat = m.payload.length := by
    rw [BitVec.toNat_ofNat, Nat.mod_eq_of_lt (payload_length_lt m)]
  refine ⟨_, _, _, hframe, ?_, by rw [length, List.length_append, List.length_singleton]⟩
  rw [length]
  have := payload_length m
  simp only [List.mem_cons, Prod.mk.injEq, List.not_mem_nil, or_false] at this
  omega

/-- The last character of a message's frame hands the message on (R56, R57). -/
theorem exec_frame {m : Message} {toggle : Bool} (he : (s.line l).enabled = true) (hb : (s.line l).inBreak = false)
    (hr : (s.line l).receiver = .inCharacter mark) (hm : m.fitsWire = true) (hbs : bs ++ [b] = m.frame toggle)
    (ha : (s.line l).assembler = .assembling bs noise) : exec (.character l (.clean b)) s = .next
      ((s.setLine l { (s.line l).decided (.clean b) with assembler := .separating }).receive l (noise || mark)
        toggle m) := by
  obtain ⟨lead, n, rest, hparts, hn, hlen⟩ := frame_parts m toggle
  have reads := stationLineFramesRoundTrip m toggle hm
  rw [hparts] at reads
  rw [exec_completes he hb hr ha (hbs.trans hparts) hn hlen, judge_message reads]

/-- A character of a frame that it neither completes nor shows too long joins it (R56). -/
theorem assemble_joins (ha : x.assembler = .assembling bs mark) (hbs : bs ≠ [])
    (hn : ∀ n, (bs ++ [b])[1]? = some n → n.toNat ≤ 24 ∧ bs.length + 1 < 3 + n.toNat) :
    (s.setLine l x).assemble l b false noise
      = s.setLine l { x with assembler := .assembling (bs ++ [b]) (mark || noise) } := by
  obtain ⟨lead, n, rest, hparts⟩ : ∃ lead n rest, bs ++ [b] = lead :: n :: rest := by
    cases bs with
    | nil => exact absurd rfl hbs
    | cons a bs =>
      cases bs with
      | nil => exact ⟨a, b, [], rfl⟩
      | cons a' bs => exact ⟨a, a', bs ++ [b], rfl⟩
  have length : (lead :: n :: rest).length = bs.length + 1 := by
    rw [← hparts, List.length_append, List.length_singleton]
  obtain ⟨hlow, hshort⟩ := hn n (by rw [hparts]; rfl)
  rw [assemble_extends ha, hparts, extendFrame_joins hlow (by omega), setAssembler_setLine]

/-- Settles O14: the samples one by one, the character by what is decided of it, the frame by its length byte. -/
theorem receivedCharactersMakeUpTheFrame : Obligations.ReceivedCharactersMakeUpTheFrame := by
  refine ⟨fun s l ones zeros seen n tail a x y z low hr hseen hlow htail => ⟨fun he samples => ?_, fun he =>
      ⟨fun ho hn => ?_, fun ho hz => exec_zero he hr ho hz, fun ho hz => exec_zero_breakCharacter he hr ho hz,
        fun hn => ?_, fun hn => exec_one_idleRun he hr (by rwa [hseen]), fun before behind t hbefore ht => ?_⟩⟩,
    ⟨fun n k xs hn => ⟨onesRun_replicate hn, onesRun_behind_zero n k xs⟩, fun c => ⟨samples_length c,
      fun k hk => samples_start c hk, fun bit k hk => samples_data c bit hk, fun k hk => samples_stop c hk⟩⟩,
    fun s l c x mark he hb hr hf hx => ?_, fun s l c x mark he => ⟨fun h => exec_character_outside h,
      fun hr => ⟨fun hb hc => exec_character_inBreak he hb hr hc, fun hb hc hx => ?_⟩⟩,
    fun b => ⟨clean_byte b, clean_framing b, clean_noisy b⟩,
    ⟨fun s l m toggle noise mark bs b he hb hr hm hbs ha => exec_frame he hb hr hm hbs ha,
      fun s l noise mark bs b lead n rest he hb hr ha hbs hn hlen hbad => ?_⟩⟩
  · exact congrArg _ (if_neg (by rw [he]; exact Bool.false_ne_true))
  · have checked := exec_startCheck (a := a) (x := x) (y := y) (z := z) he hr ho (by rwa [hseen])
    rw [← hlow, onesRun_startCheck, ← htail, startVerified_eq, State.setReceiver,
      ← apply_ite (s.setLine l)] at checked
    exact checked
  · rw [exec_one he hr (by rwa [hseen]), hseen]
    rfl
  · rw [exec_samples he] at hbefore
    cases hbefore
    rw [exec_samples he, exec_samples ht, takeSamples_append]
  · have notBreak : ¬(c.framing = true ∧ c.byte = 0) := by
      rw [hf]
      exact fun h => Bool.false_ne_true h.1
    have hexec := exec_character he hb hr notBreak
    rw [show (s.line l).decided c = x from hx.symm, hf] at hexec
    have assembler : x.assembler = (s.line l).assembler := by rw [hx]
    rw [hexec]
    refine ⟨fun ha => congrArg _ (assemble_ignores (assembler ▸ ha) ..),
      fun ha => congrArg _ (assemble_lead (assembler.trans ha) _),
      fun bs noise ha hbs hn => congrArg _ (assemble_joins (assembler.trans ha) hbs hn)⟩
  · have hexec := exec_character he hb hr hc
    rw [show (s.line l).decided c = x from hx.symm] at hexec
    have assembler : x.assembler = (s.line l).assembler := by rw [hx]
    rw [← assembler]
    refine ⟨fun ha hf => hexec.trans (congrArg _ (assemble_ignores ha ..)), fun h => ⟨_, hexec, ?_⟩⟩
    obtain ⟨hf, ha⟩ | ha | ⟨lead, noise, ha, hlong⟩ := h
    · rw [hf]
      exact assemble_framing_counts (ha.imp_right .inr) _
    · exact assemble_separating ha ..
    · cases hf : c.framing with
      | false => exact assemble_tooLong ha hlong
      | true => exact assemble_framing_counts (.inr (.inr ⟨_, _, ha⟩)) _
  · rw [hbs] at hbad
    refine ⟨_, exec_completes he hb hr ha hbs hn hlen, ?_⟩
    rw [judge_bad (decodeFrame_eq_none hlen hbad)]
    exact badFrame_counts ..

end Characters

end Sys2Proof.Machine

namespace Sys2Proof.Machine

/-! ### ATTACH_PLANT and DETACH_PLANT (R110, R112) -/

section PlantAttaching

variable {s t u : State} {i : Fin 4}

/-! #### A factor computed afresh (R125, R126) -/

/-- Where F stays as it was, nothing is told (R126). -/
theorem recompute_same (h : s.water.withFactors.factor = s.water.factor) :
    s.recompute = s.onWater Water.withFactors := by
  have unchanged : decide (s.water.withFactors.factor ≠ s.water.factor) = false := decide_eq_false (not_not_intro h)
  have low : ¬(0 < s.water.factor ∧ s.water.withFactors.factor = 0) := by omega
  have crossing : ¬(s.water.factor < s.thresholds.resume ∧ s.thresholds.resume ≤ s.water.withFactors.factor) := by
    omega
  rw [recompute_eq_factorTold, State.factorTold]
  have factor : (s.onWater Water.withFactors).water.factor = s.water.withFactors.factor := rfl
  have resume : (s.onWater Water.withFactors).thresholds = s.thresholds := rfl
  rw [factor, resume, unchanged, if_neg crossing, if_neg low]
  rfl

/-- F is 0 while the link is not LIVE (R125). -/
theorem withFactors_dead {w : Water} (h : w.link ≠ .live) : w.withFactors.factor = 0 := if_neg h

/-! #### A factor of 0 told to the stations (R86, R93) -/

/-- From `s` to `t` CUTTING stations have been held with WATER_HOLD, each with its own line, and nothing else has
changed. -/
structure Drained (s t : State) : Prop where
  stations : ∀ i, t.station i = s.station i
    ∨ (s.station i).state = .cutting ∧ (t.station i).state = .holding ∧ (t.station i).condition = .waterHold
  lines : ∀ j, (∀ i, (s.station i).state = .cutting → s.stationLine i ≠ j) → t.line j = s.line j
  rest : t = { s with stations := t.stations, lines := t.lines }

theorem Drained.refl (s : State) : Drained s s := ⟨fun _ => .inl rfl, fun _ _ => rfl, rfl⟩

theorem Drained.water (h : Drained s t) : t.water = s.water := by
  rw [h.rest]

theorem Drained.notices (h : Drained s t) : t.notices = s.notices := by
  rw [h.rest]

/-- Who still cuts has cut all along. -/
theorem Drained.cutting (h : Drained s t) (hi : (t.station i).state = .cutting) : t.station i = s.station i := by
  obtain same | ⟨-, holding, -⟩ := h.stations i
  · exact same
  · cases hi.symm.trans holding

theorem Drained.trans (h : Drained s t) (g : Drained t u) : Drained s u where
  stations i := by
    obtain same | held := g.stations i
    · rw [same]
      exact h.stations i
    · have cut := h.cutting held.1
      rw [cut] at held
      exact .inr held
  lines j hj := by
    have hline (i : Fin 4) : t.stationLine i = s.stationLine i := by
      rw [h.rest]
      rfl
    refine (g.lines j fun i hi => ?_).trans (h.lines j hj)
    rw [hline]
    rw [h.cutting hi] at hi
    exact hj i hi
  rest := by rw [g.rest, h.rest]

/-- A HOLD handed changes the station's own line and record alone (R63, R85). -/
theorem handHold_own (s : State) (i : Fin 4) :
    ∃ x st, s.handHold i = (s.setLine (s.stationLine i) x).setStation i st ∧ st.state = (s.station i).state := by
  rw [State.handHold, State.handSaw, handFrame_eq]
  dsimp only
  split
  · exact ⟨_, _, rfl, rfl⟩
  · exact ⟨_, _, (setStation_station ..).symm, rfl⟩

/-- A CUTTING station held: HOLDING, wet as before, so that no valve is commanded (R86, R123). -/
theorem holdStation_own (h : (s.station i).state = .cutting) (c : Condition) : ∃ x st,
    s.holdStation i c = (s.setLine (s.stationLine i) x).setStation i st ∧ st.state = .holding ∧ st.condition = c := by
  obtain ⟨x, st, hhand, hstate⟩ := handHold_own s i
  have wet : st.state.wet = StationState.wet .holding := by
    rw [hstate, h]
    rfl
  refine ⟨x, { st with
    state := .holding, condition := c, replyTimer := none, queryTimer := some (s.settings.replyTimeout / 2) }, ?_,
    rfl, rfl⟩
  unfold State.holdStation
  rw [h]
  dsimp only
  rw [hhand, station_setStation, if_pos rfl, enterState_own (by exact wet)]
  simp only [State.setStation, put_put_same]

theorem drained_holdStation (h : (s.station i).state = .cutting) : Drained s (s.holdStation i .waterHold) := by
  obtain ⟨x, y, hheld, hstate, hcondition⟩ := holdStation_own h .waterHold
  rw [hheld]
  refine ⟨fun j => ?_, fun j hj => ?_, rfl⟩
  · rw [station_setStation]
    split
    · next e =>
      subst e
      exact .inr ⟨h, hstate, hcondition⟩
    · exact .inl rfl
  · exact slot_put_ne _ _ (hj i h)

/-- A factor of 0 reported holds a CUTTING station and no other one stirs (R86, R93, R94). -/
theorem drained_reportFactor (hf : s.water.factor = 0) (hr : 1 ≤ s.thresholds.resume) (i : Fin 4) :
    Drained s (s.reportFactor true i) ∧ ((s.reportFactor true i).station i).state ≠ .cutting := by
  have short : ¬(s.thresholds.resume ≤ s.water.factor) := by omega
  unfold State.reportFactor
  split
  · next h =>
    rw [if_pos rfl, if_pos hf]
    refine ⟨drained_holdStation h, ?_⟩
    rw [holdStation_state h]
    nofun
  · next h =>
    rw [State.tryStaged, if_neg fun e => short e.2]
    exact ⟨.refl s, by rw [h]; nofun⟩
  · next h =>
    rw [State.tryWaterHeld, if_neg short, ite_self]
    exact ⟨.refl s, by rw [h]; nofun⟩
  · next h _ _ => exact ⟨.refl s, h⟩

theorem drained_reports (hf : s.water.factor = 0) (hr : 1 ≤ s.thresholds.resume) (is : List (Fin 4)) :
    Drained s (is.foldl (fun t i => t.reportFactor true i) s)
      ∧ ∀ i ∈ is, ((is.foldl (fun t i => t.reportFactor true i) s).station i).state ≠ .cutting := by
  induction is generalizing s with
  | nil => exact ⟨.refl s, nofun⟩
  | cons i is ih =>
    obtain ⟨first, held⟩ := drained_reportFactor hf hr i
    obtain ⟨others, none⟩ := ih (s := s.reportFactor true i) (by rw [first.water]; exact hf)
      (by rw [State.thresholds, first.water]; exact hr)
    refine ⟨first.trans others, fun j hj => ?_⟩
    obtain rfl | hj := List.mem_cons.mp hj
    · intro cut
      rw [List.foldl_cons] at cut
      rw [others.cutting cut] at cut
      exact held cut
    · exact none j hj

/-- F computed at a link that is not LIVE: where it falls to 0 the CUTTING stations are held and WATER tells it
(R86, R126). -/
theorem recompute_dead (hl : s.water.link ≠ .live) (hr : 1 ≤ s.thresholds.resume) :
    ∃ t, Drained (s.onWater Water.withFactors) t
      ∧ (0 < s.water.factor → ∀ i, (t.station i).state ≠ .cutting)
      ∧ (s.water.factor = 0 → t = s.onWater Water.withFactors)
      ∧ s.recompute = if 0 < s.water.factor then t.raiseWater .fellToZero else t := by
  have hf : s.water.withFactors.factor = 0 := withFactors_dead hl
  obtain hold | hold := Nat.eq_zero_or_pos s.water.factor
  · refine ⟨_, .refl _, fun e => absurd hold (Nat.ne_of_gt e), fun _ => rfl, ?_⟩
    rw [if_neg (by omega)]
    exact recompute_same (hf.trans hold.symm)
  · obtain ⟨drained, none⟩ := drained_reports (s := s.onWater Water.withFactors) hf hr (List.finRange 4)
    refine ⟨_, drained, fun _ i => none i (List.mem_finRange i), fun e => absurd e (Nat.ne_of_gt hold), ?_⟩
    have changed : decide (s.water.withFactors.factor ≠ s.water.factor) = true := decide_eq_true (by omega)
    have crossing : ¬(¬s.thresholds.resume ≤ s.water.factor ∧ s.thresholds.resume ≤ s.water.withFactors.factor) := by
      omega
    have factor : (s.onWater Water.withFactors).water.factor = s.water.withFactors.factor := rfl
    rw [State.recompute, State.recomputeFrom, factor, changed, if_neg crossing, if_pos ⟨hold, hf⟩, if_pos hold]
    rfl

/-! #### ATTACH_PLANT (R110) -/

/-- The water record as the plant is attached. -/
def Water.attached (w : Water) (period : Nat) : Water :=
  { w with
    link := .listening, clear := none, settling := none, meterBaseline := none, reported := none
    queryTimer := some period }

/-- The state with frames waiting on the plant's line, just enabled, and the water record `w` (R110). -/
def State.plantLineFresh (s : State) (q : List TxFrame) (w : Water) : State :=
  { s.setLine s.plantLine (s.freshLine s.plantLine q) with water := w }

theorem handPlant_plantLineFresh (s : State) (q : List TxFrame) (w : Water) (m : TxMessage) :
    (s.plantLineFresh q w).handPlant m = s.plantLineFresh (queueFrame q { toggle := false, message := m }) w := by
  have line : (s.plantLineFresh q w).line s.plantLine = s.freshLine s.plantLine q := slot_put_same ..
  have handed : (s.plantLineFresh q w).handPlant m
      = (s.plantLineFresh q w).setLine s.plantLine
        (((s.plantLineFresh q w).line s.plantLine).handed { toggle := false, message := m }) := handFrame_eq ..
  rw [handed, line, handed_enabled rfl]
  exact congrArg (fun ls => { s with lines := ls, water := w }) (put_put_same ..)

theorem attachPlant_attaches (hf : s.factorLaw) (h : s.water.link = .detached) : attachPlant s =
    done (s.plantLineFresh
        [{ toggle := false, message := .valves s.water.commanded }, { toggle := false, message := .query }]
        (s.water.attached s.plantQueryPeriod).withFactors) (leBytes 1 s.plantLine.val) := by
  obtain ⟨-, hdead, -⟩ := hf
  have old : s.water.factor = 0 := hdead (by rw [h]; nofun)
  have new : (s.water.attached s.plantQueryPeriod).withFactors.factor = 0 := withFactors_dead nofun
  have handed : ((s.plantLineFresh [] (s.water.attached s.plantQueryPeriod)).handPlant
      (.valves s.water.commanded)).handPlant .query = s.plantLineFresh
        [{ toggle := false, message := .valves s.water.commanded }, { toggle := false, message := .query }]
        (s.water.attached s.plantQueryPeriod) := by
    rw [handPlant_plantLineFresh, handPlant_plantLineFresh]
    rfl
  refine (if_neg (not_not_intro h)).trans (congrArg (done · _) ?_)
  exact (congrArg State.recompute handed).trans (recompute_same (new.trans old.symm))

/-! #### DETACH_PLANT (R112) -/

/-- The water record as the plant is detached, its factors yet to be computed. -/
def Water.detached (w : Water) : Water :=
  { w with
    link := .detached, queryTimer := none, staleTimer := none, settle := Vector.replicate 5 .stopped
    meterBaseline := none
    press := if w.press = Press.suspended then Press.suspended else Press.idle
    pressTimer := none
    commanded := put w.commanded makeUpValve false }

/-- The make-up valve of a detached plant is commanded CLOSED; its disabled line drops the VALVES (R121, R123). -/
theorem decideMakeUp_detached (hl : (s.line s.plantLine).enabled = false) (h : s.water.link = .detached) :
    s.decideMakeUp = s.onWater fun w => { w with commanded := put w.commanded makeUpValve false } := by
  have closed : s.water.makeUpCommand = false := by
    rw [Water.makeUpCommand, h]
  have told : s.plantLineTold makeUpValve false = s.line s.plantLine := by
    rw [plantLineTold_eq, if_neg]
    rw [hl]
    exact fun e => Bool.false_ne_true e.2
  have settle : s.water.settleOnCommand makeUpValve false s.settings.valveSettleTime = s.water.settle := by
    rw [Water.settleOnCommand, h]
  rw [State.decideMakeUp, closed, commandValve_eq, told, settle]
  exact congrArg (fun ls => { s with
    lines := ls, water := { s.water with commanded := put s.water.commanded makeUpValve false } })
    (put_slot s.lines s.plantLine)

/-- The state behind DETACH_PLANT's steps before F is computed (R112). -/
def State.plantDetached (s : State) : State :=
  { s.setLine s.plantLine (s.line s.plantLine).disabled with water := s.water.detached }

theorem plantDetached_line (s : State) : s.plantDetached.line s.plantLine = (s.line s.plantLine).disabled :=
  slot_put_same ..

/-- A press that is not SUSPENDED returns to IDLE, its timer stopped (R112). -/
theorem setPress_detached (s : State) : s.setPress s.water.press.detached = s.onWater fun w =>
    { w with press := if w.press = .suspended then .suspended else .idle, pressTimer := none } := by
  rw [State.setPress, State.onWater, State.onWater]
  cases s.water.press <;> rfl

theorem detachPlant_detaches (h : s.water.link ≠ .detached) :
    detachPlant s = done s.plantDetached.recompute [] := by
  obtain ⟨w, hw⟩ : ∃ w : Water, w = { s.water.detached with commanded := s.water.commanded } := ⟨_, rfl⟩
  obtain ⟨u, hu⟩ : ∃ u : State, u = { s.plantDetached with water := w } := ⟨_, rfl⟩
  have press := setPress_detached ({ s.disableLine s.plantLine with water := { s.water with
    link := .detached, queryTimer := none, staleTimer := none, settle := Vector.replicate 5 .stopped
    meterBaseline := none } })
  have closed : u.decideMakeUp = s.plantDetached := by
    have line : (u.line u.plantLine).enabled = false := by
      rw [hu]
      exact congrArg Line.enabled (plantDetached_line s)
    rw [decideMakeUp_detached line (by rw [hu, hw]; rfl), hu, hw]
    rfl
  refine (if_neg h).trans (congrArg (done · _) (congrArg State.recompute ?_))
  refine (congrArg State.decideMakeUp (press.trans ?_)).trans closed
  rw [hu, hw]
  rfl

/-- F computed for a detached plant: 0, the CUTTING stations held, WATER raised if F fell (R112, R126). -/
theorem plantDetached_recompute (hr : 1 ≤ s.thresholds.resume) :
    ∃ t, Drained (s.plantDetached.onWater Water.withFactors) t
      ∧ (0 < s.water.factor → ∀ i, (t.station i).state ≠ .cutting)
      ∧ (s.water.factor = 0 → t = s.plantDetached.onWater Water.withFactors)
      ∧ s.plantDetached.recompute = { t with notices := { s.notices with
        sources := if 0 < s.water.factor then
          put s.notices.sources waterSource ((slot s.notices.sources waterSource).raised
            (.water .fellToZero 0 t.water.fClear t.water.fSettle t.water.fSolids))
          else s.notices.sources } } := by
  obtain ⟨t, drained, held, stays, hrecompute⟩ := recompute_dead (s := s.plantDetached) nofun hr
  refine ⟨t, drained, held, stays, hrecompute.trans ?_⟩
  have old : s.plantDetached.water.factor = s.water.factor := rfl
  have hnotices : t.notices = s.notices := drained.notices
  have hfactor : t.water.factor = 0 := by
    rw [drained.water]
    exact withFactors_dead nofun
  rw [old]
  split
  · rw [State.raiseWater, hfactor, State.raise, hnotices]
  · rw [← hnotices]

/-- Settles O33: the line and the record first, then the factor told, which lifts no hold at 0. -/
theorem plantIsAttachedAndDetached : Obligations.PlantIsAttachedAndDetached := by
  refine ⟨fun s echo hs => ⟨fun h => exec_refuse hs rfl rfl (if_pos h),
    fun hf h => exec_done hs rfl rfl (attachPlant_attaches hf h)⟩,
    fun s echo hs => ⟨fun h => exec_refuse hs rfl rfl (if_pos h), fun h hr => ?_⟩⟩
  obtain ⟨t, drained, held, stays, hrecompute⟩ := plantDetached_recompute hr
  have hexec := exec_done hs rfl rfl (detachPlant_detaches h)
  have hwater : t.water = s.water.detached.withFactors := drained.water
  have hfactor : t.water.factor = 0 := by
    rw [hwater]
    exact withFactors_dead nofun
  rw [hrecompute] at hexec
  refine ⟨_, hexec, hwater, hfactor, fun j hj hcut => ?_, fun hp => ?_, fun i hi hf => ?_, fun i hi => ?_,
    fun src hsrc => ?_, ?_, ?_⟩
  · exact (drained.lines j hcut).trans (slot_put_ne _ _ hj.symm)
  · rw [reset_line]
    exact (drained.lines s.plantLine fun i _ => hp i).trans (plantDetached_line s)
  · obtain same | ⟨-, hholding⟩ := drained.stations i
    · exact absurd ((congrArg Station.state same).trans hi) (held hf i)
    · exact hholding
  · obtain hdry | hzero := hi
    · obtain same | ⟨hcut, -⟩ := drained.stations i
      · exact same
      · exact absurd hcut hdry
    · have same : t.station i = s.station i := by
        rw [stays hzero]
        rfl
      exact same
  · dsimp only
    split
    · exact slot_put_ne _ _ hsrc.symm
    · rfl
  · dsimp only
    split
    · exact slot_put_same ..
    · rfl
  · rw [drained.rest]
    rfl

end PlantAttaching

end Sys2Proof.Machine
